-- ==== Sys2Proof/Word.lean ====
section
/-! DEFINITION. The plainest types of the model: bytes, 16-bit words that wrap, pad numbers and the indices of the cap plan. -/

namespace Sys2Proof

/-- A byte of a frame (R181). -/
abbrev Byte := BitVec 8

/-- A 16-bit quantity that wraps modulo 65,536: slot numbers, deadlines, meter values (00 section 0.6, R14, R99). -/
abbrev Word16 := BitVec 16

/-- A pad number, 0..23 (00 section 0.6). -/
abbrev Pad := Fin 24

/-- The class of a session, 0..3 with 0 the most urgent (R1). -/
abbrev Class := Fin 4

/-- A line of the cap plan: 0 the feeder line, p + 1 the line of pad p (R116). -/
abbrev PlanLine := Fin 25

/-- A column of the cap plan (R116). -/
abbrev PlanCol := Fin 16

/-- Every pad, in ascending pad number. -/
def padList : List Pad := List.finRange 24

/-- Every class, the most urgent first. -/
def classList : List Class := List.finRange 4

@[simp] theorem mem_padList (p : Pad) : p ∈ padList := List.mem_finRange p

@[simp] theorem mem_classList (k : Class) : k ∈ classList := List.mem_finRange k

theorem padList_nodup : padList.Nodup := List.nodup_finRange 24

end Sys2Proof
end

