-- ==== Sys2Proof/Syntax.lean ====
section
/-! DEFINITION. The commands of the block: one constructor of `Instr` per row of spec/opcode_table.json. -/

namespace Sys2Proof

/-- The three request ports (00 section 0.3). -/
inductive Port where
  | d | f | s
deriving DecidableEq, Repr

/-- The eight debounced input lines, in the order of R102 and of the levels byte of R185. -/
inductive Line where
  | fldEnable | srcALive | srcATaken | srcBLive | srcBTaken | slotAlign | headroomGiven | svcKey
deriving DecidableEq, Repr

/-- The four source lines that the row SOURCE_LINE_CHANGE ranges over (R105). -/
inductive SourceLine where
  | aLive | aTaken | bLive | bTaken
deriving DecidableEq, Repr

/-- The commands. Operands are what comes from outside the part: strap levels, the port, bytes on a line, a raw level.
A request row (`bind`, `shed`, ...) is the event in which the owning block takes the request that its port holds, so the
request's parameters are those of the frame the port received (R166; notes/assumptions/6.md). -/
inductive Instr where
  /-- RESET_N asserted or power-on, with the strap levels read at it (R27, R81). -/
  | deviceReset (sharedStrap : Bool) (fieldId : Byte)
  /-- Bytes arrive on RX up to and including a closing marker (R166, R182). -/
  | frameReceived (port : Port) (bytes : List Byte)
  /-- A silence of 10 ms or more between two bytes of a frame (R167). -/
  | frameSilenceDrop (port : Port)
  /-- The bytes received pass 76 without a closing marker (R167, R182). -/
  | frameOverrunDrop (port : Port)
  /-- The last byte of the pending request's own answer has been sent (R166). -/
  | answerSent (port : Port)
  /-- RX has been low for 2 ms (R175). -/
  | portBreak (port : Port)
  | ping (port : Port)
  | readChanges (port : Port)
  | queryPad (port : Port)
  | queryField (port : Port)
  | bind
  | amend
  | release
  | setWindow
  | writeCells
  | readCells
  | setLimits
  | shed
  | endShed
  | setSlot
  | lockPads
  | openService
  | confirmService
  | closeService
  | unlockPads
  | clearFault
  | setRating
  | readFault
  /-- The 25 ms write in progress completes (R163). -/
  | storeWriteComplete
  /-- The next poll slot of the link cycle starts (R132). -/
  | pollSlotStart
  /-- Bytes of a reply arrive in the reply window (R134, R186). -/
  | pollReport (reply : List Byte)
  /-- The reply window closes without a valid reply (R137). -/
  | pollMiss
  /-- The miss that makes the link LOST (R138). -/
  | linkLoss
  /-- The session controller takes a report (R6). -/
  | sessionReport
  /-- The session controller takes the report that brings the soft-fault run to its limit (R21). -/
  | softPersistLatch
  /-- The allocator takes a report (R75). -/
  | allocatorReport
  /-- The allocator takes the report that brings the compliance count to its limit (R77). -/
  | noncompliantLatch
  /-- The poll outcome that brings a hold's polls remaining to 0 (R74). -/
  | distrustHoldExpiry
  /-- The first moment at which the link is free for the broadcast STOP (R143). -/
  | broadcastStop
  /-- The allocator takes a round of its own (R49). -/
  | midSlotRound
  /-- The slot phase would reach 3,600 (R90). -/
  | slotBoundary
  /-- The boundary at which the shed's countdown ends (R109). -/
  | shedExpiry
  /-- The boundary at which a bind window runs out (R11). -/
  | bindExpiry
  /-- The boundary whose round returns a starved session (R41). -/
  | starvationReturn
  /-- SLOT_ALIGN's debounced level becomes active (R92, R93). -/
  | slotAlignActive
  /-- SLOT_ALIGN's debounced level is released (R94). -/
  | slotAlignRelease
  /-- FLD_ENABLE has settled at its raw level (R104). -/
  | fldEnableChange
  /-- A source line has settled at its raw level (R105). -/
  | sourceLineChange (line : SourceLine)
  /-- HEADROOM_GIVEN has settled at its raw level (R83). -/
  | headroomGivenChange
  /-- SVC_KEY has settled at its raw level (R156). -/
  | svcKeyChange
  /-- The 30 s open expiry runs out (R156). -/
  | openExpiry
  /-- The end of a 10 ms step of the time base (R89). -/
  | slotPhaseRise
  /-- The raw level of a line becomes `level` (R102). -/
  | rawLevelChange (line : Line) (level : Bool)
  /-- An opening marker arrives on RX (R182). -/
  | openingMarkerReceived (port : Port)
  /-- RX returns high after a break (R175). -/
  | breakLineReturnsHigh (port : Port)
  /-- The last byte of a BUSY answer has been sent (R171). -/
  | busyAnswerSent (port : Port)
  /-- Power is lost (R165). -/
  | powerLoss
deriving DecidableEq, Repr

end Sys2Proof
end

