-- ==== Sys2Proof/Decode.lean ====
section
/-! DEFINITION. The opcode table spells no command by bits: every row of spec/opcode_table.json has an empty field list. The
byte layouts of the request frames and of the status reply (R181 to R186) are decoded in Machine/Frames.lean. -/

namespace Sys2Proof

/-- The command that a word of the opcode table spells: none, as no row of the table gives bits. -/
def decodeTableWord (_nbits _w : Nat) : Option Instr := none

end Sys2Proof
end

