-- ==== Sys2Proof/Table.lean ====
section
/-! DEFINITION. A table of a fixed number of rows, one per index: plain data that the kernel can evaluate and compare. -/

namespace Sys2Proof

/-- `n` rows, one for each index below `n`. -/
structure Table (n : Nat) (α : Type) where
  rows : List α
  size : rows.length = n
deriving DecidableEq, Repr

namespace Table

variable {n : Nat} {α : Type}

/-- The row at an index. -/
def get (t : Table n α) (i : Fin n) : α :=
  t.rows.get ⟨i.val, by rw [t.size]; exact i.isLt⟩

/-- The table with one row replaced. -/
def set (t : Table n α) (i : Fin n) (x : α) : Table n α :=
  ⟨t.rows.set i.val x, by rw [List.length_set, t.size]⟩

/-- The table whose every row is `x`. -/
def fill (n : Nat) (x : α) : Table n α :=
  ⟨List.replicate n x, List.length_replicate⟩

/-- The table whose row at `i` is `f i`. -/
def tabulate (f : Fin n → α) : Table n α :=
  ⟨(List.finRange n).map f, by rw [List.length_map, List.length_finRange]⟩

@[ext] theorem ext_get {t u : Table n α} (h : ∀ i, t.get i = u.get i) : t = u := by
  obtain ⟨a, ha⟩ := t
  obtain ⟨b, hb⟩ := u
  congr
  refine List.ext_getElem (ha.trans hb.symm) fun i h1 _ => ?_
  exact h ⟨i, ha ▸ h1⟩

@[simp] theorem get_set_self (t : Table n α) (i : Fin n) (x : α) : (t.set i x).get i = x := by
  simp [get, set]

@[simp] theorem get_set_ne (t : Table n α) {i j : Fin n} (x : α) (h : j ≠ i) :
    (t.set i x).get j = t.get j := by
  have : i.val ≠ j.val := fun e => h (Fin.ext e.symm)
  simp [get, set, this]

theorem get_set (t : Table n α) (i j : Fin n) (x : α) :
    (t.set i x).get j = if j = i then x else t.get j := by
  by_cases h : j = i
  · subst h; simp
  · simp [h]

@[simp] theorem get_fill (i : Fin n) (x : α) : (fill n x).get i = x := by
  simp [get, fill]

@[simp] theorem get_tabulate (f : Fin n → α) (i : Fin n) : (tabulate f).get i = f i := by
  simp [get, tabulate]

end Table

end Sys2Proof
end

