-- ==== Sys2Proof/Machine/State.lean ====
section
/-! DEFINITION. The state of the part: every piece of state the manual gives each of its nine blocks, as plain data, and the
state right after device reset. Where a field exists only in some conditions it is an `Option` or an argument of the
constructor that names the condition. -/

namespace Sys2Proof.Machine

/-- Why a step could stop with a fault: never. The manual has no event that stops the part (INVENTORY.md, Faults), so the
type is empty. A "fault" of the manual is a charger's fault, which is state (R151). -/
inductive Fault where
deriving DecidableEq, Repr

/-- Why a step could be refused. -/
inductive Refusal where
  /-- Raised by `exec` for a row that has no meaning yet (safe: nothing can be proved of such a step). No row is left so. -/
  | notModelled (mnemonic : String)
deriving DecidableEq, Repr

/-! ## Names the rules use -/

/-- The charger states of R136. -/
inductive ChargerState where
  | empty | coupling | ready | delivering | decoupling | softFault | hardFault | disabled
deriving DecidableEq, Repr

/-- The ten pad states (section 1.2). -/
inductive PadStateName where
  | vacant | seen | binding | eligible | topped | releasing | clearing | faulted | locked | offline
deriving DecidableEq, Repr

/-- The outcome codes of a session ending (R1, R22). -/
inductive Ending where
  | released | departed | toppedDeparted | cancelled | bindExpired | bindMismatch | lockout | fault | linkLost
deriving DecidableEq, Repr

/-- The causes of a latched fault (R151). -/
inductive FaultCause where
  | chargerHard | softPersist | noncompliant | tagChange
deriving DecidableEq, Repr

/-- The limiting causes of the effective ceiling (R104). -/
inductive LimitCause where
  | plan | fallback | shed | tie | noSource | disabled
deriving DecidableEq, Repr

/-- Link states (R137). -/
inductive LinkState where
  | unknown | up | lost
deriving DecidableEq, Repr

/-- Service states (R154). -/
inductive ServiceState where
  | closed | opening | opened
deriving DecidableEq, Repr

/-- Slot timer modes (R89). -/
inductive TimerMode where
  | running | held
deriving DecidableEq, Repr

/-- Feeder modes (R81). -/
inductive FeederMode where
  | dedicated | shared
deriving DecidableEq, Repr

/-- Traversal orders of the cap plan's window (R118). -/
inductive Order where
  | lineFirst | columnFirst
deriving DecidableEq, Repr

/-- Pad link commands (R133). -/
inductive Command where
  | idle | hold | run | finish | off
deriving DecidableEq, Repr

/-- Answer statuses (R183). -/
inductive Status where
  | ok | accepted | busy | notPermitted | unknown | malformed | range | state | mismatch | noService | sequence
  | notCommissioned
deriving DecidableEq, Repr

/-! ## Session controller -/

/-- What dispatch asked for (R1). -/
structure Terms where
  cls : Class
  target : Nat
  deadline : Word16
deriving DecidableEq, Repr

/-- The fields that exist in ELIGIBLE, TOPPED and RELEASING only (R1). -/
structure Meter where
  delivered : Nat
  ref : Option Word16
  jumps : Nat
  softRun : Nat
deriving DecidableEq, Repr

/-- The three states of a session that has been matched (R1). -/
inductive Matched where
  | eligible | topped | releasing
deriving DecidableEq, Repr

/-- The pad state together with the fields R1 makes present in it; the token of every state without one is 0. -/
inductive PadBody where
  | vacant
  | seen (tag : Nat)
  | binding (token tag : Nat) (terms : Terms) (elapsed : Nat)
  | matched (phase : Matched) (token tag : Nat) (terms : Terms) (meter : Meter)
  | clearing (tag : Nat)
  | faulted
  | locked
  | offline
deriving DecidableEq, Repr

/-- The record of the most recent session ending (R1). -/
structure LastOutcome where
  ending : Ending
  delivered : Nat
  tag : Nat
  slot : Word16
deriving DecidableEq, Repr

/-- One row of the pad session table (R1), with the token sequence kept beside it (R2). -/
structure SessionRec where
  body : PadBody
  tokenSeq : Nat
  last : Option LastOutcome
deriving DecidableEq, Repr

/-! ## Allocator -/

/-- The exposure mode with the hold's own fields (R70, R73). -/
inductive ExposureMode where
  | start
  | normal
  | hold (value pollsRemaining : Nat)
deriving DecidableEq, Repr

/-- What the allocator keeps for one pad. A pending raise is `setpoint < target` (R63). -/
structure AllocRec where
  target : Nat
  setpoint : Nat
  rampBase : Nat
  mode : ExposureMode
  measured : Nat
  accept : Option Nat
  compliance : Nat
  starvation : Nat
  paused : Bool
deriving DecidableEq, Repr

/-! ## Feeder supervisor -/

/-- One debounced line (R102): its raw level and its taken level, none before the first (R103). -/
structure LineRec where
  raw : Bool
  taken : Option Bool
deriving DecidableEq, Repr

/-- The eight debounced lines. -/
structure Lines where
  fldEnable : LineRec
  srcALive : LineRec
  srcATaken : LineRec
  srcBLive : LineRec
  srcBTaken : LineRec
  slotAlign : LineRec
  headroomGiven : LineRec
  svcKey : LineRec
deriving DecidableEq, Repr

/-- An active shed (R107). -/
structure Shed where
  ceiling : Nat
  toRun : Nat
deriving DecidableEq, Repr

/-- The shed, the values of SET LIMITS (R110), and the effective ceiling with its cause (R104). -/
structure Feeder where
  shed : Option Shed
  ramp : Nat
  pmin : Nat
  fallback : Nat
  tie : Nat
  ceiling : Nat
  cause : LimitCause
deriving DecidableEq, Repr

/-! ## Slot timer and cap plan -/

/-- The slot timer (R89). -/
structure SlotTimer where
  slot : Word16
  phase : Nat
  mode : TimerMode
deriving DecidableEq, Repr

/-- The window, its order and its pointer (R118). -/
structure Window where
  lineStart : PlanLine
  lineEnd : PlanLine
  colStart : PlanCol
  colEnd : PlanCol
  order : Order
  line : PlanLine
  col : PlanCol
deriving DecidableEq, Repr

/-- The 400 cells, unset or a value (R116), and the window. -/
structure CapPlan where
  cells : Table 25 (Table 16 (Option Nat))
  window : Window
deriving DecidableEq, Repr

/-! ## Pad link controller -/

/-- The last report kept of a pad (R142). -/
structure LastReport where
  state : ChargerState
  echo : Nat
  meter : Option Word16
deriving DecidableEq, Repr

/-- What the pad link controller keeps for one pad (R137, R142). -/
structure LinkRec where
  state : LinkState
  misses : Nat
  last : Option LastReport
deriving DecidableEq, Repr

/-- The parts of a report as taken (R135). -/
structure Report where
  state : ChargerState
  echo : Nat
  measured : Nat
  meter : Option Word16
  tag : Option Nat
  accept : Option Nat
  code : Option Nat
deriving DecidableEq, Repr

/-- What stood before either block took a report: the setpoint the compliance test uses, and the exposure and START mode
from which a latch of the report starts its hold (R75, R73). -/
structure Before where
  setpoint : Nat
  exposure : Nat
  wasStart : Bool
deriving DecidableEq, Repr

/-- A report handed on to the session controller and the allocator and not yet taken by both (R141, R75). `latched` says
that the session controller latched a fault from it; `noncompliant` that the allocator's latch waits for the session
controller to take it (R77). `lostSince` says that the pad's link was lost after the report was handed on (R141), and
`heldSince` that a later report of the pad latched a fault before the allocator took this one (R74;
notes/assumptions/12.md). -/
structure Handed where
  pad : Pad
  report : Report
  bySession : Bool
  byAllocator : Bool
  before : Option Before
  latched : Bool
  noncompliant : Bool
  lostSince : Bool
  heldSince : Bool
deriving DecidableEq, Repr

/-- The link cycle (R131), the exchange in progress (R132) and the broadcast-stop request (R143). `received` holds the bytes
that have arrived in the reply window of the exchange, at most the sixteen of a reply (R186; notes/assumptions/31.md). `tx`
holds the frames sent by the latest event that sent any (the model's own field, notes/assumptions/20.md). -/
structure LinkCtl where
  stopRequest : Bool
  nextPad : Pad
  exchange : Option Pad
  received : List Byte
  tx : List (List Byte)
deriving DecidableEq, Repr

/-! ## Retained store -/

/-- A latched fault record (R151). -/
structure FaultRec where
  cause : FaultCause
  code : Option Nat
  slot : Word16
  tag : Option Nat
  repeats : Nat
deriving DecidableEq, Repr

/-- The 72 records: a fault record that is not latched is `none` (R151, R162). -/
structure StoreImage where
  lockout : Table 24 Bool
  rating : Table 24 Nat
  fault : Table 24 (Option FaultRec)
deriving DecidableEq, Repr

/-- The three kinds of record, in the order of R163. -/
inductive RecordKind where
  | lockout | rating | fault
deriving DecidableEq, Repr

/-- A record named by its kind and pad (R163). -/
structure RecordId where
  kind : RecordKind
  pad : Pad
deriving DecidableEq, Repr

/-- The content of one record. -/
inductive Content where
  | lockout (flag : Bool)
  | rating (kw : Nat)
  | fault (record : Option FaultRec)
deriving DecidableEq, Repr

/-- The write in progress, with the content it took when it began (R163). -/
structure Writing where
  id : RecordId
  content : Content
deriving DecidableEq, Repr

/-- The retained store: image, non-volatile cells, write queue, write in progress (R162, R163). -/
structure Store where
  image : StoreImage
  cells : StoreImage
  writes : List RecordId
  writing : Option Writing
deriving DecidableEq, Repr

/-! ## Request ports -/

/-- A request with its fields decoded at their full width (R183). -/
inductive Request where
  | ping
  | readChanges
  | queryPad (pad : Byte)
  | queryField
  | bind (pad : Byte) (tag target deadline : Word16) (cls : Byte)
  | amend (pad : Byte) (target deadline : Word16) (cls : Byte)
  | release (pad : Byte)
  | setWindow (lineStart lineEnd colStart colEnd order : Byte)
  | writeCells (codes : List Word16)
  | readCells (count : Byte)
  | setLimits (ramp pmin fallback tie : Word16)
  | shed (ceiling : Word16) (duration : Byte)
  | endShed
  | setSlot (slot : Word16)
  | lockPads (base mask : Byte)
  | openService (field : Byte)
  | confirmService (field : Byte)
  | closeService
  | unlockPads (base mask : Byte)
  | clearFault (pad : Byte)
  | setRating (pad : Byte) (rating : Word16)
  | readFault (pad : Byte)
deriving DecidableEq, Repr

/-- An answer before its check and stuffing (R182). -/
structure Answer where
  code : Byte
  tag : Byte
  status : Status
  body : List Byte
deriving DecidableEq, Repr

/-- An answer made and not yet sent: `own` marks the answer of the pending request, the others are BUSY (R171). -/
structure TxItem where
  own : Bool
  answer : Answer
deriving DecidableEq, Repr

/-- A write that a held answer waits for; `skip` while a write of the same record that began before the change is still
in progress, since its completion does not count (R164). -/
structure StoreWait where
  id : RecordId
  skip : Bool
deriving DecidableEq, Repr

/-- The stages of a pending request (R166): handed to its owning block, taken with its answer held for store writes
(R164), answered. -/
inductive Stage where
  | handed (request : Request)
  | held (waits : List StoreWait) (status : Status) (body : List Byte)
  | answered
deriving DecidableEq, Repr

/-- The pending request of a port (R166, R168). -/
structure Pending where
  code : Byte
  tag : Byte
  stage : Stage
deriving DecidableEq, Repr

/-- A change set: pads and FIELD (R172). -/
structure ChangeSet where
  pads : Table 24 Bool
  field : Bool
deriving DecidableEq, Repr

/-- One request port. The port is PENDING while it has a pending request (R166). `part` is the part of a frame received
after its opening marker (R167). `lastSent` holds the bytes of the last answer sent whole (the model's own field,
notes/assumptions/20.md). -/
structure PortRec where
  part : Option (List Byte)
  inBreak : Bool
  pending : Option Pending
  tx : List TxItem
  lastSent : Option (List Byte)
  changes : ChangeSet
deriving DecidableEq, Repr

/-- The three ports. -/
structure Ports where
  d : PortRec
  f : PortRec
  s : PortRec
deriving DecidableEq, Repr

/-! ## The part -/

/-- The state of the part. `pending`, `powered` and `freeDraws` are the model's own (INVENTORY.md, State). -/
structure State where
  pending : List Instr
  powered : Bool
  sessions : Table 24 SessionRec
  alloc : Table 24 AllocRec
  queue : List Pad
  active : List Pad
  roundRequest : Bool
  lines : Lines
  feeder : Feeder
  feederMode : FeederMode
  fieldId : Byte
  timer : SlotTimer
  plan : CapPlan
  links : Table 24 LinkRec
  link : LinkCtl
  handed : List Handed
  service : ServiceState
  store : Store
  ports : Ports
  freeDraws : Nat
deriving DecidableEq, Repr

/-! ## Values after device reset -/

/-- A session record after reset (R27). -/
def SessionRec.reset (body : PadBody) : SessionRec := ⟨body, 0, none⟩

/-- The pad state R3 and R27 give at reset: LOCKED, else FAULTED, else VACANT. -/
def PadBody.ofImage (img : StoreImage) (p : Pad) : PadBody :=
  if img.lockout.get p then .locked else if (img.fault.get p).isSome then .faulted else .vacant

/-- R52, R55, R66, R71, R72, R76, R115, R150. -/
def AllocRec.reset : AllocRec := ⟨0, 0, 0, .start, 0, none, 0, 0, false⟩

/-- A line after reset keeps its raw level, which is outside the part, and has no taken level (R103). -/
def LineRec.reset (l : LineRec) : LineRec := { l with taken := none }

/-- Every line after reset (R103, R115). -/
def Lines.reset (l : Lines) : Lines :=
  ⟨l.fldEnable.reset, l.srcALive.reset, l.srcATaken.reset, l.srcBLive.reset, l.srcBTaken.reset, l.slotAlign.reset,
    l.headroomGiven.reset, l.svcKey.reset⟩

/-- Every line at raw level inactive with no taken level (notes/assumptions/1.md). -/
def Lines.inactive : Lines :=
  let l : LineRec := ⟨false, none⟩
  ⟨l, l, l, l, l, l, l, l⟩

/-- R115. -/
def Feeder.reset : Feeder := ⟨none, 100, 10, 0, 0, 0, .disabled⟩

/-- R101. -/
def SlotTimer.reset : SlotTimer := ⟨0#16, 0, .running⟩

/-- R129. -/
def CapPlan.reset : CapPlan := ⟨.fill 25 (.fill 16 none), ⟨0, 24, 0, 15, .lineFirst, 0, 0⟩⟩

/-- R150. -/
def LinkRec.reset : LinkRec := ⟨.unknown, 0, none⟩

/-- R113, R131, R150. -/
def LinkCtl.reset : LinkCtl := ⟨true, 0, none, [], []⟩

/-- The full change set (R172, R180). -/
def ChangeSet.full : ChangeSet := ⟨.fill 24 true, true⟩

/-- R180. -/
def PortRec.reset : PortRec := ⟨none, false, none, [], none, .full⟩

/-- Factory contents: flags clear, ratings 0, records not latched (R162). -/
def StoreImage.factory : StoreImage := ⟨.fill 24 false, .fill 24 0, .fill 24 none⟩

/-- The store after its image is loaded from the cells (R162). -/
def Store.loaded (cells : StoreImage) : Store := ⟨cells, cells, [], none⟩

/-- The part right after device reset, with what a reset does not set: the commands that wait, the raw line levels, the
straps it latches, the non-volatile cells and the count of free values drawn. -/
def State.afterReset (pending : List Instr) (lines : Lines) (mode : FeederMode) (fieldId : Byte) (cells : StoreImage)
    (freeDraws : Nat) : State where
  pending := pending
  powered := true
  sessions := .tabulate fun p => .reset (.ofImage cells p)
  alloc := .fill 24 .reset
  queue := []
  active := []
  roundRequest := false
  lines := lines.reset
  feeder := .reset
  feederMode := mode
  fieldId := fieldId
  timer := .reset
  plan := .reset
  links := .fill 24 .reset
  link := .reset
  handed := []
  service := .closed
  store := .loaded cells
  ports := ⟨.reset, .reset, .reset⟩
  freeDraws := freeDraws

/-- The part right after device reset as it leaves the factory: R27, R46, R101, R115, R129, R150, R162, R180. Raw line
levels, straps and the draw count are named in notes/assumptions/1.md, 2.md and 4.md. -/
def State.reset : State := State.afterReset [] .inactive .dedicated 0#8 .factory 0

end Sys2Proof.Machine
end

