-- ==== Sys2Proof/Machine/Ops.lean ====
section
/-! DEFINITION. Named reads and updates of State that every block uses: session records and their views, allocator records,
links, ports and change sets, deadline distance, and the ordered collections. -/

namespace Sys2Proof.Machine

/-! ## Views of a session record -/

/-- The pad state of a body (section 1.2). -/
def PadBody.name : PadBody → PadStateName
  | .vacant => .vacant
  | .seen _ => .seen
  | .binding .. => .binding
  | .matched .eligible .. => .eligible
  | .matched .topped .. => .topped
  | .matched .releasing .. => .releasing
  | .clearing _ => .clearing
  | .faulted => .faulted
  | .locked => .locked
  | .offline => .offline

/-- The session token, 0 in the states without a session (R1). -/
def PadBody.token : PadBody → Nat
  | .binding token .. => token
  | .matched _ token .. => token
  | _ => 0

/-- The vehicle tag where R1 has one. -/
def PadBody.tag : PadBody → Option Nat
  | .seen tag => some tag
  | .binding _ tag .. => some tag
  | .matched _ _ tag .. => some tag
  | .clearing tag => some tag
  | _ => none

/-- Class, target energy and deadline where R1 has them. -/
def PadBody.terms : PadBody → Option Terms
  | .binding _ _ terms _ => some terms
  | .matched _ _ _ terms _ => some terms
  | _ => none

/-- Delivered, meter fields and soft-fault run where R1 has them. -/
def PadBody.meter : PadBody → Option Meter
  | .matched _ _ _ _ meter => some meter
  | _ => none

/-- Bind slots elapsed where R1 has it. -/
def PadBody.elapsed : PadBody → Option Nat
  | .binding _ _ _ elapsed => some elapsed
  | _ => none

/-- Whether the pad is ELIGIBLE. -/
def PadBody.isEligible : PadBody → Bool
  | .matched .eligible .. => true
  | _ => false

/-- A report is current when its echo equals the pad's token or the token is 0 (R5). -/
def PadBody.takesAsCurrent (b : PadBody) (echo : Nat) : Bool :=
  b.token == 0 || b.token == echo

/-- The fields whose change puts the pad into the change sets (R4). -/
def SessionRec.reported (r : SessionRec) : PadStateName × Nat × Option Nat × Option Terms × Option LastOutcome :=
  (r.body.name, r.body.token, r.body.tag, r.body.terms, r.last)

/-! ## Ports and change sets -/

/-- The record of a port. -/
def Ports.get (ports : Ports) : Port → PortRec
  | .d => ports.d
  | .f => ports.f
  | .s => ports.s

/-- The ports with one record replaced. -/
def Ports.set (ports : Ports) (port : Port) (r : PortRec) : Ports :=
  match port with
  | .d => { ports with d := r }
  | .f => { ports with f := r }
  | .s => { ports with s := r }

/-- A change set with further pads, and FIELD when `field` holds (R172). -/
def ChangeSet.enter (c : ChangeSet) (pads : Pad → Bool) (field : Bool) : ChangeSet :=
  ⟨.tabulate fun p => c.pads.get p || pads p, c.field || field⟩

/-- A change set with no entry (R174). -/
def ChangeSet.empty : ChangeSet := ⟨.fill 24 false, false⟩

/-- A port whose change set has further entries. -/
def PortRec.enter (r : PortRec) (pads : Pad → Bool) (field : Bool) : PortRec :=
  { r with changes := r.changes.enter pads field }

/-- Entries go into the change set of each of the three ports (R172). -/
def Ports.enter (ports : Ports) (pads : Pad → Bool) (field : Bool) : Ports :=
  ⟨ports.d.enter pads field, ports.f.enter pads field, ports.s.enter pads field⟩

/-- A port's record in the state. -/
def State.port (s : State) (port : Port) : PortRec := s.ports.get port

/-- The state with a port's record replaced. -/
def State.setPort (s : State) (port : Port) (r : PortRec) : State :=
  { s with ports := s.ports.set port r }

/-- Pads enter every port's change set (R172). -/
def State.enterPads (s : State) (pads : Pad → Bool) : State :=
  { s with ports := s.ports.enter pads false }

/-- One pad enters every port's change set (R172). -/
def State.enterPad (s : State) (p : Pad) : State := s.enterPads fun q => decide (q = p)

/-- FIELD enters every port's change set (R114, R172). -/
def State.enterField (s : State) : State :=
  { s with ports := s.ports.enter (fun _ => false) true }

/-! ## Session table -/

/-- The session record of a pad. -/
def State.session (s : State) (p : Pad) : SessionRec := s.sessions.get p

/-- The pad state of a pad. -/
def State.padState (s : State) (p : Pad) : PadStateName := (s.session p).body.name

/-- The session table takes new contents, and each pad whose reported fields changed enters the change sets (R4). -/
def State.setSessions (s : State) (new : Table 24 SessionRec) : State :=
  { s with
    sessions := new
    ports := s.ports.enter (fun p => decide ((s.sessions.get p).reported ≠ (new.get p).reported)) false }

/-- One session record takes a new content (R4). -/
def State.setSession (s : State) (p : Pad) (r : SessionRec) : State := s.setSessions (s.sessions.set p r)

/-- A pad's body changes while its token sequence and last outcome stay. -/
def State.setBody (s : State) (p : Pad) (b : PadBody) : State := s.setSession p { s.session p with body := b }

/-- The token after a token sequence value: plus 1, or 1 after 255 (R2). -/
def nextToken (tokenSeq : Nat) : Nat := if tokenSeq = 255 then 1 else tokenSeq + 1

/-- The class of a pad's session; 0 for a pad without one, which no collection holds (R28). -/
def State.classOf (s : State) (p : Pad) : Class :=
  match (s.session p).body.terms with
  | some t => t.cls
  | none => 0

/-! ## Allocator records, links, retained records -/

/-- What the allocator keeps for a pad. -/
def State.allocOf (s : State) (p : Pad) : AllocRec := s.alloc.get p

/-- The state with a pad's allocator record replaced. -/
def State.setAlloc (s : State) (p : Pad) (a : AllocRec) : State := { s with alloc := s.alloc.set p a }

/-- The state with every pad's allocator record replaced. -/
def State.setAllocs (s : State) (f : Pad → AllocRec) : State := { s with alloc := .tabulate f }

/-- Whether a pad has a pending raise (R63, R78). -/
def AllocRec.pendingRaise (a : AllocRec) : Bool := decide (a.setpoint < a.target)

/-- What the pad link controller keeps for a pad. -/
def State.linkOf (s : State) (p : Pad) : LinkRec := s.links.get p

/-- The state with a pad's link record replaced. -/
def State.setLink (s : State) (p : Pad) (l : LinkRec) : State := { s with links := s.links.set p l }

/-- The rating of a pad in the retained store's image (R52). -/
def State.rating (s : State) (p : Pad) : Nat := s.store.image.rating.get p

/-- The fault record of a pad in the image, none when not latched (R151). -/
def State.faultOf (s : State) (p : Pad) : Option FaultRec := s.store.image.fault.get p

/-- The lockout flag of a pad in the image. -/
def State.lockout (s : State) (p : Pad) : Bool := s.store.image.lockout.get p

/-- The round request becomes pending (R48). -/
def State.requestRound (s : State) : State := { s with roundRequest := true }

/-! ## Slot arithmetic -/

/-- The deadline distance of a deadline at a slot number (R99). -/
def deadlineDistance (deadline slot : Word16) : Nat :=
  let d := (deadline - slot).toNat
  if 32768 ≤ d then 0 else d

/-- The current column of the cap plan: the slot number mod 16 (R116). -/
def columnOf (slot : Word16) : PlanCol := Fin.ofNat 16 slot.toNat

/-- The deadline distance of a pad's session at the current slot number; 0 for a pad without a session. -/
def State.distanceOf (s : State) (p : Pad) : Nat :=
  match (s.session p).body.terms with
  | some t => deadlineDistance t.deadline s.timer.slot
  | none => 0

/-! ## Ordered collections -/

/-- `p` placed immediately before the first entry that `after` holds of, or at the tail (R29). -/
def insertBefore (after : Pad → Bool) (p : Pad) : List Pad → List Pad
  | [] => [p]
  | q :: rest => if after q then p :: q :: rest else q :: insertBefore after p rest

/-- Whether an existing entry `q` stands after a new entry `p`: a greater class, or the same class and a greater deadline
distance (R29). -/
def State.standsAfter (s : State) (p q : Pad) : Bool :=
  decide (s.classOf p < s.classOf q) || (decide (s.classOf p = s.classOf q) && decide (s.distanceOf p < s.distanceOf q))

/-- A pad is inserted into the admission queue as a new entry (R29). -/
def State.insertQueue (s : State) (p : Pad) : State :=
  { s with queue := insertBefore (s.standsAfter p) p s.queue }

/-- The pads of a list in ascending class, and within a class in the order of the list. -/
def State.byClass (s : State) (pads : List Pad) : List Pad :=
  classList.flatMap fun k => pads.filter fun p => decide (s.classOf p = k)

/-- The pads on the active list, in ascending pad number. -/
def State.activePads (s : State) : List Pad := padList.filter fun p => decide (p ∈ s.active)

/-- The sum of a quantity over a list of pads. -/
def sumOver (pads : List Pad) (f : Pad → Nat) : Nat := (pads.map f).sum

end Sys2Proof.Machine
end

