-- ==== Sys2Proof/Machine/Flags.lean ====
section
/-! DEFINITION. The output lines, which are functions of the state by their rules, the debounced input levels, and the codes
and bytes that flags and names are reported with (R183, R185, R186). -/

namespace Sys2Proof.Machine

/-! ## Lines -/

/-- A port's ATTN line: active while its change set holds an entry (R173). -/
def ChangeSet.attn (c : ChangeSet) : Bool := c.field || padList.any fun p => c.pads.get p

/-- ATTN_D, ATTN_F and ATTN_S (R173). -/
def State.attn (s : State) (port : Port) : Bool := (s.port port).changes.attn

/-- RAISE_WANTED: in shared feeder mode active while a pad has a pending raise (R81, R82). -/
def State.raiseWanted (s : State) : Bool :=
  decide (s.feederMode = .shared) && padList.any fun p => (s.allocOf p).pendingRaise

/-- The level a line counts as: inactive until its first taken level (R103). -/
def LineRec.level (l : LineRec) : Bool := l.taken.getD false

/-- The settling time runs while the raw level differs from the level the line counts as (R102, R103). -/
def LineRec.settling (l : LineRec) : Bool := l.raw != l.level

/-- The record of a line. -/
def Lines.get (ls : Lines) : Line → LineRec
  | .fldEnable => ls.fldEnable
  | .srcALive => ls.srcALive
  | .srcATaken => ls.srcATaken
  | .srcBLive => ls.srcBLive
  | .srcBTaken => ls.srcBTaken
  | .slotAlign => ls.slotAlign
  | .headroomGiven => ls.headroomGiven
  | .svcKey => ls.svcKey

/-- The lines with one record replaced. -/
def Lines.set (ls : Lines) (line : Line) (r : LineRec) : Lines :=
  match line with
  | .fldEnable => { ls with fldEnable := r }
  | .srcALive => { ls with srcALive := r }
  | .srcATaken => { ls with srcATaken := r }
  | .srcBLive => { ls with srcBLive := r }
  | .srcBTaken => { ls with srcBTaken := r }
  | .slotAlign => { ls with slotAlign := r }
  | .headroomGiven => { ls with headroomGiven := r }
  | .svcKey => { ls with svcKey := r }

/-- The debounced level of a line (R102). -/
def State.level (s : State) (line : Line) : Bool := (s.lines.get line).level

/-- The line that a source line is. -/
def lineOfSource : SourceLine → Line
  | .aLive => .srcALive
  | .aTaken => .srcATaken
  | .bLive => .srcBLive
  | .bTaken => .srcBTaken

/-- The settling time of a line has reached 20 ms, so its taken level becomes its raw level (R102). -/
def State.takeLevel (s : State) (line : Line) : State :=
  let l := s.lines.get line
  { s with lines := s.lines.set line { l with taken := some l.raw } }

/-! ## Bytes of numbers and names -/

/-- A number in one byte. -/
def byte (n : Nat) : Byte := BitVec.ofNat 8 n

/-- A number in two bytes, most significant first (R181). -/
def word (n : Nat) : List Byte := [byte (n / 256), byte n]

/-- The 16-bit value of two bytes, most significant first (R181). -/
def wordOf (high low : Byte) : Word16 := high ++ low

/-- A flag at a bit position of a byte. -/
def bitAt (flag : Bool) (position : Nat) : Nat := if flag then 2 ^ position else 0

/-- The status byte (R183). -/
def Status.code : Status → Byte
  | .ok => 0x00#8
  | .accepted => 0x01#8
  | .busy => 0x02#8
  | .notPermitted => 0x03#8
  | .unknown => 0x04#8
  | .malformed => 0x05#8
  | .range => 0x06#8
  | .state => 0x07#8
  | .mismatch => 0x08#8
  | .noService => 0x09#8
  | .sequence => 0x0A#8
  | .notCommissioned => 0x0B#8

/-- Pad state codes (R185). -/
def PadStateName.code : PadStateName → Byte
  | .vacant => 0x00#8
  | .seen => 0x01#8
  | .binding => 0x02#8
  | .eligible => 0x03#8
  | .topped => 0x04#8
  | .releasing => 0x05#8
  | .clearing => 0x06#8
  | .faulted => 0x07#8
  | .locked => 0x08#8
  | .offline => 0x09#8

/-- Outcome codes (R185). -/
def Ending.code : Ending → Byte
  | .released => 0x01#8
  | .departed => 0x02#8
  | .toppedDeparted => 0x03#8
  | .cancelled => 0x04#8
  | .bindExpired => 0x05#8
  | .bindMismatch => 0x06#8
  | .lockout => 0x07#8
  | .fault => 0x08#8
  | .linkLost => 0x09#8

/-- Fault cause codes (R185). -/
def FaultCause.code : FaultCause → Byte
  | .chargerHard => 0x01#8
  | .softPersist => 0x02#8
  | .noncompliant => 0x03#8
  | .tagChange => 0x04#8

/-- Limiting cause codes (R185). -/
def LimitCause.code : LimitCause → Byte
  | .plan => 0x00#8
  | .fallback => 0x01#8
  | .shed => 0x02#8
  | .tie => 0x03#8
  | .noSource => 0x04#8
  | .disabled => 0x05#8

/-- Exposure mode codes (R185). -/
def ExposureMode.code : ExposureMode → Byte
  | .start => 0x00#8
  | .normal => 0x01#8
  | .hold .. => 0x02#8

/-- Link state codes (R185). -/
def LinkState.code : LinkState → Byte
  | .unknown => 0x00#8
  | .up => 0x01#8
  | .lost => 0x02#8

/-- Service state codes (R185). -/
def ServiceState.code : ServiceState → Byte
  | .closed => 0x00#8
  | .opening => 0x01#8
  | .opened => 0x02#8

/-- Charger state codes (R186). -/
def ChargerState.code : ChargerState → Byte
  | .empty => 0x00#8
  | .coupling => 0x01#8
  | .ready => 0x02#8
  | .delivering => 0x03#8
  | .decoupling => 0x04#8
  | .softFault => 0x05#8
  | .hardFault => 0x06#8
  | .disabled => 0x07#8

/-- Pad link command codes (R186). -/
def Command.code : Command → Byte
  | .idle => 0x00#8
  | .hold => 0x01#8
  | .run => 0x02#8
  | .finish => 0x03#8
  | .off => 0x04#8

/-- Order byte of SET WINDOW (R183). -/
def Order.code : Order → Byte
  | .lineFirst => 0x00#8
  | .columnFirst => 0x01#8

/-- Port identity of a PING answer (R184). -/
def portCode : Port → Byte
  | .d => 0x01#8
  | .f => 0x02#8
  | .s => 0x03#8

/-- A pad set in three bytes, bit p of the first for pads 0..7 and so on (R184). -/
def padSetBytes (has : Pad → Bool) : List Byte :=
  let octet (k : Nat) : Byte :=
    byte (sumOver (padList.filter fun p => p.val / 8 == k) fun p => bitAt (has p) (p.val % 8))
  [octet 0, octet 1, octet 2]

/-- The level byte of QUERY FIELD (R185). -/
def State.levelsByte (s : State) : Byte :=
  byte (bitAt (s.level .fldEnable) 0 + bitAt (s.level .srcALive) 1 + bitAt (s.level .srcATaken) 2
    + bitAt (s.level .srcBLive) 3 + bitAt (s.level .srcBTaken) 4 + bitAt (s.level .slotAlign) 5
    + bitAt (s.level .headroomGiven) 6 + bitAt (s.level .svcKey) 7)

end Sys2Proof.Machine
end

