-- ==== Sys2Proof/Machine/Store.lean ====
section
/-! DEFINITION. The retained store: changes of the image, the write queue and the write in progress (R162 to R165). -/

namespace Sys2Proof.Machine

/-- The content of a record of an image. -/
def StoreImage.content (img : StoreImage) (id : RecordId) : Content :=
  match id.kind with
  | .lockout => .lockout (img.lockout.get id.pad)
  | .rating => .rating (img.rating.get id.pad)
  | .fault => .fault (img.fault.get id.pad)

/-- An image with one record's content replaced. -/
def StoreImage.put (img : StoreImage) (pad : Pad) : Content → StoreImage
  | .lockout flag => { img with lockout := img.lockout.set pad flag }
  | .rating kw => { img with rating := img.rating.set pad kw }
  | .fault record => { img with fault := img.fault.set pad record }

/-- The kind of record a content belongs to. -/
def Content.kind : Content → RecordKind
  | .lockout _ => .lockout
  | .rating _ => .rating
  | .fault _ => .fault

/-- A write of a record is queued, or merges into the entry already queued for it (R163). -/
def Store.enqueue (st : Store) (id : RecordId) : Store :=
  if id ∈ st.writes then st else { st with writes := st.writes ++ [id] }

/-- A record of the image changes, and its write is queued (R163). -/
def Store.change (st : Store) (pad : Pad) (c : Content) : Store :=
  { st with image := st.image.put pad c }.enqueue ⟨c.kind, pad⟩

/-- While no write is in progress the head entry is removed and its record's content is taken from the image (R163). -/
def Store.beginWrite (st : Store) : Store :=
  match st.writing, st.writes with
  | none, id :: rest => { st with writes := rest, writing := some ⟨id, st.image.content id⟩ }
  | _, _ => st

/-- The write in progress completes: the cells hold the content it took (R163). -/
def Store.completeWrite (st : Store) : Store :=
  match st.writing with
  | some w => { st with cells := st.cells.put w.id.pad w.content, writing := none }
  | none => st

/-- The cells after a reset or a loss of power: a write in progress leaves its whole new or its whole old content, and
what is queued is lost (R165). -/
def Store.cellsAfterCut (st : Store) (newContent : Bool) : StoreImage :=
  match st.writing with
  | some w => if newContent then st.cells.put w.id.pad w.content else st.cells
  | none => st.cells

/-- Whether a write of a record is queued or in progress (R161). -/
def Store.writePending (st : Store) (id : RecordId) : Bool :=
  decide (id ∈ st.writes) || (match st.writing with
    | some w => decide (w.id = id)
    | none => false)

/-- A record of the image changes in the state (R162, R163). -/
def State.changeRecord (s : State) (pad : Pad) (c : Content) : State :=
  { s with store := s.store.change pad c }

/-- A write begins when none is in progress and the queue has an entry (R163). -/
def State.beginWrite (s : State) : State := { s with store := s.store.beginWrite }

/-- The wait of a held answer for a record the request changed: the completion of a write that was already in progress at
the change does not count (R164). -/
def Store.waitFor (before : Store) (id : RecordId) : StoreWait :=
  ⟨id, match before.writing with
    | some w => decide (w.id = id)
    | none => false⟩

/-- The waits left after a write of record `id` has completed (R164). -/
def waitsAfterWrite (id : RecordId) (waits : List StoreWait) : List StoreWait :=
  waits.filterMap fun w =>
    if w.id = id then (if w.skip then some { w with skip := false } else none) else some w

end Sys2Proof.Machine
end

