-- ==== Sys2Proof/Machine/Alloc.lean ====
section
/-! DEFINITION. The allocator's shared operations: exposure, cap in force, raise release, curtailment, clamps, the ways into
and out of the collections, and the distrust hold (chapters 2 to 4). -/

namespace Sys2Proof.Machine

/-! ## Exposure and cap -/

/-- The exposure of a pad from its mode, setpoint, last measured power and rating (R70). -/
def AllocRec.exposure (a : AllocRec) (rating : Nat) : Nat :=
  match a.mode with
  | .start => max rating a.setpoint
  | .normal => max a.setpoint a.measured
  | .hold value _ => max value (max a.setpoint a.measured)

/-- The exposure of a pad (R70). -/
def State.exposure (s : State) (p : Pad) : Nat := (s.allocOf p).exposure (s.rating p)

/-- The sum of the exposures of the pads off the active list: X of R51. -/
def State.offListExposure (s : State) : Nat :=
  sumOver (padList.filter fun p => decide (p ∉ s.active)) s.exposure

/-- The sum of the exposures of the other 23 pads (R79). -/
def State.othersExposure (s : State) (p : Pad) : Nat :=
  sumOver (padList.filter fun q => decide (q ≠ p)) s.exposure

/-- The smaller of a value and a limit when one is set. -/
def limitBy (a : Nat) : Option Nat → Nat
  | some b => min a b
  | none => a

/-- The plan line of a pad (R116). -/
def padLine (p : Pad) : PlanLine := p.succ

/-- A cell of the cap plan. -/
def CapPlan.cell (c : CapPlan) (line : PlanLine) (col : PlanCol) : Option Nat := (c.cells.get line).get col

/-- A pad's cell in the current column (R123). -/
def State.padCell (s : State) (p : Pad) : Option Nat := s.plan.cell (padLine p) (columnOf s.timer.slot)

/-- The cap in force of a pad: the smallest of its rating, its acceptance limit when held and its current plan cell when
set (R52). -/
def State.capOf (s : State) (p : Pad) : Nat :=
  limitBy (limitBy (s.rating p) (s.allocOf p).accept) (s.padCell p)

/-! ## Raise release (R79) -/

/-- The headroom condition: in shared feeder mode HEADROOM_GIVEN must be active (R79, R81, R83). -/
def State.headroomOk (s : State) : Bool := decide (s.feederMode = .dedicated) || s.level .headroomGiven

/-- A raise is released: the setpoint becomes the target (R79). -/
def State.releaseRaise (s : State) (p : Pad) : State :=
  s.setAlloc p { s.allocOf p with setpoint := (s.allocOf p).target }

/-- The raises of a list are tried in order; the first that does not fit ends the attempt (R79). -/
def State.releaseFrom (s : State) : List Pad → State
  | [] => s
  | p :: rest =>
    if s.othersExposure p + (s.allocOf p).target ≤ s.feeder.ceiling then (s.releaseRaise p).releaseFrom rest else s

/-- The pads with a pending raise in ascending class and pad number (R79). -/
def State.raiseOrder (s : State) : List Pad := s.byClass (padList.filter fun p => (s.allocOf p).pendingRaise)

/-- A raise release attempt (R79, R83). -/
def State.releaseAttempt (s : State) : State := if s.headroomOk then s.releaseFrom s.raiseOrder else s

/-- Whether some pad's exposure is lower after an event than before it (R80). -/
def exposureFell (before after : State) : Bool := padList.any fun p => decide (after.exposure p < before.exposure p)

/-- The end of an event: when an exposure fell or the ceiling rose, a raise release attempt is made, after the event's own
changes are in place (R80; notes/assumptions/14.md); then a queued store write begins (R163; notes/assumptions/21.md). -/
def finishEvent (before after : State) : State :=
  (if exposureFell before after || decide (before.feeder.ceiling < after.feeder.ceiling)
    then after.releaseAttempt else after).beginWrite

/-! ## Curtailment and clamps (R84, R86, R87) -/

/-- A curtailed setpoint: its share of the smaller budget, rounded down, and 0 when that is below P_min (R84). -/
def curtailed (setpoint budget total pmin : Nat) : Nat :=
  let x := setpoint * budget / total
  if x < pmin then 0 else x

/-- Curtailment at a fall of the ceiling inside a slot; `s` already holds the new ceiling (R84). Each active target becomes
the new setpoint, so that no raise is pending (notes/assumptions/22.md). -/
def State.curtail (s : State) : State :=
  let budget := s.feeder.ceiling - s.offListExposure
  let total := sumOver s.activePads fun p => (s.allocOf p).setpoint
  if budget < total then
    s.setAllocs fun p =>
      let a := s.allocOf p
      if p ∈ s.active then
        let x := curtailed a.setpoint budget total s.feeder.pmin
        { a with setpoint := x, target := x }
      else a
  else s

/-- The limit a clamp forms from a cap: the cap, or 0 when it is below P_min (R86). -/
def clampLimit (cap pmin : Nat) : Nat := if cap < pmin then 0 else cap

/-- The clamp of a pad to its cap in force (R86). -/
def State.clampPad (s : State) (p : Pad) : State :=
  let a := s.allocOf p
  let limit := clampLimit (s.capOf p) s.feeder.pmin
  let t := s.setAlloc p { a with target := min a.target limit, setpoint := min a.setpoint limit }
  if limit < a.setpoint then t.requestRound else t

/-- 0 when above 0 and below P_min, else itself (R87). -/
def dropSmall (pmin kw : Nat) : Nat := if kw < pmin then 0 else kw

/-- A raised P_min zeroes the setpoints and targets below it (R87). -/
def State.minPowerClamp (s : State) : State :=
  s.setAllocs fun p =>
    let a := s.allocOf p
    { a with target := dropSmall s.feeder.pmin a.target, setpoint := dropSmall s.feeder.pmin a.setpoint }

/-! ## Into and out of the collections -/

/-- What a pad's allocator record becomes when it leaves the active list or eligibility: setpoint, target, ramp base and
starvation count 0, no pause (R33, R39, R41, R147). -/
def AllocRec.idle (a : AllocRec) : AllocRec :=
  { a with target := 0, setpoint := 0, rampBase := 0, starvation := 0, paused := false }

/-- A session that has become eligible outside a round is offered to the admission queue (R31, R48). -/
def State.offer (s : State) (p : Pad) : State := (s.insertQueue p).requestRound

/-- A session leaves eligibility: it leaves its collection, and leaving the active list requests a round (R33). -/
def State.leaveEligibility (s : State) (p : Pad) : State :=
  let t := { s with queue := s.queue.erase p, active := s.active.erase p }.setAlloc p (s.allocOf p).idle
  if p ∈ s.active then t.requestRound else t

/-- An active session goes back to the admission queue by suspension or starvation return (R39, R41). -/
def State.toQueue (s : State) (p : Pad) : State :=
  ({ s with active := s.active.erase p }.setAlloc p (s.allocOf p).idle).insertQueue p

/-! ## The distrust hold (R73, R74) -/

/-- A hold starts or restarts with a hold value and 8 polls remaining (R73). -/
def State.startHold (s : State) (p : Pad) (value : Nat) : State :=
  s.setAlloc p { s.allocOf p with mode := .hold value 8 }

/-- The hold ends: the mode becomes NORMAL, and on a LOST link the last measured power becomes 0 (R74). -/
def AllocRec.endHold (a : AllocRec) (link : LinkState) : AllocRec :=
  { a with mode := .normal, measured := if link = .lost then 0 else a.measured }

/-- A poll outcome counts a running hold down, and at 0 the hold ends (R74). -/
def AllocRec.countHold (a : AllocRec) (link : LinkState) : AllocRec :=
  match a.mode with
  | .hold value remaining => if remaining ≤ 1 then a.endHold link else { a with mode := .hold value (remaining - 1) }
  | _ => a

end Sys2Proof.Machine
end

