-- ==== Sys2Proof/Machine/Supervisor.lean ====
section
/-! DEFINITION. The feeder supervisor's shared operations: the terms of the effective ceiling, forming it again, and what
follows from a change of it (chapter 6). -/

namespace Sys2Proof.Machine

/-- A term of the effective ceiling with its cause (R104). -/
structure Term where
  value : Nat
  cause : LimitCause
deriving DecidableEq, Repr

/-- The interlock term, while FLD_ENABLE is inactive (R104). -/
def State.interlockTerm (s : State) : List Term := if s.level .fldEnable then [] else [⟨0, .disabled⟩]

/-- The source term (R105). -/
def State.sourceTerm (s : State) : List Term :=
  if s.level .srcALive && s.level .srcATaken then []
  else if s.level .srcBLive && s.level .srcBTaken then [⟨s.feeder.tie, .tie⟩]
  else [⟨0, .noSource⟩]

/-- The shed term, while a shed is active (R104, R107). -/
def State.shedTerm (s : State) : List Term :=
  match s.feeder.shed with
  | some shed => [⟨shed.ceiling, .shed⟩]
  | none => []

/-- The feeder line's cell in the current column (R123). -/
def State.feederCell (s : State) : Option Nat := s.plan.cell 0 (columnOf s.timer.slot)

/-- The plan term, or the fallback term in its place (R104). -/
def State.planTerm (s : State) : Term :=
  match s.feederCell with
  | some v => ⟨v, .plan⟩
  | none => ⟨s.feeder.fallback, .fallback⟩

/-- The first smallest term of a list that ends in `last` (R104). -/
def smallestTerm (last : Term) : List Term → Term
  | [] => last
  | t :: rest => let r := smallestTerm last rest; if t.value ≤ r.value then t else r

/-- The effective ceiling and its limiting cause from the terms as they stand (R104). -/
def State.formCeiling (s : State) : Term :=
  smallestTerm s.planTerm (s.interlockTerm ++ s.sourceTerm ++ s.shedTerm)

/-- The ceiling takes a new value and cause: FIELD enters the change sets, and a fall to 0 sets the broadcast-stop request
(R113, R114). -/
def State.setCeiling (s : State) (t : Term) : State :=
  let u := { s with feeder := { s.feeder with ceiling := t.value, cause := t.cause } }.enterField
  if 0 < s.feeder.ceiling && t.value == 0 then { u with link := { u.link with stopRequest := true } } else u

/-- The ceiling is formed again at a slot boundary: a change is not notified to the allocator (R106). -/
def State.reformAtBoundary (s : State) : State :=
  if s.formCeiling = ⟨s.feeder.ceiling, s.feeder.cause⟩ then s else s.setCeiling s.formCeiling

/-- The ceiling is formed again inside a slot: a change is notified to the allocator, which curtails on a fall and has its
round request set on any change (R106, R112). The raise release attempt of a rise is made at the end of the event
(`finishEvent`). -/
def State.reformInSlot (s : State) : State :=
  if s.formCeiling = ⟨s.feeder.ceiling, s.feeder.cause⟩ then s
  else
    let t := s.setCeiling s.formCeiling
    (if t.feeder.ceiling < s.feeder.ceiling then t.curtail else t).requestRound

/-! ## Limits (R110) -/

/-- The minimum power as taken (R110). -/
def takenPmin (w : Nat) : Nat := min w 63

/-- The ramp step as taken: clamped on its own, then raised to the new P_min (R110). -/
def takenRamp (w pmin : Nat) : Nat := max (min (max w 10) 400) pmin

/-- A ceiling as taken (R108, R110, R117). -/
def takenCeiling (w : Nat) : Nat := min w 4095

/-- A shed duration as taken: 0 as 1 (R108). -/
def takenDuration (w : Nat) : Nat := max w 1

/-- The shed's countdown at a slot boundary, and its end at 0, which puts FIELD into the change sets (R109, R114). -/
def State.countShed (s : State) : State :=
  match s.feeder.shed with
  | none => s
  | some shed =>
    if shed.toRun ≤ 1 then { s with feeder := { s.feeder with shed := none } }.enterField
    else { s with feeder := { s.feeder with shed := some { shed with toRun := shed.toRun - 1 } } }

end Sys2Proof.Machine
end

