-- ==== Sys2Proof/Machine/Plan.lean ====
section
/-! DEFINITION. The cap plan: value codes, the window's walk, writing, reading and clearing, and what a write to the current
column hands on (chapter 7). -/

namespace Sys2Proof.Machine

/-- The content a value code stores in a line: FFFFh unset, else the value clamped to the line's range (R117). -/
def storedCode (line : PlanLine) (code : Word16) : Option Nat :=
  if code = 0xFFFF#16 then none
  else some (min code.toNat (if line = 0 then 4095 else 400))

/-- The value code a cell reads as (R122). -/
def readCode : Option Nat → List Byte
  | some v => word v
  | none => [0xFF#8, 0xFF#8]

/-- The cap plan with one cell replaced. -/
def CapPlan.setCell (c : CapPlan) (line : PlanLine) (col : PlanCol) (v : Option Nat) : CapPlan :=
  { c with cells := c.cells.set line ((c.cells.get line).set col v) }

/-- The pointer moves to the next cell of the window, LINE_FIRST (R119) or COLUMN_FIRST (R120). -/
def Window.advance (w : Window) : Window :=
  match w.order with
  | .lineFirst =>
    if w.line < w.lineEnd then { w with line := w.line + 1 }
    else { w with line := w.lineStart, col := if w.col = w.colEnd then w.colStart else w.col + 1 }
  | .columnFirst =>
    if w.col = w.colEnd then
      { w with col := w.colStart, line := if w.line < w.lineEnd then w.line + 1 else w.lineStart }
    else { w with col := w.col + 1 }

/-- One code is stored at the pointer, and the pointer moves (R121). -/
def CapPlan.writeCode (c : CapPlan) (code : Word16) : CapPlan :=
  let w := c.window
  { c.setCell w.line w.col (storedCode w.line code) with window := w.advance }

/-- The codes of a WRITE CELLS in their order (R121). -/
def CapPlan.writeCodes (c : CapPlan) (codes : List Word16) : CapPlan := codes.foldl CapPlan.writeCode c

/-- The values of a READ CELLS in the order read, and the window after the last move (R122). -/
def CapPlan.readCells (c : CapPlan) : Nat → Window → List Byte × Window
  | 0, w => ([], w)
  | n + 1, w =>
    let r := c.readCells n w.advance
    (readCode (c.cell w.line w.col) ++ r.1, r.2)

/-- The column of the slot that ended is cleared (R126). -/
def CapPlan.clearColumn (c : CapPlan) (col : PlanCol) : CapPlan :=
  { c with cells := .tabulate fun line => (c.cells.get line).set col none }

/-- Every cell is cleared (R128). -/
def CapPlan.clear (c : CapPlan) : CapPlan := { c with cells := .fill 25 (.fill 16 none) }

/-- Whether the pointer names a cell inside the window: its line between the ends, and its column no further from the column
start than the column end is (R118). -/
def Window.pointerInside (w : Window) : Bool :=
  decide (w.lineStart ≤ w.line) && decide (w.line ≤ w.lineEnd)
    && decide ((w.col - w.colStart).val ≤ (w.colEnd - w.colStart).val)

/-- The number of cells of the window (R118). -/
def Window.size (w : Window) : Nat :=
  (w.lineEnd.val - w.lineStart.val + 1) * ((w.colEnd - w.colStart).val + 1)

/-- A pad cell of the current column that a WRITE CELLS changed is handed to the allocator: a fall of the cap of an ACTIVE
pad clamps it, a rise sets the round request (R124). `before` is the state in which the request was taken. -/
def State.handOnPadCell (before s : State) (p : Pad) : State :=
  if s.padCell p = before.padCell p then s
  else if s.capOf p < before.capOf p then (if p ∈ s.active then s.clampPad p else s)
  else if before.capOf p < s.capOf p then s.requestRound
  else s

/-- The pad cells of the current column are handed on in ascending pad number (R124), then the feeder cell when its content
changed (R125). -/
def State.handOnCells (before s : State) : State :=
  let t := padList.foldl (State.handOnPadCell before) s
  if t.feederCell = before.feederCell then t else t.reformInSlot

end Sys2Proof.Machine
end

