-- ==== Sys2Proof/Machine/Frames.lean ====
section
/-! DEFINITION. The framing of the request link and the frames of the pad link: stuffing, the two check bytes, the receiver of
RX bytes, setpoint frame, broadcast STOP and status reply (R181, R182, R186). -/

namespace Sys2Proof.Machine

/-! ## The check (R182) -/

/-- The two sums of the check over bytes, from given starting sums. -/
def checkSums : List Byte → Nat → Nat → Nat × Nat
  | [], a, b => (a, b)
  | x :: rest, a, b => let a' := (a + x.toNat) % 255; checkSums rest a' ((b + a') % 255)

/-- The two check bytes, A then B (R182). -/
def checkBytes (bytes : List Byte) : List Byte :=
  let c := checkSums bytes 0 0
  [byte c.1, byte c.2]

/-- Bytes followed by their check. -/
def withCheck (bytes : List Byte) : List Byte := bytes ++ checkBytes bytes

/-- The bytes before a check that holds, or nothing when the last two bytes are not their check. -/
def stripCheck (content : List Byte) : Option (List Byte) :=
  let bytes := content.take (content.length - 2)
  if content = withCheck bytes then some bytes else none

/-! ## Stuffing (R182) -/

/-- One content byte as sent. -/
def stuffByte (x : Byte) : List Byte :=
  if x = 0xF0#8 ∨ x = 0xF1#8 ∨ x = 0xF2#8 then [0xF2#8, x ^^^ 0x20#8] else [x]

/-- The content bytes as sent. -/
def stuff (content : List Byte) : List Byte := content.flatMap stuffByte

/-- The content of the bytes between the markers; nothing when an escape byte is not followed by D0h, D1h or D2h. -/
def unstuff : List Byte → Option (List Byte)
  | [] => some []
  | [x] => if x = 0xF2#8 then none else some [x]
  | x :: y :: rest =>
    if x = 0xF2#8 then
      if y = 0xD0#8 ∨ y = 0xD1#8 ∨ y = 0xD2#8 then (unstuff rest).map ((y ^^^ 0x20#8) :: ·) else none
    else (unstuff (y :: rest)).map (x :: ·)

/-- A frame on the line: opening marker, stuffed content, closing marker. -/
def lineFrame (content : List Byte) : List Byte := 0xF0#8 :: stuff content ++ [0xF1#8]

/-! ## Receiving a request frame (R167, R182) -/

/-- What a received byte does to the part of a frame received so far (the bytes after its opening marker), and the bytes of
a frame that it completes. An opening marker starts a new frame; bytes outside a frame are discarded; the part is dropped
when the bytes counted from the opening marker pass 76. -/
def receiveByte (part : Option (List Byte)) (x : Byte) : Option (List Byte) × Option (List Byte) :=
  if x = 0xF0#8 then (some [], none)
  else match part with
    | none => (none, none)
    | some bytes =>
      if 76 < bytes.length + 2 then (none, none)
      else if x = 0xF1#8 then (none, some bytes)
      else (some (bytes ++ [x]), none)

/-- The content of a request frame that passes the frame checks: request code, request tag and body (R167, R182). -/
structure FrameContent where
  code : Byte
  tag : Byte
  body : List Byte
deriving DecidableEq, Repr

/-- The frame checks of R182 on the bytes between the markers: stuffing, at least five bytes, check, length byte. -/
def parseFrame (bytes : List Byte) : Option FrameContent :=
  match unstuff bytes with
  | none => none
  | some content =>
    match stripCheck content with
    | some (code :: tag :: len :: body) => if len.toNat = body.length then some ⟨code, tag, body⟩ else none
    | _ => none

/-- The content of a request frame as a master sends it. -/
def requestContent (c : FrameContent) : List Byte :=
  withCheck (c.code :: c.tag :: byte c.body.length :: c.body)

/-- The bytes of an answer on the line (R182). -/
def Answer.frame (a : Answer) : List Byte :=
  lineFrame (withCheck (a.code :: a.tag :: a.status.code :: a.body))

/-! ## Pad link frames (R186) -/

/-- A setpoint frame (R133, R186). -/
def setpointFrame (p : Pad) (command : Command) (setpoint token : Nat) : List Byte :=
  withCheck ([0x01#8, byte p.val, command.code] ++ word setpoint ++ [byte token])

/-- The broadcast STOP (R144, R186). -/
def stopFrame : List Byte := withCheck [0x03#8, 0xFF#8]

/-- The charger state of the three low bits of the state byte (R186). -/
def chargerStateOf (stateByte : Byte) : ChargerState :=
  match stateByte.toNat % 8 with
  | 0 => .empty
  | 1 => .coupling
  | 2 => .ready
  | 3 => .delivering
  | 4 => .decoupling
  | 5 => .softFault
  | 6 => .hardFault
  | _ => .disabled

/-- The charger states whose reports carry a vehicle tag and an acceptance limit (R135). -/
def ChargerState.bearsTag : ChargerState → Bool
  | .coupling | .ready | .delivering | .decoupling => true
  | _ => false

/-- The charger states whose reports carry a fault code (R135). -/
def ChargerState.bearsCode : ChargerState → Bool
  | .softFault | .hardFault => true
  | _ => false

/-- The report that a reply from the polled pad makes, or nothing when the reply is not valid (R134, R135, R186): its first
sixteen bytes count. -/
def decodeReply (p : Pad) (reply : List Byte) : Option Report :=
  match stripCheck (reply.take 16) with
  | some [kind, address, stateByte, echo, m1, m0, v1, v0, t1, t0, a1, a0, code, _] =>
    let state := chargerStateOf stateByte
    let tag := (wordOf t1 t0).toNat
    if kind = 0x02#8 ∧ address.toNat = p.val ∧ (state.bearsTag = true → 1 ≤ tag ∧ tag ≤ 65534) then
      some
        { state := state
          echo := echo.toNat
          measured := min 400 (wordOf m1 m0).toNat
          meter := if stateByte.toNat / 8 % 2 = 1 then none else some (wordOf v1 v0)
          tag := if state.bearsTag then some tag else none
          accept := if state.bearsTag then some (min 400 (wordOf a1 a0).toNat) else none
          code := if state.bearsCode then some code.toNat else none }
    else none
  | _ => none

end Sys2Proof.Machine
end

