-- ==== Sys2Proof/Machine/Operands.lean ====
section
/-! DEFINITION. The operand forms of the requests: the request catalogue, the rights of the ports, the body layouts both ways,
and pad selectors (R157, R168, R170, R183). -/

namespace Sys2Proof.Machine

/-- The requests of the catalogue (00 section 0.7, R183). -/
inductive RequestKind where
  | ping | readChanges | queryPad | queryField | bind | amend | release | setWindow | writeCells | readCells | setLimits
  | shed | endShed | setSlot | lockPads | openService | confirmService | closeService | unlockPads | clearFault
  | setRating | readFault
deriving DecidableEq, Repr

/-- The request a code names (R183). -/
def kindOfCode (code : Byte) : Option RequestKind :=
  match code.toNat with
  | 0x01 => some .ping
  | 0x02 => some .readChanges
  | 0x03 => some .queryPad
  | 0x04 => some .queryField
  | 0x10 => some .bind
  | 0x11 => some .amend
  | 0x12 => some .release
  | 0x20 => some .setWindow
  | 0x21 => some .writeCells
  | 0x22 => some .readCells
  | 0x23 => some .setLimits
  | 0x24 => some .shed
  | 0x25 => some .endShed
  | 0x26 => some .setSlot
  | 0x30 => some .lockPads
  | 0x31 => some .openService
  | 0x32 => some .confirmService
  | 0x33 => some .closeService
  | 0x34 => some .unlockPads
  | 0x35 => some .clearFault
  | 0x36 => some .setRating
  | 0x37 => some .readFault
  | _ => none

/-- The code of a request (R183). -/
def RequestKind.code : RequestKind → Byte
  | .ping => 0x01#8
  | .readChanges => 0x02#8
  | .queryPad => 0x03#8
  | .queryField => 0x04#8
  | .bind => 0x10#8
  | .amend => 0x11#8
  | .release => 0x12#8
  | .setWindow => 0x20#8
  | .writeCells => 0x21#8
  | .readCells => 0x22#8
  | .setLimits => 0x23#8
  | .shed => 0x24#8
  | .endShed => 0x25#8
  | .setSlot => 0x26#8
  | .lockPads => 0x30#8
  | .openService => 0x31#8
  | .confirmService => 0x32#8
  | .closeService => 0x33#8
  | .unlockPads => 0x34#8
  | .clearFault => 0x35#8
  | .setRating => 0x36#8
  | .readFault => 0x37#8

/-- Whether a port permits a request (R170). -/
def RequestKind.permittedOn : RequestKind → Port → Bool
  | .ping, _ | .readChanges, _ | .queryPad, _ | .queryField, _ => true
  | .bind, .d | .amend, .d | .release, .d => true
  | .setWindow, .f | .writeCells, .f | .readCells, .f | .setLimits, .f | .shed, .f | .endShed, .f | .setSlot, .f => true
  | .lockPads, .s | .openService, .s | .confirmService, .s | .closeService, .s | .unlockPads, .s | .clearFault, .s
  | .setRating, .s | .readFault, .s => true
  | _, _ => false

/-- Two-byte values of an even number of bytes (R183). -/
def wordsOf : List Byte → Option (List Word16)
  | [] => some []
  | [_] => none
  | h :: l :: rest => (wordsOf rest).map (wordOf h l :: ·)

/-- A request body decoded by its layout; nothing when its length is not the one the request calls for (R168, R183). -/
def decodeBody : RequestKind → List Byte → Option Request
  | .ping, [] => some .ping
  | .readChanges, [] => some .readChanges
  | .queryPad, [pad] => some (.queryPad pad)
  | .queryField, [] => some .queryField
  | .bind, [pad, t1, t0, e1, e0, d1, d0, cls] => some (.bind pad (wordOf t1 t0) (wordOf e1 e0) (wordOf d1 d0) cls)
  | .amend, [pad, e1, e0, d1, d0, cls] => some (.amend pad (wordOf e1 e0) (wordOf d1 d0) cls)
  | .release, [pad] => some (.release pad)
  | .setWindow, [ls, le, cs, ce, order] => some (.setWindow ls le cs ce order)
  | .writeCells, body =>
    match wordsOf body with
    | some codes => if 1 ≤ codes.length ∧ codes.length ≤ 16 then some (.writeCells codes) else none
    | none => none
  | .readCells, [count] => some (.readCells count)
  | .setLimits, [r1, r0, p1, p0, f1, f0, t1, t0] =>
    some (.setLimits (wordOf r1 r0) (wordOf p1 p0) (wordOf f1 f0) (wordOf t1 t0))
  | .shed, [c1, c0, duration] => some (.shed (wordOf c1 c0) duration)
  | .endShed, [] => some .endShed
  | .setSlot, [n1, n0] => some (.setSlot (wordOf n1 n0))
  | .lockPads, [base, mask] => some (.lockPads base mask)
  | .openService, [field] => some (.openService field)
  | .confirmService, [field] => some (.confirmService field)
  | .closeService, [] => some .closeService
  | .unlockPads, [base, mask] => some (.unlockPads base mask)
  | .clearFault, [pad] => some (.clearFault pad)
  | .setRating, [pad, r1, r0] => some (.setRating pad (wordOf r1 r0))
  | .readFault, [pad] => some (.readFault pad)
  | _, _ => none

/-- The catalogue entry of a request. -/
def Request.kind : Request → RequestKind
  | .ping => .ping
  | .readChanges => .readChanges
  | .queryPad _ => .queryPad
  | .queryField => .queryField
  | .bind .. => .bind
  | .amend .. => .amend
  | .release _ => .release
  | .setWindow .. => .setWindow
  | .writeCells _ => .writeCells
  | .readCells _ => .readCells
  | .setLimits .. => .setLimits
  | .shed .. => .shed
  | .endShed => .endShed
  | .setSlot _ => .setSlot
  | .lockPads .. => .lockPads
  | .openService _ => .openService
  | .confirmService _ => .confirmService
  | .closeService => .closeService
  | .unlockPads .. => .unlockPads
  | .clearFault _ => .clearFault
  | .setRating .. => .setRating
  | .readFault _ => .readFault

/-- A 16-bit value in two bytes, most significant first (R181). -/
def wordBytes (w : Word16) : List Byte := [w.extractLsb' 8 8, w.extractLsb' 0 8]

/-- The body bytes of a request (R183). -/
def Request.body : Request → List Byte
  | .ping | .readChanges | .queryField | .endShed | .closeService => []
  | .queryPad pad | .release pad | .clearFault pad | .readFault pad => [pad]
  | .bind pad tag target deadline cls => [pad] ++ wordBytes tag ++ wordBytes target ++ wordBytes deadline ++ [cls]
  | .amend pad target deadline cls => [pad] ++ wordBytes target ++ wordBytes deadline ++ [cls]
  | .setWindow ls le cs ce order => [ls, le, cs, ce, order]
  | .writeCells codes => codes.flatMap wordBytes
  | .readCells count => [count]
  | .setLimits ramp pmin fallback tie => wordBytes ramp ++ wordBytes pmin ++ wordBytes fallback ++ wordBytes tie
  | .shed ceiling duration => wordBytes ceiling ++ [duration]
  | .setSlot n => wordBytes n
  | .lockPads base mask | .unlockPads base mask => [base, mask]
  | .openService field | .confirmService field => [field]
  | .setRating pad rating => [pad] ++ wordBytes rating

/-- The frame in which a master sends a request with a request tag (R182, R183). -/
def Request.frame (r : Request) (tag : Byte) : List Byte :=
  lineFrame (requestContent ⟨r.kind.code, tag, r.body⟩)

/-- Every request whose fields the encoding admits: a WRITE CELLS has 1..16 codes (R121). -/
def Request.encodable : Request → Bool
  | .writeCells codes => decide (1 ≤ codes.length) && decide (codes.length ≤ 16)
  | _ => true

/-- A pad number of a request, when it is 0..23. -/
def padOf (b : Byte) : Option Pad := if h : b.toNat < 24 then some ⟨b.toNat, h⟩ else none

/-- Whether a pad matches a selector: it agrees with the base in every digit position the mask does not mark (R157). -/
def selects (base mask : Byte) (p : Pad) : Bool :=
  [0, 1, 2, 3, 4].all fun k => mask.getLsbD k || (p.val.testBit k == base.getLsbD k)

/-- A selector whose base and mask are 0..31 (section 9.3). -/
def selectorInRange (base mask : Byte) : Bool := decide (base.toNat ≤ 31) && decide (mask.toNat ≤ 31)

/-- Whether a new deadline is 0..4,000 slots ahead; a passed deadline is not (R7). -/
def deadlineInRange (deadline slot : Word16) : Bool := decide ((deadline - slot).toNat ≤ 4000)

/-- The terms of a BIND or AMEND when they are in range: target above 0, class 0..3, deadline in range (R7, R16). -/
def termsInRange (target deadline : Word16) (cls : Byte) (slot : Word16) : Option Terms :=
  if h : cls.toNat < 4 then
    if target ≠ 0#16 ∧ deadlineInRange deadline slot = true then some ⟨⟨cls.toNat, h⟩, target.toNat, deadline⟩ else none
  else none

end Sys2Proof.Machine
end

