-- ==== Sys2Proof/Machine/Answers.lean ====
section
/-! DEFINITION. The answer bodies of the queries and of READ FAULT, byte by byte (R178, R179, R184, R185). -/

namespace Sys2Proof.Machine

/-- A number that is sent as 0 when absent, in one byte (R185). -/
def optByte (n : Option Nat) : Byte := byte (n.getD 0)

/-- A number that is sent as 0 when absent, in two bytes (R185). -/
def optWord (n : Option Nat) : List Byte := word (n.getD 0)

/-- Whether an ELIGIBLE pad is on the active list (R178). -/
def State.isActive (s : State) (p : Pad) : Bool := decide (p ∈ s.active)

/-- The hold value and polls remaining, in HOLD (R178). -/
def ExposureMode.holdFields : ExposureMode → Option (Nat × Nat)
  | .hold value remaining => some (value, remaining)
  | _ => none

/-- Presence byte 1 of QUERY PAD (R185). -/
def State.presence1 (s : State) (p : Pad) : Byte :=
  let r := s.session p
  byte (bitAt r.body.tag.isSome 0 + bitAt r.body.terms.isSome 1 + bitAt r.body.meter.isSome 2
    + bitAt r.body.elapsed.isSome 3 + bitAt r.last.isSome 4 + bitAt r.body.isEligible 5
    + bitAt (s.allocOf p).mode.holdFields.isSome 6 + bitAt (s.linkOf p).last.isSome 7)

/-- Presence byte 2 of QUERY PAD (R185). -/
def State.presence2 (s : State) (p : Pad) : Byte :=
  let r := s.session p
  let active := r.body.isEligible && s.isActive p
  byte (bitAt (r.body.meter.bind (·.ref)).isSome 0 + bitAt active 1 + bitAt (active && (s.allocOf p).paused) 2
    + bitAt (s.allocOf p).pendingRaise 3 + bitAt (s.lockout p) 4 + bitAt (s.faultOf p).isSome 5)

/-- The QUERY PAD answer body of 50 bytes (R178, R185). -/
def State.padBody (s : State) (p : Pad) : List Byte :=
  let r := s.session p
  let a := s.allocOf p
  let l := s.linkOf p
  let meter := r.body.meter
  let hold := a.mode.holdFields
  [byte p.val, r.body.name.code, byte r.body.token, s.presence1 p, s.presence2 p]
  ++ optWord r.body.tag
  ++ [optByte (r.body.terms.map (·.cls.val))]
  ++ optWord (r.body.terms.map (·.target))
  ++ optWord (r.body.terms.map (·.deadline.toNat))
  ++ optWord (meter.map (·.delivered))
  ++ optWord ((meter.bind (·.ref)).map (·.toNat))
  ++ [optByte (meter.map (·.jumps)), optByte (meter.map (·.softRun)), optByte r.body.elapsed,
      (r.last.map (·.ending.code)).getD 0x00#8]
  ++ optWord (r.last.map (·.delivered))
  ++ optWord (r.last.map (·.tag))
  ++ optWord (r.last.map (·.slot.toNat))
  ++ word a.target ++ word a.setpoint ++ word a.rampBase
  ++ word (s.exposure p)
  ++ [a.mode.code]
  ++ word a.measured
  ++ [byte a.compliance, byte a.starvation]
  ++ optWord (hold.map (·.1))
  ++ [optByte (hold.map (·.2))]
  ++ word (s.capOf p)
  ++ [l.state.code, byte l.misses, (l.last.map (·.state.code)).getD 0x00#8, optByte (l.last.map (·.echo)),
      ((s.faultOf p).map (·.cause.code)).getD 0x00#8, 0x00#8]

/-- The QUERY FIELD answer body (R179, R185). -/
def State.fieldBody (s : State) : List Byte :=
  word s.timer.slot.toNat ++ word s.timer.phase ++ word s.feeder.ceiling
  ++ [s.feeder.cause.code]
  ++ word (sumOver padList fun p => (s.allocOf p).setpoint)
  ++ word (sumOver padList s.exposure)
  ++ [byte (bitAt s.feeder.shed.isSome 0 + bitAt s.raiseWanted 1 + bitAt (decide (s.feederMode = .shared)) 2)]
  ++ optWord (s.feeder.shed.map (·.ceiling))
  ++ [optByte (s.feeder.shed.map (·.toRun)), s.levelsByte, s.fieldId, s.service.code]
  ++ [byte s.queue.length] ++ s.queue.map (fun p => byte p.val)
  ++ [byte s.active.length] ++ s.active.map (fun p => byte p.val)
  ++ [0x00#8]

/-- The READ FAULT answer body of 11 bytes (R161, R185). -/
def State.faultBody (s : State) (p : Pad) : List Byte :=
  let f := s.faultOf p
  let tag := f.bind (·.tag)
  [byte p.val,
   byte (bitAt f.isSome 0 + bitAt tag.isSome 1 + bitAt (s.lockout p) 2
     + bitAt (s.store.writePending ⟨.fault, p⟩) 3 + bitAt (s.store.writePending ⟨.lockout, p⟩) 4
     + bitAt (s.store.writePending ⟨.rating, p⟩) 5),
   (f.map (·.cause.code)).getD 0x00#8, optByte (f.bind (·.code))]
  ++ optWord (f.map (·.slot.toNat))
  ++ optWord tag
  ++ [optByte (f.map (·.repeats))]
  ++ word (s.rating p)

/-- The READ CHANGES answer body (R174, R184). -/
def ChangeSet.body (c : ChangeSet) : List Byte :=
  padSetBytes c.pads.get ++ [if c.field then 0x01#8 else 0x00#8]

end Sys2Proof.Machine
end

