-- ==== Sys2Proof/Machine/PortOps.lean ====
section
/-! DEFINITION. Operations of the request ports: receiving bytes, the generic checks, answers and their sending, the gating of
the S-port, and the shape of an event (chapter 10, R154). -/

namespace Sys2Proof.Machine

/-! ## Events -/

/-- An event of a powered part: what it leaves, with the raise release attempt and store write that end it. Without power
nothing happens (R165; notes/assumptions/17.md). -/
def State.event (s after : State) : Host.Outcome State Fault Refusal :=
  .next (if s.powered then finishEvent s after else s)

/-! ## Answers -/

/-- The request that a port has handed to its owning block and that the block has not yet taken (R166). -/
def State.handedRequest (s : State) (port : Port) : Option Request :=
  match (s.port port).pending with
  | some ⟨_, _, .handed r⟩ => some r
  | _ => none

/-- The pending request of a port is answered: the answer, echoing code and tag, joins the answers to send (R171). -/
def State.answer (s : State) (port : Port) (status : Status) (body : List Byte) : State :=
  let r := s.port port
  match r.pending with
  | some q =>
    s.setPort port
      { r with pending := some { q with stage := .answered }
               tx := r.tx ++ [⟨true, ⟨q.code, q.tag, status, body⟩⟩] }
  | none => s

/-- The answer is held for store writes, or made at once when there is none to wait for (R164). -/
def State.answerAfter (s : State) (port : Port) (waits : List StoreWait) (status : Status) (body : List Byte) : State :=
  if waits = [] then s.answer port status body
  else
    let r := s.port port
    match r.pending with
    | some q => s.setPort port { r with pending := some { q with stage := .held waits status body } }
    | none => s

/-! ## Receiving -/

/-- The generic checks of a frame taken in IDLE: the request, or the status that refuses it (R168). -/
def genericChecks (port : Port) (c : FrameContent) : Except Status Request :=
  match kindOfCode c.code with
  | none => .error .unknown
  | some k =>
    if k.permittedOn port then
      match decodeBody k c.body with
      | some r => .ok r
      | none => .error .malformed
    else .error .notPermitted

/-- A frame that passes the frame checks: BUSY in PENDING, taken with the generic checks in IDLE (R166, R168, R169). -/
def PortRec.takeFrame (r : PortRec) (port : Port) (c : FrameContent) : PortRec :=
  match r.pending with
  | some _ => { r with tx := r.tx ++ [⟨false, ⟨c.code, c.tag, .busy, []⟩⟩] }
  | none =>
    match genericChecks port c with
    | .ok q => { r with pending := some ⟨c.code, c.tag, .handed q⟩ }
    | .error status =>
      { r with pending := some ⟨c.code, c.tag, .answered⟩
               tx := r.tx ++ [⟨true, ⟨c.code, c.tag, status, []⟩⟩] }

/-- The bytes of a frame between its markers reach the port; a frame that fails its checks is dropped (R167). -/
def PortRec.frameArrives (r : PortRec) (port : Port) (bytes : List Byte) : PortRec :=
  match parseFrame bytes with
  | some c => r.takeFrame port c
  | none => r

/-- A byte arrives on RX; while the line is in break nothing is received (R167, R175). -/
def PortRec.receive (port : Port) (r : PortRec) (x : Byte) : PortRec :=
  if r.inBreak then r
  else
    let b := receiveByte r.part x
    match b.2 with
    | some bytes => { r with part := b.1 }.frameArrives port bytes
    | none => { r with part := b.1 }

/-- The part of a frame received so far is dropped (R167). -/
def PortRec.dropPart (r : PortRec) : PortRec := { r with part := none }

/-- The last byte of the answer at the head of those to send has been sent, when that answer is the pending request's own
(`own`) or a BUSY answer; after its own answer the port becomes IDLE (R166, R171). -/
def PortRec.sent (r : PortRec) (own : Bool) : PortRec :=
  match r.tx with
  | item :: rest =>
    if item.own = own then
      { r with tx := rest, lastSent := some item.answer.frame, pending := if own then none else r.pending }
    else r
  | [] => r

/-! ## Service mode (R154, R156) -/

/-- Service mode takes a state; a change puts FIELD into every change set (R154). -/
def State.setService (s : State) (v : ServiceState) : State :=
  if s.service = v then s else { s with service := v }.enterField

/-- What the gating makes of a request: taken, or refused with a status, closing service or not (R154). -/
inductive Gate where
  | take
  | refuse (status : Status) (closes : Bool)
deriving DecidableEq, Repr

/-- The gating of the S-port's requests by the service state (R154). -/
def gate : ServiceState → RequestKind → Gate
  | .closed, .openService => .take
  | .opening, .openService => .refuse .sequence true
  | .opened, .openService => .refuse .sequence false
  | .closed, .confirmService => .refuse .sequence false
  | .opening, .confirmService => .take
  | .opened, .confirmService => .refuse .sequence false
  | _, .closeService => .take
  | .opening, _ => .refuse .sequence true
  | .closed, .unlockPads | .closed, .clearFault | .closed, .setRating => .refuse .noService false
  | _, _ => .take

/-- A request at the service controller: gated, and when taken carried out by `act` (R154). -/
def State.gated (s : State) (k : RequestKind) (act : State → State) : State :=
  match gate s.service k with
  | .take => act s
  | .refuse status closes => (if closes then s.setService .closed else s).answer .s status []

/-- A request that every port takes: on the S-port it is gated (R170). -/
def State.gatedOn (s : State) (port : Port) (k : RequestKind) (act : State → State) : State :=
  match port with
  | .s => s.gated k act
  | _ => act s

end Sys2Proof.Machine
end

