-- ==== Sys2Proof/Machine/Round.lean ====
section
/-! DEFINITION. The allocation round: budget, admission with class-0 preemption, need, surplus and minimum-power passes,
targets, and starvation counting (chapters 2 and 3). -/

namespace Sys2Proof.Machine

/-! ## Quantities of a round (R51 to R56) -/

/-- The budget of a round (R51). -/
def State.budget (s : State) : Nat := s.feeder.ceiling - s.offListExposure

/-- The need of a session from its remaining energy, slots left and cap (R54). -/
def needOf (remaining slotsLeft cap : Nat) : Nat :=
  if remaining = 0 then 0
  else if slotsLeft = 0 then cap
  else min ((remaining + slotsLeft - 1) / slotsLeft) cap

/-- The remaining energy of a pad's session (R53). -/
def State.remainingOf (s : State) (p : Pad) : Nat :=
  match (s.session p).body with
  | .matched _ _ _ terms m => terms.target - m.delivered
  | _ => 0

/-- The need of a pad's session (R54). -/
def State.needOf (s : State) (p : Pad) : Nat :=
  Machine.needOf (s.remainingOf p) (s.distanceOf p) (s.capOf p)

/-- The reach of an active session: 0 while PAUSED (R56). -/
def State.reachOf (s : State) (p : Pad) : Nat :=
  if (s.allocOf p).paused then 0 else min (s.capOf p) ((s.allocOf p).rampBase + s.feeder.ramp)

/-- The demand of an active session (R56). -/
def State.demandOf (s : State) (p : Pad) : Nat :=
  if (s.allocOf p).paused then 0 else min (s.needOf p) (s.reachOf p)

/-- The admission demand of a candidate (R35). -/
def State.admissionDemand (s : State) (p : Pad) : Nat :=
  max s.feeder.pmin (min (min (s.needOf p) (s.capOf p)) s.feeder.ramp)

/-! ## Step A: admission (R34 to R40) -/

/-- Admission in progress: the state, the demand with which each session on the active list counts (R35), and how many
entries at the head of the queue have been considered and stay. -/
structure Admission where
  state : State
  counted : List (Pad × Nat)
  passed : Nat
deriving DecidableEq, Repr

/-- The sum of weights. -/
def weightSum (ws : List (Pad × Nat)) : Nat := (ws.map (·.2)).sum

/-- The candidate is admitted: it leaves the queue for the tail of the active list, with ramp base and starvation count 0,
and counts with its admission demand (R40, R35). Consideration goes on with the entry that followed it (R34). -/
def Admission.enlist (a : Admission) (c : Pad) (d : Nat) : Admission :=
  let s := a.state
  { state :=
      { s with queue := s.queue.erase c, active := s.active ++ [c] }.setAlloc c
        { s.allocOf c with rampBase := 0, starvation := 0 }
    counted := a.counted ++ [(c, d)]
    passed := s.queue.idxOf c }

/-- An active session is suspended and no longer counts (R39, R35). -/
def Admission.suspend (a : Admission) (v : Pad) : Admission :=
  { a with state := a.state.toQueue v, counted := a.counted.filter fun w => decide (w.1 ≠ v) }

/-- The order of suspension: classes 3, 2, 1, and within a class the most recently admitted first (R39). -/
def State.suspensionOrder (s : State) : List Pad :=
  [(3 : Class), 2, 1].flatMap fun k => s.active.reverse.filter fun p => decide (s.classOf p = k)

/-- Sessions are suspended one at a time until the candidate fits (R37). -/
def Admission.suspendUntil (a : Admission) (budget d : Nat) : List Pad → Admission
  | [] => a
  | v :: rest => if d + weightSum a.counted ≤ budget then a else (a.suspend v).suspendUntil budget d rest

/-- The demands of the active sessions of class 0, as they count (R37). -/
def Admission.classZeroSum (a : Admission) : Nat :=
  weightSum (a.counted.filter fun w => decide (a.state.classOf w.1 = 0))

/-- Step A: candidates are considered from the head of the queue (R34). The fuel bounds how many are considered. -/
def Admission.consider (budget : Nat) : Nat → Admission → Admission
  | 0, a => a
  | fuel + 1, a =>
    match a.state.queue[a.passed]? with
    | none => a
    | some c =>
      if a.state.capOf c < a.state.feeder.pmin then
        Admission.consider budget fuel { a with passed := a.passed + 1 }
      else
        let d := a.state.admissionDemand c
        if d + weightSum a.counted ≤ budget then
          Admission.consider budget fuel (a.enlist c d)
        else if a.state.classOf c = 0 ∧ d + a.classZeroSum ≤ budget then
          Admission.consider budget fuel ((a.suspendUntil budget d a.state.suspensionOrder).enlist c d)
        else a

/-- The state after step A of a round with a budget. Each queued or suspended session is considered at most once, so the
lengths of the two collections bound the candidates (notes/assumptions/27.md). -/
def State.admission (s : State) (budget : Nat) : State :=
  (Admission.consider budget (s.queue.length + s.active.length)
    ⟨s, s.active.map fun p => (p, s.demandOf p), 0⟩).state

/-! ## Sharing out an amount (R58, R60) -/

/-- The leftover goes out at 1 to each share of weight above 0, in the order of the list (R58, R60). -/
def handOut : Nat → List (Pad × Nat × Nat) → List (Pad × Nat)
  | _, [] => []
  | left, (p, w, share) :: rest =>
    if 0 < w ∧ 0 < left then (p, share + 1) :: handOut (left - 1) rest else (p, share) :: handOut left rest

/-- An amount shared over weights: each weight in full when the amount covers their sum, else in proportion, rounded down,
with the leftover handed out (R58, R60). -/
def portion (amount : Nat) (ws : List (Pad × Nat)) : List (Pad × Nat) :=
  let total := weightSum ws
  if total ≤ amount then ws
  else
    let shares := ws.map fun w => (w.1, w.2, amount * w.2 / total)
    handOut (amount - (shares.map (·.2.2)).sum) shares

/-- What a list of grants gives a pad. -/
def grantOf (gs : List (Pad × Nat)) (p : Pad) : Nat :=
  match gs.find? fun w => decide (w.1 = p) with
  | some w => w.2
  | none => 0

/-! ## Steps B to E -/

/-- Step B: the balance is handed out class by class (R58). -/
def State.needPass (s : State) : List Class → Nat → List (Pad × Nat)
  | [], _ => []
  | k :: rest, balance =>
    let ws := (s.activePads.filter fun p => decide (s.classOf p = k)).map fun p => (p, s.demandOf p)
    portion balance ws ++ s.needPass rest (balance - weightSum ws)

/-- Step C: the surplus is handed out over the headrooms, in ascending pad number (R60). -/
def State.surplusPass (s : State) (surplus : Nat) (gs : List (Pad × Nat)) : List (Pad × Nat) :=
  let extra := portion surplus (s.activePads.map fun p => (p, s.reachOf p - grantOf gs p))
  gs.map fun w => (w.1, w.2 + grantOf extra w.1)

/-- The freed power is offered once along the list to grants at or above P_min, up to the reach (R62). -/
def State.offerFreed (s : State) : Nat → List (Pad × Nat) → List (Pad × Nat)
  | _, [] => []
  | freed, (p, g) :: rest =>
    if s.feeder.pmin ≤ g then
      let x := min freed (s.reachOf p - g)
      (p, g + x) :: s.offerFreed (freed - x) rest
    else (p, g) :: s.offerFreed freed rest

/-- Step D: grants below P_min become 0 and the freed power is offered (R61, R62). The list is in ascending class and pad
number, as step B made it. -/
def State.minPowerPass (s : State) (gs : List (Pad × Nat)) : List (Pad × Nat) :=
  let kept := gs.map fun w => (w.1, dropSmall s.feeder.pmin w.2)
  s.offerFreed (weightSum gs - weightSum kept) kept

/-- The grants of steps B to D under a budget (R57). -/
def State.grants (s : State) (budget : Nat) : List (Pad × Nat) :=
  let need := s.needPass classList budget
  s.minPowerPass (s.surplusPass (budget - weightSum need) need)

/-- Step E: each target becomes the grant, and 0 off the active list; a target at or below the setpoint lowers it (R63). -/
def State.applyTargets (s : State) (gs : List (Pad × Nat)) : State :=
  s.setAllocs fun p =>
    let a := s.allocOf p
    if p ∈ s.active then { a with target := grantOf gs p, setpoint := min a.setpoint (grantOf gs p) }
    else { a with target := 0 }

/-! ## What a boundary round adds (R55, R66, R41) -/

/-- The ramp base of every active session becomes its setpoint (R55). -/
def State.setRampBases (s : State) : State :=
  s.setAllocs fun p =>
    let a := s.allocOf p
    if p ∈ s.active then { a with rampBase := a.setpoint } else a

/-- The starvation counts of the active sessions that are not PAUSED (R66). -/
def State.countStarvation (s : State) : State :=
  s.setAllocs fun p =>
    let a := s.allocOf p
    if p ∈ s.active ∧ a.paused = false then
      { a with starvation := if a.target = 0 then a.starvation + 1 else 0 }
    else a

/-- The sessions whose count has reached 3, in ascending pad number (R41, R66). -/
def State.starvedPads (s : State) : List Pad :=
  s.activePads.filter fun p => decide ((s.allocOf p).paused = false) && decide (3 ≤ (s.allocOf p).starvation)

/-- Starved sessions are returned to the admission queue (R41). -/
def State.returnStarved (s : State) : State := s.starvedPads.foldl State.toQueue s

/-- A round up to step E: it serves the round request, and at a boundary sets the ramp bases first (R49, R55, R57). -/
def State.roundTargets (s : State) (boundary : Bool) : State :=
  let s0 := { s with roundRequest := false }
  let s1 := if boundary then s0.setRampBases else s0
  let s2 := s1.admission s.budget
  s2.applyTargets (s2.grants s.budget)

/-- A mid-slot round, with its raise release attempt (R49, R64). -/
def State.midSlotRound (s : State) : State := (s.roundTargets false).releaseAttempt

/-- A boundary round: starvation is counted and starved sessions returned (R47, R66). -/
def State.boundaryRound (s : State) : State :=
  (s.roundTargets true).countStarvation.returnStarved.releaseAttempt

end Sys2Proof.Machine
end

