-- ==== Sys2Proof/Machine/Boundary.lean ====
section
/-! DEFINITION. The slot boundary as one event of four blocks (R90, R91) and the rows that are a boundary: SLOT_PHASE_RISE,
SLOT_BOUNDARY, SHED_EXPIRY, BIND_EXPIRY, STARVATION_RETURN, with MID_SLOT_ROUND. -/

namespace Sys2Proof.Machine

/-- A BINDING record at a slot boundary: one more bind slot elapsed, or the end BIND_EXPIRED at the fifth (R11). -/
def SessionRec.countBind (r : SessionRec) (slot : Word16) : SessionRec :=
  match r.body with
  | .binding token tag terms elapsed =>
    if 5 ≤ elapsed + 1 then { r with body := .vacant, last := some ⟨.bindExpired, 0, tag, slot⟩ }
    else { r with body := .binding token tag terms (elapsed + 1) }
  | _ => r

/-- The session controller's action at a boundary (R11, R91). -/
def State.countBinds (s : State) : State :=
  s.setSessions (.tabulate fun p => (s.session p).countBind s.timer.slot)

/-- The boundary before its round: the ended slot's column is cleared, slot number and phase move, the shed counts down, the
ceiling is formed for the new slot and the binds are counted (R90, R91, R126). -/
def State.boundaryStages (s : State) : State :=
  { s with
    plan := s.plan.clearColumn (columnOf s.timer.slot)
    timer := { s.timer with slot := s.timer.slot + 1, phase := 0 } }.countShed.reformAtBoundary.countBinds

/-- A slot boundary, with its boundary round (R91). -/
def State.takeBoundary (s : State) : State := s.boundaryStages.boundaryRound

/-- The next 10 ms step of the time base ends the slot: RUNNING, and the phase would reach 3,600 (R90). -/
def State.boundaryDue (s : State) : Bool := decide (s.timer.mode = .running) && decide (3599 ≤ s.timer.phase)

/-- Whether the boundary would return a starved session (R41). -/
def State.boundaryStarves (s : State) : Bool :=
  decide ((s.boundaryStages.roundTargets true).countStarvation.starvedPads ≠ [])

/-- SLOT_PHASE_RISE: in RUNNING the phase rises by 1, and a boundary occurs instead where it would reach 3,600 (R89, R90). -/
def execSlotPhaseRise (s : State) : Host.Outcome State Fault Refusal :=
  s.event
    (if s.timer.mode = .running then
      (if s.boundaryDue then s.takeBoundary else { s with timer := { s.timer with phase := s.timer.phase + 1 } })
    else s)

/-- SLOT_BOUNDARY, when the phase is due to reach 3,600 (R90). -/
def execSlotBoundary (s : State) : Host.Outcome State Fault Refusal :=
  s.event (if s.boundaryDue then s.takeBoundary else s)

/-- SHED_EXPIRY: the boundary at which an active shed's boundaries to run reach 0 (R109). -/
def execShedExpiry (s : State) : Host.Outcome State Fault Refusal :=
  s.event
    (match s.feeder.shed with
    | some shed => if s.boundaryDue ∧ shed.toRun ≤ 1 then s.takeBoundary else s
    | none => s)

/-- Whether some BINDING pad expires at the next boundary (R11). -/
def State.bindExpires (s : State) : Bool :=
  padList.any fun p =>
    match (s.session p).body.elapsed with
    | some e => decide (5 ≤ e + 1)
    | none => false

/-- BIND_EXPIRY: the boundary at which some pad's bind slots elapsed would reach 5 (R11). -/
def execBindExpiry (s : State) : Host.Outcome State Fault Refusal :=
  s.event (if s.boundaryDue ∧ s.bindExpires then s.takeBoundary else s)

/-- STARVATION_RETURN: the boundary whose round brings some starvation count to 3 (R41). -/
def execStarvationReturn (s : State) : Host.Outcome State Fault Refusal :=
  s.event (if s.boundaryDue ∧ s.boundaryStarves then s.takeBoundary else s)

/-- MID_SLOT_ROUND: the allocator serves a pending round request with a round of its own (R49). -/
def execMidSlotRound (s : State) : Host.Outcome State Fault Refusal :=
  s.event (if s.roundRequest then s.midSlotRound else s)

end Sys2Proof.Machine
end

