-- ==== Sys2Proof/Machine/FeederRequests.lean ====
section
/-! DEFINITION. The F-port's requests: the cap plan's SET WINDOW, WRITE CELLS and READ CELLS, the supervisor's SET LIMITS, SHED
and END SHED, and the slot timer's SET SLOT (R96, R97, R108 to R111, R118, R121, R122). -/

namespace Sys2Proof.Machine

/-- The order an order byte names (R183). -/
def orderOf (b : Byte) : Option Order :=
  if b = 0x00#8 then some .lineFirst else if b = 0x01#8 then some .columnFirst else none

/-- The window of a SET WINDOW that is in range, with its pointer at the first cell (R118). -/
def windowOf (ls le cs ce order : Byte) : Option Window :=
  match orderOf order with
  | none => none
  | some o =>
    if h : (le.toNat < 25 ∧ ls.toNat ≤ le.toNat) ∧ cs.toNat < 16 ∧ ce.toNat < 16 then
      let first : PlanLine := ⟨ls.toNat, by omega⟩
      let start : PlanCol := ⟨cs.toNat, h.2.1⟩
      some ⟨first, ⟨le.toNat, h.1.1⟩, start, ⟨ce.toNat, h.2.2⟩, o, first, start⟩
    else none

/-- SET WINDOW (R118). -/
def execSetWindow (s : State) : Host.Outcome State Fault Refusal :=
  s.event
    (match s.handedRequest .f with
    | some (.setWindow ls le cs ce order) =>
      match windowOf ls le cs ce order with
      | some w => { s with plan := { s.plan with window := w } }.answer .f .ok [ls, le, cs, ce, order]
      | none => s.answer .f .range []
    | _ => s)

/-- The pointer as two bytes, line then column (R184). -/
def Window.pointerBytes (w : Window) : List Byte := [byte w.line.val, byte w.col.val]

/-- WRITE CELLS: the codes are written as one event, and the changes to the current column are handed on (R121, R124,
R125). -/
def execWriteCells (s : State) : Host.Outcome State Fault Refusal :=
  s.event
    (match s.handedRequest .f with
    | some (.writeCells codes) =>
      let t := State.handOnCells s { s with plan := s.plan.writeCodes codes }
      t.answer .f .ok (byte codes.length :: t.plan.window.pointerBytes)
    | _ => s)

/-- READ CELLS (R122). -/
def execReadCells (s : State) : Host.Outcome State Fault Refusal :=
  s.event
    (match s.handedRequest .f with
    | some (.readCells count) =>
      if 1 ≤ count.toNat ∧ count.toNat ≤ 16 then
        let r := s.plan.readCells count.toNat s.plan.window
        { s with plan := { s.plan with window := r.2 } }.answer .f .ok (r.1 ++ r.2.pointerBytes)
      else s.answer .f .range []
    | _ => s)

/-- The stages of SET LIMITS in their order (R111). -/
def State.takeLimits (s : State) (ramp pmin fallback tie : Nat) : State :=
  let p := takenPmin pmin
  let s1 :=
    { s with
      feeder :=
        { s.feeder with
          ramp := takenRamp ramp p, pmin := p, fallback := takenCeiling fallback, tie := takenCeiling tie } }
  let s2 := if s.feeder.pmin < p then s1.minPowerClamp else s1
  s2.reformInSlot.requestRound

/-- SET LIMITS: the answer carries the four values as taken (R110, R111). -/
def execSetLimits (s : State) : Host.Outcome State Fault Refusal :=
  s.event
    (match s.handedRequest .f with
    | some (.setLimits ramp pmin fallback tie) =>
      let t := s.takeLimits ramp.toNat pmin.toNat fallback.toNat tie.toNat
      t.answer .f .ok (word t.feeder.ramp ++ word t.feeder.pmin ++ word t.feeder.fallback ++ word t.feeder.tie)
    | _ => s)

/-- SHED: a shed is started or replaced; FIELD enters the change sets whether or not the ceiling changes (R108, R114). -/
def execShed (s : State) : Host.Outcome State Fault Refusal :=
  s.event
    (match s.handedRequest .f with
    | some (.shed ceiling duration) =>
      let c := takenCeiling ceiling.toNat
      let n := takenDuration duration.toNat
      let t := { s with feeder := { s.feeder with shed := some ⟨c, n⟩ } }.enterField.reformInSlot
      t.answer .f .ok (word c ++ [byte n])
    | _ => s)

/-- The end of an active shed at once (R109). -/
def State.endShed (s : State) : State :=
  match s.feeder.shed with
  | some _ => { s with feeder := { s.feeder with shed := none } }.enterField.reformInSlot
  | none => s

/-- END SHED (R109). -/
def execEndShed (s : State) : Host.Outcome State Fault Refusal :=
  s.event
    (match s.handedRequest .f with
    | some .endShed => s.endShed.answer .f .ok []
    | _ => s)

/-- The effects of SET SLOT: slot number and phase, the cleared plan, the ceiling formed again inside the slot, and the
round request (R96, R97, R128). -/
def State.takeSlot (s : State) (n : Word16) : State :=
  { s with timer := { s.timer with slot := n, phase := 0 }, plan := s.plan.clear }.reformInSlot.requestRound

/-- SET SLOT (R96). -/
def execSetSlot (s : State) : Host.Outcome State Fault Refusal :=
  s.event
    (match s.handedRequest .f with
    | some (.setSlot n) => (s.takeSlot n).answer .f .ok []
    | _ => s)

end Sys2Proof.Machine
end

