-- ==== Sys2Proof/Machine/LineEvents.lean ====
section
/-! DEFINITION. The debounced input lines: raw levels, taken levels and what their consumers do (R83, R92 to R94, R102 to
R106, R156). -/

namespace Sys2Proof.Machine

/-- RAW_LEVEL_CHANGE: the raw level of a line becomes `level`. The line is outside the part, so this holds without power
too (R102). -/
def execRawLevelChange (line : Line) (level : Bool) (s : State) : Host.Outcome State Fault Refusal :=
  .next { s with lines := s.lines.set line { s.lines.get line with raw := level } }

/-- A line of the ceiling's terms has settled: a change of its level puts FIELD into the change sets and forms the ceiling
again inside the slot; a first taken level of inactive is no change (R103, R106, R114). -/
def State.supplyLineSettles (s : State) (line : Line) : State :=
  if (s.lines.get line).settling then (s.takeLevel line).enterField.reformInSlot else s.takeLevel line

/-- FLD_ENABLE_CHANGE (R104). -/
def execFldEnableChange (s : State) : Host.Outcome State Fault Refusal :=
  s.event (s.supplyLineSettles .fldEnable)

/-- SOURCE_LINE_CHANGE (R105). -/
def execSourceLineChange (line : SourceLine) (s : State) : Host.Outcome State Fault Refusal :=
  s.event (s.supplyLineSettles (lineOfSource line))

/-- HEADROOM_GIVEN_CHANGE: in shared feeder mode its becoming active makes a raise release attempt (R83). -/
def execHeadroomGivenChange (s : State) : Host.Outcome State Fault Refusal :=
  let t := s.takeLevel .headroomGiven
  s.event
    (if s.feederMode = .shared ∧ (s.lines.get .headroomGiven).settling ∧ t.level .headroomGiven then t.releaseAttempt
    else t)

/-- SVC_KEY_CHANGE: its becoming inactive closes service mode; its becoming active does nothing by itself (R156). -/
def execSvcKeyChange (s : State) : Host.Outcome State Fault Refusal :=
  let t := s.takeLevel .svcKey
  s.event (if (s.lines.get .svcKey).settling ∧ ¬ t.level .svcKey then t.setService .closed else t)

/-- The alignment: at phase 1,800 or more a boundary, below it none, and the timer is HELD at phase 0 (R92, R93). A timer
already HELD stays so (R94). -/
def State.align (s : State) : State :=
  let t := if s.timer.mode = .running ∧ 1800 ≤ s.timer.phase then s.takeBoundary else s
  { t with timer := { t.timer with phase := 0, mode := .held } }

/-- SLOT_ALIGN_ACTIVE: the debounced level becomes active (R92, R93). -/
def execSlotAlignActive (s : State) : Host.Outcome State Fault Refusal :=
  s.event
    (if (s.lines.get .slotAlign).settling ∧ (s.lines.get .slotAlign).raw then (s.takeLevel .slotAlign).align else s)

/-- SLOT_ALIGN_RELEASE: the debounced level is released and the timer runs from phase 0; a first taken level of inactive is
no change (R94, R103). -/
def execSlotAlignRelease (s : State) : Host.Outcome State Fault Refusal :=
  s.event
    (if (s.lines.get .slotAlign).raw then s
    else if (s.lines.get .slotAlign).settling then
      let t := s.takeLevel .slotAlign
      { t with timer := { t.timer with phase := 0, mode := .running } }
    else s.takeLevel .slotAlign)

end Sys2Proof.Machine
end

