-- ==== Sys2Proof/Machine/Session.lean ====
section
/-! DEFINITION. The session controller's shared operations: endings, latches, lock, state resolution, energy accounting and
the taking of a report (chapters 1 and 9). -/

namespace Sys2Proof.Machine

/-! ## Endings and held states -/

/-- The last outcome an ending writes; delivered is 0 where the session ended in BINDING (R22). -/
def outcomeOf (body : PadBody) (ending : Ending) (slot : Word16) : Option LastOutcome :=
  match body with
  | .binding _ tag _ _ => some ⟨ending, 0, tag, slot⟩
  | .matched _ _ tag _ meter => some ⟨ending, meter.delivered, tag, slot⟩
  | _ => none

/-- The pad takes a new body with any open session ended: the last outcome is written, an ELIGIBLE pad leaves eligibility,
and the token and session fields go with the old body (R22). A pad without a session changes its state without an outcome
(R23, R24, R25). -/
def State.closePad (s : State) (p : Pad) (ending : Ending) (body : PadBody) : State :=
  let r := s.session p
  let t := if r.body.isEligible then s.leaveEligibility p else s
  t.setSession p
    { r with body := body
             last := match outcomeOf r.body ending s.timer.slot with
               | some o => some o
               | none => r.last }

/-- The state of a pad when a hold is lifted (R3). -/
def State.resolvedBody (s : State) (p : Pad) : PadBody :=
  if s.lockout p then .locked
  else if (s.faultOf p).isSome then .faulted
  else if (s.linkOf p).state = .lost then .offline
  else .vacant

/-- The effect of a link loss on the session table (R25). -/
def State.loseLink (s : State) (p : Pad) : State :=
  match (s.session p).body with
  | .faulted | .locked | .offline => s
  | _ => s.closePad p .linkLost .offline

/-- One pad of a LOCK PADS that is not LOCKED: flag, state, write and change entry (R24, R157). -/
def State.lockPad (s : State) (p : Pad) : State :=
  (((s.closePad p .lockout .locked).changeRecord p (.lockout true))).enterPad p

/-! ## Fault latch (R23, R151 to R153) -/

/-- The fault record after a latch: filled when it was not latched, else its repeat count up by 1 to at most 15 (R152,
R153). -/
def latchedRecord (old : Option FaultRec) (cause : FaultCause) (code : Option Nat) (slot : Word16) (tag : Option Nat) :
    FaultRec :=
  match old with
  | none => ⟨cause, code, slot, tag, 0⟩
  | some r => { r with repeats := min 15 (r.repeats + 1) }

/-- The effect of a latch on the session table (R23). -/
def State.faultPad (s : State) (p : Pad) : State :=
  match (s.session p).body with
  | .faulted | .locked => s
  | _ => s.closePad p .fault .faulted

/-- A fault is latched on a pad. The record is filled before the ending discards the session's fields (R152); the hold
starts with `holdValue` before the setpoint falls (R73); the session table acts (R23); a changed record is queued for
writing and enters the change sets (R153). `tag` is the tag of the offending report for TAG_CHANGE, else the tag the session
record holds. -/
def State.latch (s : State) (p : Pad) (cause : FaultCause) (code : Option Nat) (tag : Option Nat) (holdValue : Nat) :
    State :=
  let record := latchedRecord (s.faultOf p) cause code s.timer.slot tag
  let held := (s.startHold p holdValue).faultPad p
  if s.faultOf p = some record then held else (held.changeRecord p (.fault (some record))).enterPad p

/-! ## Energy accounting (R14) -/

/-- The meter fields after a report's meter value is accounted (R14). -/
def Meter.account (m : Meter) : Option Word16 → Meter
  | none => m
  | some v =>
    match m.ref with
    | none => { m with ref := some v }
    | some u =>
      let delta := (v - u).toNat
      if delta ≤ 64 then { m with delivered := min 65535 (m.delivered + delta), ref := some v }
      else { m with jumps := min 255 (m.jumps + 1), ref := some v }

/-- The meter fields a new match starts with (R9, R10). -/
def Meter.fresh (ref : Option Word16) : Meter := ⟨0, ref, 0, 0⟩

/-- The body after step 1 of R6. -/
def PadBody.account (b : PadBody) (meter : Option Word16) : PadBody :=
  match b with
  | .matched phase token tag terms m => .matched phase token tag terms (m.account meter)
  | _ => b

/-- The body after the soft-fault run of step 4 of R6 took a report that does not bring it to its limit (R21). -/
def PadBody.countSoft (b : PadBody) (state : ChargerState) : PadBody :=
  match b with
  | .matched phase token tag terms m =>
    .matched phase token tag terms { m with softRun := if state = .softFault then m.softRun + 1 else 0 }
  | _ => b

/-- Whether a current report of this charger state brings the soft-fault run to 120 (R21). -/
def PadBody.softLimit (b : PadBody) (state : ChargerState) : Bool :=
  match b with
  | .matched _ _ _ _ m => decide (state = .softFault) && decide (120 ≤ m.softRun + 1)
  | _ => false

/-- Whether a current report's tag differs from the bound tag of a matched session (R20). -/
def PadBody.tagDiffers (b : PadBody) (tag : Option Nat) : Bool :=
  match b, tag with
  | .matched _ _ bound _ _, some t => decide (t ≠ bound)
  | _, _ => false

/-! ## Transitions of step 5 of R6 -/

/-- The body of a pad without a session and without a fault, lock or lost link, after a report with or without a tag
(R12). -/
def seenOrVacant : Option Nat → PadBody
  | some tag => .seen tag
  | none => .vacant

/-- The transition a current report calls for, when no earlier step of R6 ended the evaluation (R10, R12, R13, R15, R18,
R19, R20, R25). An OFFLINE pad is lifted only by a report that was handed on after the loss, with the link back (R25, R139;
notes/assumptions/25.md). -/
def State.reportTransition (s : State) (p : Pad) (r : Report) (lostSince : Bool) : State :=
  match (s.session p).body with
  | .vacant => s.setBody p (seenOrVacant r.tag)
  | .offline => if (s.linkOf p).state = .lost ∨ lostSince then s else s.setBody p (seenOrVacant r.tag)
  | .seen tag =>
    match r.tag with
    | some t => s.setBody p (.seen t)
    | none => if r.state = .empty then s.setBody p .vacant else s.setBody p (.seen tag)
  | .binding token bound terms _ =>
    if r.state = .coupling ∨ r.state = .ready then
      match r.tag with
      | some t =>
        if t = bound then (s.setBody p (.matched .eligible token bound terms (.fresh r.meter))).offer p
        else s.closePad p .bindMismatch (.seen t)
      | none => s
    else s
  | .matched .eligible token bound terms m =>
    if r.state = .empty then
      s.closePad p (if m.delivered < terms.target then .departed else .toppedDeparted) .vacant
    else if terms.target ≤ m.delivered then
      (s.leaveEligibility p).setBody p (.matched .topped token bound terms m)
    else s
  | .matched .topped _ _ terms m =>
    if r.state = .empty then
      s.closePad p (if m.delivered < terms.target then .departed else .toppedDeparted) .vacant
    else s
  | .matched .releasing _ bound _ _ =>
    if r.state = .empty then s.closePad p .released .vacant
    else if r.state ≠ .delivering ∧ r.state ≠ .hardFault ∧ r.measured ≤ 3 then
      s.closePad p .released (.clearing (r.tag.getD bound))
    else s
  | .clearing tag =>
    match r.tag with
    | some t => s.setBody p (.clearing t)
    | none => if r.state = .empty then s.setBody p .vacant else s.setBody p (.clearing tag)
  | .faulted => s
  | .locked => s

/-- The hold value of a latch made by the session controller from a report: the larger of the rating and the report's
measured power when the report ends START, else the exposure, which counts what stood before the report, what stands now,
and the report itself once the allocator has taken it (R73, R75; notes/assumptions/11.md). -/
def State.latchHoldValue (s : State) (h : Handed) (before : Before) : Nat :=
  if before.wasStart then max (s.rating h.pad) h.report.measured
  else max (max before.exposure (s.exposure h.pad)) (if h.byAllocator then h.report.measured else 0)

/-- What a session controller's taking of a report leaves: the state, and whether it latched a fault. -/
structure Taken where
  state : State
  latched : Bool

/-- The session controller takes a report (R6), in the order of its five steps. -/
def State.takeAtSession (s : State) (h : Handed) (before : Before) : Taken :=
  let p := h.pad
  let r := h.report
  let s1 := s.setBody p ((s.session p).body.account r.meter)
  let body := (s1.session p).body
  if ¬ body.takesAsCurrent r.echo then ⟨s1, false⟩
  else if r.state = .hardFault then
    ⟨s1.latch p .chargerHard r.code body.tag (s1.latchHoldValue h before), true⟩
  else if body.tagDiffers r.tag then
    ⟨s1.latch p .tagChange none r.tag (s1.latchHoldValue h before), true⟩
  else if body.softLimit r.state then
    ⟨s1.latch p .softPersist r.code body.tag (s1.latchHoldValue h before), true⟩
  else ⟨(s1.setBody p (body.countSoft r.state)).reportTransition p r h.lostSince, false⟩

/-! ## Reports in transit -/

/-- The first handed report that `taken` does not hold of, with those before and after it. -/
def firstUntaken (taken : Handed → Bool) : List Handed → Option (List Handed × Handed × List Handed)
  | [] => none
  | h :: rest =>
    if taken h then
      match firstUntaken taken rest with
      | some (pre, x, post) => some (h :: pre, x, post)
      | none => none
    else some ([], h, rest)

/-- What stands before a block takes a report of a pad: the first taking records it (R75). -/
def State.beforeOf (s : State) (h : Handed) : Before :=
  h.before.getD ⟨(s.allocOf h.pad).setpoint, s.exposure h.pad, decide ((s.allocOf h.pad).mode = .start)⟩

/-- A report stays in transit until both blocks have taken it (R141). -/
def keepUntaken (h : Handed) : List Handed := if h.bySession && h.byAllocator then [] else [h]

/-- The NONCOMPLIANT latch of a report, which acts on the pad as the report has left it. Its hold value includes the report's
measured power, also when the allocator has taken a later report before the latch is made; a report that ended START holds
the rating too (R77, R73; notes/assumptions/11.md, 13.md). -/
def State.latchNoncompliant (s : State) (h : Handed) (before : Before) : State :=
  s.latch h.pad .noncompliant none (s.session h.pad).body.tag
    (max (if before.wasStart then s.rating h.pad else s.exposure h.pad) h.report.measured)

end Sys2Proof.Machine
end

