-- ==== Sys2Proof/Machine/LinkEvents.lean ====
section
/-! DEFINITION. The pad link controller's events: poll slot, report, miss, link loss, broadcast STOP (R26, R131 to R144). -/

namespace Sys2Proof.Machine

/-! ## The setpoint frame (R26, R133) -/

/-- The command of a pad by its state and membership (R26). -/
def State.commandOf (s : State) (p : Pad) : Command :=
  match (s.session p).body with
  | .vacant | .seen _ | .binding .. | .offline => .idle
  | .matched .eligible .. => if p ∈ s.active then .run else .hold
  | .matched .topped .. => .hold
  | .matched .releasing .. | .clearing _ => .finish
  | .faulted => .hold
  | .locked => .off

/-- The setpoint in a pad's frame: the allocator's while ACTIVE, else 0 (R26). -/
def State.framedSetpoint (s : State) (p : Pad) : Nat :=
  if s.commandOf p = .run then (s.allocOf p).setpoint else 0

/-- The setpoint frame of a pad from the state as it stands (R26, R133). -/
def State.setpointFrameOf (s : State) (p : Pad) : List Byte :=
  setpointFrame p (s.commandOf p) (s.framedSetpoint p) (s.session p).body.token

/-- The pad of the poll slot after a pad's; the cycle begins again after pad 23 (R131). -/
def nextInCycle (p : Pad) : Pad := p + 1

/-- POLL_SLOT_START: the frame of the next pad of the cycle is sent and its exchange begins (R131, R132). A broadcast STOP
that is still requested goes out before it (R143; notes/assumptions/18.md). In an exchange the event cannot occur
(notes/assumptions/29.md). -/
def execPollSlotStart (s : State) : Host.Outcome State Fault Refusal :=
  s.event
    (match s.link.exchange with
    | some _ => s
    | none =>
      let p := s.link.nextPad
      let stop := if s.link.stopRequest then [stopFrame] else []
      { s with
        link :=
          { stopRequest := false
            nextPad := nextInCycle p
            exchange := some p
            received := []
            tx := stop ++ [s.setpointFrameOf p] } })

/-- BROADCAST_STOP: the link is not busy with an exchange and the request is set, so the STOP is sent and the request cleared
(R143, R144). -/
def execBroadcastStop (s : State) : Host.Outcome State Fault Refusal :=
  s.event
    (if s.link.exchange = none ∧ s.link.stopRequest then
      { s with link := { s.link with stopRequest := false, tx := [stopFrame] } }
    else s)

/-! ## The outcome of a poll (R137 to R142) -/

/-- An exchange ends, and its reply window with it (R132). -/
def LinkCtl.endExchange (l : LinkCtl) : LinkCtl := { l with exchange := none, received := [] }

/-- The bytes of the reply window after further bytes have arrived: those after the sixteenth are discarded (R132, R186). -/
def LinkCtl.receive (l : LinkCtl) (bytes : List Byte) : List Byte := (l.received ++ bytes).take 16

/-- A report handed on and taken by neither block yet (R141). -/
def Handed.fresh (p : Pad) (r : Report) : Handed := ⟨p, r, false, false, none, false, false, false, false⟩

/-- The last report that a report makes (R142). -/
def Report.kept (r : Report) : LastReport := ⟨r.state, r.echo, r.meter⟩

/-- A poll ends with a report: link UP, miss count 0, the last report replaced, a link return when the link was LOST, and
the report handed on (R137, R139, R141, R142). -/
def State.pollReport (s : State) (p : Pad) (r : Report) : State :=
  let t := s.setLink p ⟨.up, 0, some r.kept⟩
  let u := if (s.linkOf p).state = .lost then t.enterPad p else t
  { u with link := u.link.endExchange, handed := u.handed ++ [.fresh p r] }

/-- POLL_REPORT: bytes of a reply arrive in the window of the exchange in progress. The first sixteen bytes of the window are
the reply. A valid reply ends the poll with a report; an invalid one stays, every later byte of the window is discarded, and
the poll's outcome is the miss at which the window closes (R132, R134, R186; notes/assumptions/31.md). -/
def execPollReport (reply : List Byte) (s : State) : Host.Outcome State Fault Refusal :=
  s.event
    (match s.link.exchange with
    | none => s
    | some p =>
      let bytes := s.link.receive reply
      match decodeReply p bytes with
      | some r => s.pollReport p r
      | none => { s with link := { s.link with received := bytes } })

/-- Whether the next miss of a pad makes its link LOST (R137). -/
def LinkRec.missLoses (l : LinkRec) : Bool := decide (l.state ≠ .lost) && decide (2 ≤ l.misses)

/-- A report in transit after the link loss of a pad: one of that pad comes from before the loss (R141). -/
def Handed.loseLink (p : Pad) (h : Handed) : Handed := if h.pad = p then { h with lostSince := true } else h

/-- A poll ends with a miss (R137, R138, R141). The miss that loses the link starts the hold from the exposure as it stands,
then the session controller acts, and the pad enters the change sets; the pad's reports still in transit come from before
the loss. Any other miss counts a running hold down (R74). -/
def State.pollMiss (s : State) (p : Pad) : State :=
  let l := s.linkOf p
  let t := { s with link := s.link.endExchange }
  if l.missLoses then
    let u := { t with handed := t.handed.map (Handed.loseLink p) }
    (((u.setLink p { l with state := .lost, misses := 3 }).startHold p (s.exposure p)).loseLink p).enterPad p
  else
    let misses := if l.state = .lost then l.misses else l.misses + 1
    (t.setLink p { l with misses := misses }).setAlloc p ((s.allocOf p).countHold l.state)

/-- POLL_MISS: the reply window of the exchange in progress closes without a valid reply (R132, R137). -/
def execPollMiss (s : State) : Host.Outcome State Fault Refusal :=
  s.event
    (match s.link.exchange with
    | some p => s.pollMiss p
    | none => s)

/-- LINK_LOSS: the third miss in a row (R138). -/
def execLinkLoss (s : State) : Host.Outcome State Fault Refusal :=
  s.event
    (match s.link.exchange with
    | some p => if (s.linkOf p).missLoses then s.pollMiss p else s
    | none => s)

end Sys2Proof.Machine
end

