-- ==== Sys2Proof/Machine/PortEvents.lean ====
section
/-! DEFINITION. The events of a request port: frames and parts of frames received, answers sent, breaks (R166, R167, R171, R175,
R182). -/

namespace Sys2Proof.Machine

/-- A change of one port's record. -/
def State.onPort (s : State) (port : Port) (f : PortRec → PortRec) : State := s.setPort port (f (s.port port))

/-- FRAME_RECEIVED: bytes arrive on RX, one after another (R166 to R169, R182). -/
def execFrameReceived (port : Port) (bytes : List Byte) (s : State) : Host.Outcome State Fault Refusal :=
  s.event (s.onPort port fun r => bytes.foldl (PortRec.receive port) r)

/-- OPENING_MARKER_RECEIVED: a new frame starts, and the part received so far is dropped (R182). -/
def execOpeningMarkerReceived (port : Port) (s : State) : Host.Outcome State Fault Refusal :=
  s.event (s.onPort port fun r => r.receive port 0xF0#8)

/-- FRAME_SILENCE_DROP: the part received so far is dropped (R167). -/
def execFrameSilenceDrop (port : Port) (s : State) : Host.Outcome State Fault Refusal :=
  s.event (s.onPort port PortRec.dropPart)

/-- FRAME_OVERRUN_DROP: the bytes received are dropped as a frame (R167, R182). -/
def execFrameOverrunDrop (port : Port) (s : State) : Host.Outcome State Fault Refusal :=
  s.event (s.onPort port PortRec.dropPart)

/-- ANSWER_SENT: the pending request's own answer has been sent and the port becomes IDLE (R166, R171). -/
def execAnswerSent (port : Port) (s : State) : Host.Outcome State Fault Refusal :=
  s.event (s.onPort port fun r => r.sent true)

/-- BUSY_ANSWER_SENT: a BUSY answer has been sent and the next waiting answer may start (R171). -/
def execBusyAnswerSent (port : Port) (s : State) : Host.Outcome State Fault Refusal :=
  s.event (s.onPort port fun r => r.sent false)

/-- What a break leaves of a port: IDLE, no part, no answers, a full change set (R175). -/
def PortRec.broken (r : PortRec) : PortRec :=
  { r with part := none, inBreak := true, pending := none, tx := [], changes := .full }

/-- PORT_BREAK: taken once while the line stays low; a break on the S-port closes service mode (R156, R175). -/
def execPortBreak (port : Port) (s : State) : Host.Outcome State Fault Refusal :=
  s.event
    (if (s.port port).inBreak then s
    else
      let t := s.onPort port PortRec.broken
      if port = .s then t.setService .closed else t)

/-- BREAK_LINE_RETURNS_HIGH: reception may start again at the next opening marker (R175). -/
def execBreakLineReturnsHigh (port : Port) (s : State) : Host.Outcome State Fault Refusal :=
  s.event (s.onPort port fun r => { r with inBreak := false })

end Sys2Proof.Machine
end

