-- ==== Sys2Proof/Machine/Queries.lean ====
section
/-! DEFINITION. The four requests of every port: PING, READ CHANGES, QUERY PAD, QUERY FIELD (R174, R177 to R179). -/

namespace Sys2Proof.Machine

/-- PING: the port's identity and FIELD_ID (R177). -/
def execPing (port : Port) (s : State) : Host.Outcome State Fault Refusal :=
  s.event
    (match s.handedRequest port with
    | some .ping => s.gatedOn port .ping fun t => t.answer port .ok [portCode port, t.fieldId]
    | _ => s)

/-- READ CHANGES: the change set is answered and then emptied (R174). -/
def execReadChanges (port : Port) (s : State) : Host.Outcome State Fault Refusal :=
  s.event
    (match s.handedRequest port with
    | some .readChanges =>
      s.gatedOn port .readChanges fun t =>
        let u := t.answer port .ok (t.port port).changes.body
        u.setPort port { u.port port with changes := .empty }
    | _ => s)

/-- QUERY PAD: RANGE above 23, else the pad's items read in one event (R178). -/
def execQueryPad (port : Port) (s : State) : Host.Outcome State Fault Refusal :=
  s.event
    (match s.handedRequest port with
    | some (.queryPad pad) =>
      s.gatedOn port .queryPad fun t =>
        match padOf pad with
        | some p => t.answer port .ok (t.padBody p)
        | none => t.answer port .range []
    | _ => s)

/-- QUERY FIELD: the field-wide items read in one event (R179). -/
def execQueryField (port : Port) (s : State) : Host.Outcome State Fault Refusal :=
  s.event
    (match s.handedRequest port with
    | some .queryField => s.gatedOn port .queryField fun t => t.answer port .ok t.fieldBody
    | _ => s)

end Sys2Proof.Machine
end

