-- ==== Sys2Proof/Machine/Reports.lean ====
section
/-! DEFINITION. A report at the session controller (R6) and at the allocator (R75), in either order, and the rows that are one
of these two events: SESSION_REPORT, SOFT_PERSIST_LATCH, ALLOCATOR_REPORT, NONCOMPLIANT_LATCH, DISTRUST_HOLD_EXPIRY. -/

namespace Sys2Proof.Machine

/-! ## At the session controller -/

/-- A report in transit after a later report of a pad latched a fault: its poll is not one of those that count the latch's
hold (R74). -/
def Handed.startHold (p : Pad) (h : Handed) : Handed := if h.pad = p then { h with heldSince := true } else h

/-- The session controller takes the oldest report it has not taken (R6, R141). A NONCOMPLIANT latch that waits for this
taking is made after it (R77). -/
def State.sessionTakes (s : State) : State :=
  match firstUntaken (·.bySession) s.handed with
  | none => s
  | some (pre, h, post) =>
    let before := s.beforeOf h
    let taken := s.takeAtSession h before
    let t := if h.byAllocator && h.noncompliant then taken.state.latchNoncompliant h before else taken.state
    { t with
      handed :=
        (if taken.latched then pre.map (Handed.startHold h.pad) else pre)
          ++ keepUntaken { h with bySession := true, before := some before, latched := taken.latched } ++ post }

/-- SESSION_REPORT (R6). -/
def execSessionReport (s : State) : Host.Outcome State Fault Refusal := s.event s.sessionTakes

/-- Whether a report latches SOFT_PERSIST when the session controller takes it (R6, R21). -/
def State.softPersistDue (s : State) (h : Handed) : Bool :=
  let body := (s.session h.pad).body
  body.takesAsCurrent h.report.echo && decide (h.report.state ≠ .hardFault) && !body.tagDiffers h.report.tag
    && body.softLimit h.report.state

/-- SOFT_PERSIST_LATCH: the session controller takes the report that would bring the soft-fault run to 120 (R21). -/
def execSoftPersistLatch (s : State) : Host.Outcome State Fault Refusal :=
  s.event
    (match firstUntaken (·.bySession) s.handed with
    | some (_, h, _) => if s.softPersistDue h then s.sessionTakes else s
    | none => s)

/-! ## At the allocator -/

/-- Whether a current report overdraws: its measured power is above the setpoint that stood before either block took it by
more than 3 kW (R76). -/
def overdraws (current : Bool) (before : Before) (r : Report) : Bool :=
  current && decide (before.setpoint + 3 < r.measured)

/-- Whether an overdraw brings the compliance count to its limit of 6 (R77). -/
def AllocRec.atLimit (a : AllocRec) (overdraw : Bool) : Bool := overdraw && decide (6 ≤ a.compliance + 1)

/-- Whether a report of 3 kW or less ends a hold: the pad's link is UP, the report was handed on after the last link loss,
and it is not the report that latched the fault (R74, R141; notes/assumptions/12.md). -/
def Handed.endsHold (h : Handed) (link : LinkState) : Bool := decide (link = .up) && !h.lostSince && !h.latched

/-- Whether a report counts a hold down: it could end the hold, and its poll came after the one whose outcome started the
hold (R74; notes/assumptions/12.md). -/
def Handed.countsHold (h : Handed) (link : LinkState) : Bool := h.endsHold link && !h.heldSince

/-- The record after step 3 of R75 and the countdown of R74: START becomes NORMAL, and a HOLD ends, counts down or stays. -/
def AllocRec.takeMode (a : AllocRec) (r : Report) (ends counts : Bool) : AllocRec :=
  match a.mode with
  | .start => { a with mode := .normal }
  | .normal => a
  | .hold .. => if ends ∧ r.measured ≤ 3 then a.endHold .up else if counts then a.countHold .up else a

/-- Steps 1 to 4 of R75 on a pad's own record: measured power, acceptance limit, exposure mode, compliance count. `ends` and
`counts` say whether the report may end a hold and whether it counts one down (R74, R141). -/
def AllocRec.take (a : AllocRec) (r : Report) (current overdraw ends counts : Bool) : AllocRec :=
  { a with
    measured := r.measured
    accept := if current then r.accept else a.accept
    compliance := if overdraw then (if a.atLimit overdraw then 0 else a.compliance + 1) else 0 }.takeMode r ends counts

/-- The pause and unpause between steps 4 and 5 (R145, R147). -/
def State.pauseBy (s : State) (p : Pad) (current : Bool) (state : ChargerState) : State :=
  let a := s.allocOf p
  if current ∧ p ∈ s.active then
    if state = .softFault then
      (if a.paused then s else s.setAlloc p { a with paused := true, setpoint := 0, target := 0 })
    else if a.paused then (s.setAlloc p { a with paused := false }).requestRound
    else s
  else s

/-- Step 5: the clamp after a fall of the cap, the round request after a rise (R75, R86). -/
def State.capStep (s : State) (p : Pad) (current : Bool) (oldCap : Nat) : State :=
  if current then
    (if s.capOf p < oldCap then (if p ∈ s.active then s.clampPad p else s)
    else if oldCap < s.capOf p then s.requestRound
    else s)
  else s

/-- What the allocator's taking of a report leaves: the state, and whether the report reached the compliance limit. -/
structure TakenByAllocator where
  state : State
  atLimit : Bool

/-- The allocator takes a report (R75). Its step 6 is the raise release attempt that ends the event. -/
def State.takeAtAllocator (s : State) (h : Handed) (before : Before) : TakenByAllocator :=
  let p := h.pad
  let r := h.report
  let current := (s.session p).body.takesAsCurrent r.echo
  let overdraw := overdraws current before r
  let limit := (s.allocOf p).atLimit overdraw
  let link := (s.linkOf p).state
  let s4 := s.setAlloc p
    ((s.allocOf p).take r current overdraw (h.endsHold link && !limit) (h.countsHold link && !limit))
  let s4' := if limit && h.bySession then s4.latchNoncompliant h before else s4
  ⟨(s4'.pauseBy p current r.state).capStep p current (s.capOf p), limit⟩

/-- The allocator takes the oldest report it has not taken (R75, R141). -/
def State.allocatorTakes (s : State) : State :=
  match firstUntaken (·.byAllocator) s.handed with
  | none => s
  | some (pre, h, post) =>
    let before := s.beforeOf h
    let taken := s.takeAtAllocator h before
    { taken.state with
      handed :=
        pre ++ keepUntaken { h with byAllocator := true, before := some before, noncompliant := taken.atLimit } ++ post }

/-- ALLOCATOR_REPORT (R75). -/
def execAllocatorReport (s : State) : Host.Outcome State Fault Refusal := s.event s.allocatorTakes

/-- Whether a report brings the compliance count to 6 when the allocator takes it (R76, R77). -/
def State.limitDue (s : State) (h : Handed) : Bool :=
  (s.allocOf h.pad).atLimit
    (overdraws ((s.session h.pad).body.takesAsCurrent h.report.echo) (s.beforeOf h) h.report)

/-- NONCOMPLIANT_LATCH: the allocator takes the report that brings the compliance count to 6, or the session controller takes
the report whose NONCOMPLIANT latch waits for it (R77; notes/assumptions/13.md). -/
def execNoncompliantLatch (s : State) : Host.Outcome State Fault Refusal :=
  let atAllocator :=
    match firstUntaken (·.byAllocator) s.handed with
    | some (_, h, _) => s.limitDue h
    | none => false
  let atSession :=
    match firstUntaken (·.bySession) s.handed with
    | some (_, h, _) => h.byAllocator && h.noncompliant
    | none => false
  s.event (if atAllocator then s.allocatorTakes else if atSession then s.sessionTakes else s)

/-- Whether a hold is at its last poll. -/
def AllocRec.lastPoll (a : AllocRec) : Bool :=
  match a.mode with
  | .hold _ remaining => decide (remaining ≤ 1)
  | _ => false

/-- Whether the taking of a report by the allocator counts a hold down to 0 (R74). -/
def State.holdEndsBy (s : State) (h : Handed) : Bool :=
  (s.allocOf h.pad).lastPoll && h.countsHold (s.linkOf h.pad).state && !s.limitDue h

/-- Whether a miss in the exchange in progress counts a hold down to 0 (R74, R138). -/
def State.missEndsHold (s : State) : Bool :=
  match s.link.exchange with
  | some p => (s.allocOf p).lastPoll && !(s.linkOf p).missLoses
  | none => false

/-- DISTRUST_HOLD_EXPIRY: the poll outcome at which a hold's polls remaining reach 0, a report at the allocator or a miss
(R74; notes/assumptions/7.md). -/
def execDistrustHoldExpiry (s : State) : Host.Outcome State Fault Refusal :=
  let byReport :=
    match firstUntaken (·.byAllocator) s.handed with
    | some (_, h, _) => s.holdEndsBy h
    | none => false
  s.event
    (if byReport then s.allocatorTakes
    else if s.missEndsHold then (match s.link.exchange with | some p => s.pollMiss p | none => s)
    else s)

end Sys2Proof.Machine
end

