-- ==== Sys2Proof/Config.lean ====
section
/-! DEFINITION. What the manual leaves to the hardware: the one free value of the model. -/

namespace Sys2Proof

/-- Whether a record whose store write is cut by a device reset or a loss of power holds its whole new content in the
non-volatile cells afterwards, or its whole old content: R165 allows both. A free value: the n-th draw is this constant
at n, and nothing is known of it (notes/assumptions/4.md). -/
opaque Config.tornWriteHoldsNew : Nat → Bool

end Sys2Proof
end

