-- ==== Sys2Proof/Machine/Reset.lean ====
section
/-! DEFINITION. Device reset and loss of power (R27, R46, R81, R101, R115, R129, R150, R162, R165, R180). -/

namespace Sys2Proof.Machine

/-- The cells after a write in progress is cut: the free value says whether they hold its whole new or its whole old content
(R165; notes/assumptions/4.md). -/
def State.cutCells (s : State) : StoreImage := s.store.cellsAfterCut (Config.tornWriteHoldsNew s.freeDraws)

/-- A cut of a write in progress draws one free value. -/
def State.drawsAfterCut (s : State) : Nat := if s.store.writing.isSome then s.freeDraws + 1 else s.freeDraws

/-- DEVICE_RESET: the straps are latched, the image is loaded from the cells and every block takes its reset values. The raw
levels of the lines and the commands that wait are outside the part and stay (notes/assumptions/1.md, 28.md). -/
def execDeviceReset (sharedStrap : Bool) (fieldId : Byte) (s : State) : Host.Outcome State Fault Refusal :=
  .next
    (State.afterReset s.pending s.lines (if sharedStrap then .shared else .dedicated) fieldId s.cutCells
      s.drawsAfterCut)

/-- POWER_LOSS: the write in progress is cut and the queue is lost; until the next DEVICE_RESET the part does nothing
(R165; notes/assumptions/17.md). -/
def execPowerLoss (s : State) : Host.Outcome State Fault Refusal :=
  .next
    (if s.powered then
      { s with
        powered := false
        store := { s.store with cells := s.cutCells, writes := [], writing := none }
        freeDraws := s.drawsAfterCut }
    else s)

end Sys2Proof.Machine
end

