-- ==== Sys2Proof/Machine/ServiceRequests.lean ====
section
/-! DEFINITION. The S-port's requests at the service controller, the open expiry, and the completion of a store write (R154 to
R164). -/

namespace Sys2Proof.Machine

/-- OPEN SERVICE taken in CLOSED (R155). -/
def State.openService (s : State) (field : Byte) : State :=
  if s.level .svcKey = false then s.answer .s .state []
  else if field ≠ s.fieldId then s.answer .s .mismatch []
  else (s.setService .opening).answer .s .ok [0x01#8]

/-- OPEN SERVICE (R155). -/
def execOpenService (s : State) : Host.Outcome State Fault Refusal :=
  s.event
    (match s.handedRequest .s with
    | some (.openService field) => s.gated .openService fun t => t.openService field
    | _ => s)

/-- CONFIRM SERVICE taken in OPENING (R155). -/
def State.confirmService (s : State) (field : Byte) : State :=
  if field = s.fieldId then (s.setService .opened).answer .s .ok [0x02#8]
  else (s.setService .closed).answer .s .mismatch []

/-- CONFIRM SERVICE (R155). -/
def execConfirmService (s : State) : Host.Outcome State Fault Refusal :=
  s.event
    (match s.handedRequest .s with
    | some (.confirmService field) => s.gated .confirmService fun t => t.confirmService field
    | _ => s)

/-- CLOSE SERVICE (R154, R156). -/
def execCloseService (s : State) : Host.Outcome State Fault Refusal :=
  s.event
    (match s.handedRequest .s with
    | some .closeService => s.gated .closeService fun t => (t.setService .closed).answer .s .ok []
    | _ => s)

/-- OPEN_EXPIRY: the open expiry of an OPENING runs out (R156). -/
def execOpenExpiry (s : State) : Host.Outcome State Fault Refusal :=
  s.event (if s.service = .opening then s.setService .closed else s)

/-- The pads a selector matches, in ascending pad number (R157). -/
def selectedPads (base mask : Byte) : List Pad := padList.filter (selects base mask)

/-- LOCK PADS taken (R157, R164). -/
def State.lockPads (s : State) (base mask : Byte) : State :=
  if selectorInRange base mask then
    let pads := (selectedPads base mask).filter fun p => decide (s.padState p ≠ .locked)
    (pads.foldl State.lockPad s).answerAfter .s (pads.map fun p => s.store.waitFor ⟨.lockout, p⟩) .ok
      (padSetBytes (selects base mask))
  else s.answer .s .range []

/-- LOCK PADS (R157). -/
def execLockPads (s : State) : Host.Outcome State Fault Refusal :=
  s.event
    (match s.handedRequest .s with
    | some (.lockPads base mask) => s.gated .lockPads fun t => t.lockPads base mask
    | _ => s)

/-- One LOCKED pad of an UNLOCK PADS: flag and fault record cleared together, its state resolved, its writes queued
(R158). -/
def State.unlockPad (s : State) (p : Pad) : State :=
  let s1 := s.changeRecord p (.lockout false)
  let s2 := if (s.faultOf p).isSome then s1.changeRecord p (.fault none) else s1
  (s2.setBody p (s2.resolvedBody p)).enterPad p

/-- The records that the unlocking of a pad changes (R158, R163). -/
def State.unlockRecords (s : State) (p : Pad) : List RecordId :=
  ⟨.lockout, p⟩ :: (if (s.faultOf p).isSome then [⟨.fault, p⟩] else [])

/-- UNLOCK PADS taken (R158, R164). -/
def State.unlockPads (s : State) (base mask : Byte) : State :=
  if selectorInRange base mask then
    let pads := (selectedPads base mask).filter fun p => decide (s.padState p = .locked)
    (pads.foldl State.unlockPad s).answerAfter .s ((pads.flatMap s.unlockRecords).map s.store.waitFor) .ok
      (padSetBytes fun p => decide (p ∈ pads))
  else s.answer .s .range []

/-- UNLOCK PADS (R158). -/
def execUnlockPads (s : State) : Host.Outcome State Fault Refusal :=
  s.event
    (match s.handedRequest .s with
    | some (.unlockPads base mask) => s.gated .unlockPads fun t => t.unlockPads base mask
    | _ => s)

/-- The fault record of a FAULTED pad is cleared and its state resolved (R159). -/
def State.clearFaultOf (s : State) (p : Pad) : State :=
  let s1 := s.changeRecord p (.fault none)
  (s1.setBody p (s1.resolvedBody p)).enterPad p

/-- CLEAR FAULT taken (R159, R164). -/
def State.clearFault (s : State) (pad : Byte) : State :=
  match padOf pad with
  | none => s.answer .s .range []
  | some p =>
    if s.padState p = .faulted then
      (s.clearFaultOf p).answerAfter .s [s.store.waitFor ⟨.fault, p⟩] .ok (padSetBytes fun q => decide (q = p))
    else s.answer .s .state []

/-- CLEAR FAULT (R159). -/
def execClearFault (s : State) : Host.Outcome State Fault Refusal :=
  s.event
    (match s.handedRequest .s with
    | some (.clearFault pad) => s.gated .clearFault fun t => t.clearFault pad
    | _ => s)

/-- SET RATING taken (R160, R164). -/
def State.setRating (s : State) (pad : Byte) (rating : Word16) : State :=
  match padOf pad with
  | none => s.answer .s .range []
  | some p =>
    if s.padState p = .locked then
      let kw := min rating.toNat 400
      let body := padSetBytes (fun q => decide (q = p)) ++ word kw
      if kw = s.rating p then s.answer .s .ok body
      else (s.changeRecord p (.rating kw)).answerAfter .s [s.store.waitFor ⟨.rating, p⟩] .ok body
    else s.answer .s .state []

/-- SET RATING (R160). -/
def execSetRating (s : State) : Host.Outcome State Fault Refusal :=
  s.event
    (match s.handedRequest .s with
    | some (.setRating pad rating) => s.gated .setRating fun t => t.setRating pad rating
    | _ => s)

/-- READ FAULT (R161). -/
def execReadFault (s : State) : Host.Outcome State Fault Refusal :=
  s.event
    (match s.handedRequest .s with
    | some (.readFault pad) =>
      s.gated .readFault fun t =>
        match padOf pad with
        | some p => t.answer .s .ok (t.faultBody p)
        | none => t.answer .s .range []
    | _ => s)

/-- A held answer of the S-port after a write of a record has completed: made when it waits for no further write (R164). -/
def State.releaseHeld (s : State) (id : RecordId) : State :=
  match s.ports.s.pending with
  | some ⟨_, _, .held waits status body⟩ => s.answerAfter .s (waitsAfterWrite id waits) status body
  | _ => s

/-- STORE_WRITE_COMPLETE: the cells hold what the write took; the next write begins at the end of the event (R163, R164). -/
def execStoreWriteComplete (s : State) : Host.Outcome State Fault Refusal :=
  s.event
    (match s.store.writing with
    | some w => State.releaseHeld { s with store := s.store.completeWrite } w.id
    | none => s)

end Sys2Proof.Machine
end

