-- ==== Sys2Proof/Machine/SessionRequests.lean ====
section
/-! DEFINITION. The D-port's requests at the session controller: BIND, AMEND, RELEASE (R7 to R9, R16, R17). -/

namespace Sys2Proof.Machine

/-- A BIND that passes its range checks, on a pad (R7 steps 2 and 3, R8, R9). -/
def State.bindPad (s : State) (p : Pad) (tag : Nat) (terms : Terms) : State :=
  let r := s.session p
  let token := nextToken r.tokenSeq
  if s.rating p = 0 then s.answer .d .notCommissioned []
  else
    match r.body with
    | .vacant =>
      (s.setSession p { r with body := .binding token tag terms 0, tokenSeq := token }).answer .d .ok [0x00#8, byte token]
    | .seen seenTag =>
      if tag = seenTag then
        let ref := (s.linkOf p).last.bind (·.meter)
        ((s.setSession p { r with body := .matched .eligible token tag terms (.fresh ref), tokenSeq := token }).offer
          p).answer .d .ok [0x01#8, byte token]
      else s.answer .d .mismatch []
    | _ => s.answer .d .state []

/-- BIND (R7). -/
def execBind (s : State) : Host.Outcome State Fault Refusal :=
  s.event
    (match s.handedRequest .d with
    | some (.bind pad tag target deadline cls) =>
      match padOf pad, termsInRange target deadline cls s.timer.slot with
      | some p, some terms =>
        if tag = 0#16 ∨ tag = 0xFFFF#16 then s.answer .d .range [] else s.bindPad p tag.toNat terms
      | _, _ => s.answer .d .range []
    | _ => s)

/-- A QUEUED pad whose class or deadline an AMEND changed is inserted again as a new entry; any other pad keeps its place
(R16, R31, R32). -/
def State.requeueAmended (s : State) (p : Pad) (old new : Terms) : State :=
  if p ∈ s.queue ∧ (old.cls ≠ new.cls ∨ old.deadline ≠ new.deadline) then
    { s with queue := s.queue.erase p }.offer p
  else s

/-- An AMEND that passes its range checks, on a pad (R16). -/
def State.amendPad (s : State) (p : Pad) (terms : Terms) : State :=
  match (s.session p).body with
  | .matched .eligible token tag old m =>
    (if terms.target ≤ m.delivered then
      (s.leaveEligibility p).setBody p (.matched .topped token tag terms m)
    else (s.setBody p (.matched .eligible token tag terms m)).requeueAmended p old terms).answer .d .ok []
  | .matched .topped token tag _ m =>
    (if terms.target ≤ m.delivered then s.setBody p (.matched .topped token tag terms m)
    else (s.setBody p (.matched .eligible token tag terms m)).offer p).answer .d .ok []
  | _ => s.answer .d .state []

/-- AMEND (R16). -/
def execAmend (s : State) : Host.Outcome State Fault Refusal :=
  s.event
    (match s.handedRequest .d with
    | some (.amend pad target deadline cls) =>
      match padOf pad, termsInRange target deadline cls s.timer.slot with
      | some p, some terms => s.amendPad p terms
      | _, _ => s.answer .d .range []
    | _ => s)

/-- A RELEASE of a pad (R17). -/
def State.releasePad (s : State) (p : Pad) : State :=
  match (s.session p).body with
  | .matched .eligible token tag terms m =>
    ((s.leaveEligibility p).setBody p (.matched .releasing token tag terms m)).answer .d .accepted []
  | .matched .topped token tag terms m =>
    (s.setBody p (.matched .releasing token tag terms m)).answer .d .accepted []
  | .binding .. => (s.closePad p .cancelled .vacant).answer .d .ok []
  | .matched .releasing .. => s.answer .d .ok []
  | .clearing _ => s.answer .d .ok []
  | _ => s.answer .d .state []

/-- RELEASE (R17). -/
def execRelease (s : State) : Host.Outcome State Fault Refusal :=
  s.event
    (match s.handedRequest .d with
    | some (.release pad) =>
      match padOf pad with
      | some p => s.releasePad p
      | none => s.answer .d .range []
    | _ => s)

end Sys2Proof.Machine
end

