-- ==== Sys2Proof/Machine/Dispatch.lean ====
section
/-! DEFINITION. The dispatch: one arm per row of the opcode table, each a direct call of that row's meaning. -/

namespace Sys2Proof.Machine

open Sys2Proof

def exec (i : Instr) (s : State) : Host.Outcome State Fault Refusal :=
  match i with
  | .deviceReset shared field => Sys2Proof.Machine.execDeviceReset shared field s
  | .frameReceived port bytes => Sys2Proof.Machine.execFrameReceived port bytes s
  | .frameSilenceDrop port => Sys2Proof.Machine.execFrameSilenceDrop port s
  | .frameOverrunDrop port => Sys2Proof.Machine.execFrameOverrunDrop port s
  | .answerSent port => Sys2Proof.Machine.execAnswerSent port s
  | .portBreak port => Sys2Proof.Machine.execPortBreak port s
  | .ping port => Sys2Proof.Machine.execPing port s
  | .readChanges port => Sys2Proof.Machine.execReadChanges port s
  | .queryPad port => Sys2Proof.Machine.execQueryPad port s
  | .queryField port => Sys2Proof.Machine.execQueryField port s
  | .bind => Sys2Proof.Machine.execBind s
  | .amend => Sys2Proof.Machine.execAmend s
  | .release => Sys2Proof.Machine.execRelease s
  | .setWindow => Sys2Proof.Machine.execSetWindow s
  | .writeCells => Sys2Proof.Machine.execWriteCells s
  | .readCells => Sys2Proof.Machine.execReadCells s
  | .setLimits => Sys2Proof.Machine.execSetLimits s
  | .shed => Sys2Proof.Machine.execShed s
  | .endShed => Sys2Proof.Machine.execEndShed s
  | .setSlot => Sys2Proof.Machine.execSetSlot s
  | .lockPads => Sys2Proof.Machine.execLockPads s
  | .openService => Sys2Proof.Machine.execOpenService s
  | .confirmService => Sys2Proof.Machine.execConfirmService s
  | .closeService => Sys2Proof.Machine.execCloseService s
  | .unlockPads => Sys2Proof.Machine.execUnlockPads s
  | .clearFault => Sys2Proof.Machine.execClearFault s
  | .setRating => Sys2Proof.Machine.execSetRating s
  | .readFault => Sys2Proof.Machine.execReadFault s
  | .storeWriteComplete => Sys2Proof.Machine.execStoreWriteComplete s
  | .pollSlotStart => Sys2Proof.Machine.execPollSlotStart s
  | .pollReport reply => Sys2Proof.Machine.execPollReport reply s
  | .pollMiss => Sys2Proof.Machine.execPollMiss s
  | .linkLoss => Sys2Proof.Machine.execLinkLoss s
  | .sessionReport => Sys2Proof.Machine.execSessionReport s
  | .softPersistLatch => Sys2Proof.Machine.execSoftPersistLatch s
  | .allocatorReport => Sys2Proof.Machine.execAllocatorReport s
  | .noncompliantLatch => Sys2Proof.Machine.execNoncompliantLatch s
  | .distrustHoldExpiry => Sys2Proof.Machine.execDistrustHoldExpiry s
  | .broadcastStop => Sys2Proof.Machine.execBroadcastStop s
  | .midSlotRound => Sys2Proof.Machine.execMidSlotRound s
  | .slotBoundary => Sys2Proof.Machine.execSlotBoundary s
  | .shedExpiry => Sys2Proof.Machine.execShedExpiry s
  | .bindExpiry => Sys2Proof.Machine.execBindExpiry s
  | .starvationReturn => Sys2Proof.Machine.execStarvationReturn s
  | .slotAlignActive => Sys2Proof.Machine.execSlotAlignActive s
  | .slotAlignRelease => Sys2Proof.Machine.execSlotAlignRelease s
  | .fldEnableChange => Sys2Proof.Machine.execFldEnableChange s
  | .sourceLineChange line => Sys2Proof.Machine.execSourceLineChange line s
  | .headroomGivenChange => Sys2Proof.Machine.execHeadroomGivenChange s
  | .svcKeyChange => Sys2Proof.Machine.execSvcKeyChange s
  | .openExpiry => Sys2Proof.Machine.execOpenExpiry s
  | .slotPhaseRise => Sys2Proof.Machine.execSlotPhaseRise s
  | .rawLevelChange line level => Sys2Proof.Machine.execRawLevelChange line level s
  | .openingMarkerReceived port => Sys2Proof.Machine.execOpeningMarkerReceived port s
  | .breakLineReturnsHigh port => Sys2Proof.Machine.execBreakLineReturnsHigh port s
  | .busyAnswerSent port => Sys2Proof.Machine.execBusyAnswerSent port s
  | .powerLoss => Sys2Proof.Machine.execPowerLoss s

end Sys2Proof.Machine
end

