-- ==== Sys2Proof/Safety.lean ====
section
/-! DEFINITION. What the manual says holds between events, block by block, in the terms the obligations use. Each law is a
decidable proposition about one state. -/

namespace Sys2Proof.Machine

/-! ## Allocator -/

/-- The membership law: every ELIGIBLE pad is on exactly one collection, no other pad is on either, none is held twice
(R28). -/
abbrev State.MembershipLaw (s : State) : Prop :=
  s.queue.Nodup ∧ s.active.Nodup ∧ (∀ p : Pad, p ∈ s.queue → p ∉ s.active) ∧
    ∀ p : Pad, s.padState p = .eligible ↔ p ∈ s.queue ∨ p ∈ s.active

/-- From head to tail of the admission queue the class never decreases (R29). -/
abbrev State.QueueClassOrder (s : State) : Prop :=
  s.queue.Pairwise fun p q => s.classOf p ≤ s.classOf q

/-- A pad off the active list has setpoint, target, ramp base and starvation count 0 and no pause (R33, R39, R41, R147). -/
abbrev State.IdleOffList (s : State) : Prop :=
  ∀ p : Pad, p ∉ s.active →
    (s.allocOf p).setpoint = 0 ∧ (s.allocOf p).target = 0 ∧ (s.allocOf p).rampBase = 0 ∧
      (s.allocOf p).starvation = 0 ∧ (s.allocOf p).paused = false

/-- A PAUSED session has setpoint and target 0 (R145, R146). -/
abbrev State.PausedAtZero (s : State) : Prop :=
  ∀ p : Pad, (s.allocOf p).paused = true → (s.allocOf p).setpoint = 0 ∧ (s.allocOf p).target = 0

/-- Every setpoint and target grant is within the pad's cap in force, and 0 or at least P_min (R86, R87, R65). -/
abbrev State.SetpointsInCaps (s : State) : Prop :=
  ∀ p : Pad,
    (s.allocOf p).setpoint ≤ s.capOf p ∧ (s.allocOf p).target ≤ s.capOf p ∧
      ((s.allocOf p).setpoint = 0 ∨ s.feeder.pmin ≤ (s.allocOf p).setpoint) ∧
      ((s.allocOf p).target = 0 ∨ s.feeder.pmin ≤ (s.allocOf p).target)

/-- The sum of the setpoints of all 24 pads is within the effective ceiling (R79). -/
abbrev State.SetpointsUnderCeiling (s : State) : Prop :=
  sumOver padList (fun p => (s.allocOf p).setpoint) ≤ s.feeder.ceiling

/-- No pad has a pending raise (R63). -/
abbrev State.NoRaisePending (s : State) : Prop := ∀ p : Pad, (s.allocOf p).pendingRaise = false

/-- A power of a pad is 0..400 kW (section 0.6). -/
def padMax : Nat := 400

/-- The hold fields of a mode are in range (R70, R73). -/
abbrev ExposureMode.InRange (m : ExposureMode) : Prop :=
  ∀ f ∈ m.holdFields, f.1 ≤ padMax ∧ 1 ≤ f.2 ∧ f.2 ≤ 8

/-- Every record of the allocator is in its range (R55, R63, R66, R70, R71, R73, R76). -/
abbrev AllocRec.InRange (a : AllocRec) : Prop :=
  a.setpoint ≤ padMax ∧ a.target ≤ padMax ∧ a.rampBase ≤ padMax ∧ a.measured ≤ padMax ∧ a.mode.InRange ∧
    a.compliance ≤ 5 ∧ a.starvation ≤ 2

/-- The rating a record's content holds, when it is a rating. -/
def Content.kw : Content → Option Nat
  | .rating kw => some kw
  | _ => none

/-- Ratings are 0..400 in the image, in the cells and in a write in progress (R162). -/
abbrev Store.RatingsInRange (st : Store) : Prop :=
  (∀ p : Pad, st.image.rating.get p ≤ padMax) ∧ (∀ p : Pad, st.cells.rating.get p ≤ padMax) ∧
    ∀ w ∈ st.writing, ∀ kw ∈ w.content.kw, kw ≤ padMax

/-- Reports in transit carry a measured power of 0..400, and so does what was recorded before them (R135). -/
abbrev State.HandedInRange (s : State) : Prop :=
  ∀ h ∈ s.handed, h.report.measured ≤ padMax ∧ ∀ b ∈ h.before, b.exposure ≤ padMax

/-- The powers and counts the allocator keeps are in their ranges, with the ratings and reports they are formed from. -/
abbrev State.PowersInRange (s : State) : Prop :=
  (∀ p : Pad, (s.allocOf p).InRange) ∧ s.store.RatingsInRange ∧ s.HandedInRange

/-! ## Feeder supervisor, slot timer, cap plan -/

/-- The effective ceiling and its cause are those of the terms as they stand (R104, R106). -/
abbrev State.CeilingFormed (s : State) : Prop := s.formCeiling = ⟨s.feeder.ceiling, s.feeder.cause⟩

/-- The supervisor's values are in the ranges of R110, and R is at least P_min. -/
abbrev State.LimitsInRange (s : State) : Prop :=
  10 ≤ s.feeder.ramp ∧ s.feeder.ramp ≤ 400 ∧ s.feeder.pmin ≤ 63 ∧ s.feeder.pmin ≤ s.feeder.ramp ∧
    s.feeder.fallback ≤ 4095 ∧ s.feeder.tie ≤ 4095 ∧
    ∀ shed ∈ s.feeder.shed, shed.ceiling ≤ 4095 ∧ 1 ≤ shed.toRun ∧ shed.toRun ≤ 255

/-- The slot phase is 0..3,599 and stays at 0 while HELD (R89). -/
abbrev State.TimerLaw (s : State) : Prop :=
  s.timer.phase < 3600 ∧ (s.timer.mode = .held → s.timer.phase = 0)

/-- The pointer names a cell inside the window, whose lines run upward (R118), and the cells are in their lines' ranges
(R116). -/
abbrev State.PlanLaw (s : State) : Prop :=
  s.plan.window.lineStart ≤ s.plan.window.lineEnd ∧ s.plan.window.pointerInside = true ∧
    ∀ (line : PlanLine) (col : PlanCol), ∀ v ∈ s.plan.cell line col, v ≤ (if line = 0 then 4095 else padMax)

/-! ## Session controller, service controller, retained store, pad link -/

/-- A pad is LOCKED exactly when its lockout flag is set (R157), and FAULTED exactly when its flag is clear and its fault
record is latched (R3, R151). -/
abbrev State.HeldStatesLaw (s : State) : Prop :=
  ∀ p : Pad, (s.padState p = .locked ↔ s.lockout p = true) ∧
    (s.padState p = .faulted ↔ s.lockout p = false ∧ (s.faultOf p).isSome = true)

/-- The token of an open session is the pad's token sequence, 1..255 (R1, R2). -/
abbrev State.TokenLaw (s : State) : Prop :=
  ∀ p : Pad, (s.session p).tokenSeq ≤ 255 ∧
    ((s.session p).body.terms.isSome = true →
      (s.session p).body.token = (s.session p).tokenSeq ∧ 1 ≤ (s.session p).body.token)

/-- The counts of the session table are in the ranges of R1. -/
abbrev State.SessionCounts (s : State) : Prop :=
  ∀ p : Pad,
    (∀ m ∈ (s.session p).body.meter, m.delivered ≤ 65535 ∧ m.jumps ≤ 255 ∧ m.softRun ≤ 119) ∧
      ∀ e ∈ (s.session p).body.elapsed, e ≤ 4

/-- Service mode is OPEN or OPENING only while SVC_KEY is active (R156). -/
abbrev State.ServiceLaw (s : State) : Prop := s.service ≠ .closed → s.level .svcKey = true

/-- The write queue holds each record at most once, and it is empty while no write is in progress (R163). -/
abbrev State.StoreLaw (s : State) : Prop :=
  s.store.writes.Nodup ∧ (s.store.writing = none → s.store.writes = [])

/-- The writes that a held answer waits for (R164). -/
def PortRec.waits (r : PortRec) : List StoreWait :=
  match r.pending with
  | some ⟨_, _, .held waits _ _⟩ => waits
  | _ => []

/-- A held answer waits only for writes that are still to complete: of a record whose entry is queued, or whose write in
progress began after the change (R164). -/
abbrev State.HeldAnswerLaw (s : State) : Prop :=
  s.powered = true →
    ∀ w ∈ s.ports.s.waits,
      if w.skip then w.id ∈ s.store.writes ∧ s.store.writing.map (·.id) = some w.id
      else w.id ∈ s.store.writes ∨ s.store.writing.map (·.id) = some w.id

/-- The miss count is 0..3, and it is 3 exactly while the link is LOST (R137); a pad whose link is LOST is OFFLINE, FAULTED
or LOCKED (R3, R25). -/
abbrev State.LinkLaw (s : State) : Prop :=
  ∀ p : Pad, (s.linkOf p).misses ≤ 3 ∧ ((s.linkOf p).misses = 3 ↔ (s.linkOf p).state = .lost) ∧
    ((s.linkOf p).state = .lost → s.padState p = .offline ∨ s.padState p = .faulted ∨ s.padState p = .locked)

/-! ## Request ports -/

/-- Whether a stage is the one of a request whose own answer has been made and not yet sent. -/
def Stage.isAnswered : Stage → Bool
  | .answered => true
  | _ => false

/-- Whether a stage may stand on a port with a request code: a request handed on is one the code names and the port
permits, and only the S-port holds an answer for store writes, never for none (R164, R168). -/
def Stage.fits (port : Port) (code : Byte) : Stage → Bool
  | .handed q => decide (q.kind.code = code) && q.kind.permittedOn port
  | .held waits _ _ => decide (port = .s) && !waits.isEmpty
  | .answered => true

/-- One port: the answers to send hold the pending request's own answer exactly once while that request is answered, and
never otherwise (R166, R171); its stage fits the port; the part of a frame received is within the longest frame (R167). -/
abbrev PortRec.Law (r : PortRec) (port : Port) : Prop :=
  r.tx.countP (·.own) = (if (r.pending.map (·.stage.isAnswered)).getD false then 1 else 0) ∧
    (∀ q ∈ r.pending, q.stage.fits port q.code = true) ∧ ∀ bytes ∈ r.part, bytes.length ≤ 75

/-- The law of the three ports. -/
abbrev State.PortLaw (s : State) : Prop := s.ports.d.Law .d ∧ s.ports.f.Law .f ∧ s.ports.s.Law .s

/-! ## Terms of the statements about one command -/

/-- A powered part between events: no store write waits to begin (R163). -/
abbrev State.Ready (s : State) : Prop := s.powered = true ∧ s.StoreLaw

/-- The pending request of a port has been answered: its own answer, echoing code and tag, is the last of those to send, and
the port stays PENDING until it is sent (R166, R171). -/
abbrev State.AnsweredBy (s t : State) (port : Port) (status : Status) (body : List Byte) : Prop :=
  ∀ q ∈ (s.port port).pending,
    (t.port port).pending = some { q with stage := .answered } ∧
      (t.port port).tx = (s.port port).tx ++ [⟨true, ⟨q.code, q.tag, status, body⟩⟩]

/-- Between two states the change set of each port gained the given pads, and FIELD when `field` holds, and nothing else
(R172). -/
abbrev State.Entered (s t : State) (pads : Pad → Bool) (field : Bool) : Prop :=
  t.ports.d.changes = s.ports.d.changes.enter pads field ∧ t.ports.f.changes = s.ports.f.changes.enter pads field ∧
    t.ports.s.changes = s.ports.s.changes.enter pads field

/-- What a raise release attempt may do to a pad: nothing, or bring the setpoint of a pending raise to its target (R79). -/
abbrev AllocRec.Released (a b : AllocRec) : Prop :=
  b = a ∨ (a.setpoint < a.target ∧ b = { a with setpoint := a.target })

/-- What a change of the effective ceiling inside a slot does to the allocator's records, `t` holding the new ceiling: a rise
makes a raise release attempt; a fall curtails when the active setpoints sum to more than the new budget, each active
setpoint and target becoming the setpoint's share, 0 below P_min; else every record stays (R80, R84, R112;
notes/assumptions/22.md for the targets). -/
abbrev State.CurtailedTo (s t : State) : Prop :=
  let budget := t.feeder.ceiling - s.offListExposure
  let total := sumOver s.activePads fun p => (s.allocOf p).setpoint
  if s.feeder.ceiling < t.feeder.ceiling then t.alloc = { s with feeder := t.feeder }.releaseAttempt.alloc
  else if t.feeder.ceiling < s.feeder.ceiling ∧ budget < total then
    ∀ p : Pad,
      if p ∈ s.active then
        let share := (s.allocOf p).setpoint * budget / total
        let kw := if share < t.feeder.pmin then 0 else share
        t.allocOf p = { s.allocOf p with setpoint := kw, target := kw }
      else (s.allocOf p).Released (t.allocOf p)
  else t.alloc = s.alloc

/-- What the end of an event inside a slot does to the allocator's records `s`, those the event's own clamps left, `t` holding the
new ceiling and P_min and `before` being the state before the event: a fall of the ceiling curtails when the active setpoints
sum to more than the new budget; else a rise of the ceiling, or an exposure that the clamps lowered, makes a raise release
attempt; else every record stays (R80, R84, R112; notes/assumptions/22.md for the targets). -/
abbrev State.SettledTo (before s t : State) : Prop :=
  let budget := t.feeder.ceiling - s.offListExposure
  let total := sumOver s.activePads fun p => (s.allocOf p).setpoint
  if t.feeder.ceiling < s.feeder.ceiling ∧ budget < total then
    ∀ p : Pad,
      if p ∈ s.active then
        let share := (s.allocOf p).setpoint * budget / total
        let kw := if share < t.feeder.pmin then 0 else share
        t.allocOf p = { s.allocOf p with setpoint := kw, target := kw }
      else (s.allocOf p).Released (t.allocOf p)
  else if s.feeder.ceiling < t.feeder.ceiling ∨ ∃ p : Pad, s.exposure p < before.exposure p then
    t.alloc = { s with feeder := t.feeder }.releaseAttempt.alloc
  else t.alloc = s.alloc

/-- The share of a pad when an amount is given out over the weights of a list of pads in ascending pad number: the weight in
full when the amount covers all, else amount times weight by the sum of the weights, rounded down, and 1 more for a weight
above 0 while the leftover lasts (R58, R60). -/
def shareOf (amount : Nat) (pads : List Pad) (weight : Pad → Nat) (p : Pad) : Nat :=
  let total := sumOver pads weight
  if total ≤ amount then weight p
  else
    let leftover := amount - sumOver pads fun q => amount * weight q / total
    let ahead := pads.countP fun q => decide (q < p) && decide (0 < weight q)
    amount * weight p / total + if 0 < weight p ∧ ahead < leftover then 1 else 0

/-- Between two states of the store, writes of the records `ids` were queued in their order, each at the tail or merged into
its entry already queued, and the head was then taken for writing if no write was in progress; the cells stay (R163). -/
abbrev Store.Queued (a b : Store) (ids : List RecordId) : Prop :=
  let entries := ids.foldl (fun q id => if id ∈ q then q else q ++ [id]) a.writes
  b.cells = a.cells ∧
    if a.writing.isSome then b.writes = entries ∧ b.writing = a.writing
    else b.writes = entries.tail ∧ b.writing = entries.head?.map fun id => ⟨id, b.image.content id⟩

/-- Whether a stage is the one of a request whose answer is held for store writes (R164). -/
def Stage.isHeld : Stage → Bool
  | .held .. => true
  | _ => false

/-- Whether a request's body may have a length (R183). -/
def RequestKind.fits (k : RequestKind) (length : Nat) : Bool :=
  match k with
  | .ping | .readChanges | .queryField | .endShed | .closeService => length == 0
  | .queryPad | .release | .readCells | .openService | .confirmService | .clearFault | .readFault => length == 1
  | .setSlot | .lockPads | .unlockPads => length == 2
  | .shed | .setRating => length == 3
  | .setWindow => length == 5
  | .amend => length == 6
  | .bind | .setLimits => length == 8
  | .writeCells => length % 2 == 0 && decide (2 ≤ length) && decide (length ≤ 32)

/-- The status with which the generic checks of a port refuse a frame, when they do (R168). -/
def FrameContent.refusal (c : FrameContent) (port : Port) : Option Status :=
  match kindOfCode c.code with
  | none => some .unknown
  | some k =>
    if k.permittedOn port = false then some .notPermitted
    else if k.fits c.body.length then none
    else some .malformed

/-- The row of the table in which the owning block takes a request of a port. -/
def Request.row (r : Request) (port : Port) : Instr :=
  match r with
  | .ping => .ping port
  | .readChanges => .readChanges port
  | .queryPad _ => .queryPad port
  | .queryField => .queryField port
  | .bind .. => .bind
  | .amend .. => .amend
  | .release _ => .release
  | .setWindow .. => .setWindow
  | .writeCells _ => .writeCells
  | .readCells _ => .readCells
  | .setLimits .. => .setLimits
  | .shed .. => .shed
  | .endShed => .endShed
  | .setSlot _ => .setSlot
  | .lockPads .. => .lockPads
  | .openService _ => .openService
  | .confirmService _ => .confirmService
  | .closeService => .closeService
  | .unlockPads .. => .unlockPads
  | .clearFault _ => .clearFault
  | .setRating .. => .setRating
  | .readFault _ => .readFault

/-- The oldest report in transit is one that the session controller has not taken, and no latch waits for its taking
(R141). -/
abbrev State.SessionNext (s : State) (h : Handed) (rest : List Handed) : Prop :=
  s.handed = h :: rest ∧ h.bySession = false ∧ h.noncompliant = false

/-- The reports in transit after the session controller took the oldest one (R141). -/
def State.handedAfterSession (s : State) (h : Handed) (rest : List Handed) (latched : Bool) : List Handed :=
  keepUntaken { h with bySession := true, before := some (s.beforeOf h), latched := latched } ++ rest

end Sys2Proof.Machine
end

