-- ==== Sys2Proof/Certificates/Slice0/Obligations.lean ====
section
/-! DEFINITION. The statements for the provers. Each docstring says what the manual's rules say; the rules are those of its
entry in OBLIGATIONS.json. A numbered choice of the model's own is named by its log entry. -/

open Sys2Proof Sys2Proof.Machine

/-- For every command c and state s with c at the front of its queue, step of s is exec of c on s with the rest of the
queue; with an empty queue the step answers next s (the idling is the model's choice, log entry 9). (The order of the
events is the order of the queue (notes/assumptions/5.md, 9.md).) -/
def Obligations.StepTakesFront : Prop :=
  (∀ (c : Instr) (rest : List Instr) (s : State),
    s.pending = c :: rest →
      step s = exec c { s with pending := rest }) ∧
  (∀ (s : State),
    s.pending = [] →
      step s = .next s)

/-- State.reset meets each of the nineteen laws of Safety.lean: membership, queue order, idle pads, paused pads, caps,
ceiling, ranges, formed ceiling, limits, timer, plan, held states, tokens, counts, service, store, held answers, link,
ports. (The laws hold after device reset.) -/
def Obligations.ResetMeetsLaws : Prop :=
  State.reset.MembershipLaw ∧
  State.reset.QueueClassOrder ∧
  State.reset.IdleOffList ∧
  State.reset.PausedAtZero ∧
  State.reset.SetpointsInCaps ∧
  State.reset.SetpointsUnderCeiling ∧
  State.reset.PowersInRange ∧
  State.reset.CeilingFormed ∧
  State.reset.LimitsInRange ∧
  State.reset.TimerLaw ∧
  State.reset.PlanLaw ∧
  State.reset.HeldStatesLaw ∧
  State.reset.TokenLaw ∧
  State.reset.SessionCounts ∧
  State.reset.ServiceLaw ∧
  State.reset.StoreLaw ∧
  State.reset.HeldAnswerLaw ∧
  State.reset.LinkLaw ∧
  State.reset.PortLaw

/-- For every state in which every ELIGIBLE pad is on exactly one of the admission queue and the active list, no other
pad is on either and neither holds a pad twice, a step that answers a next state leaves it so. (The membership law of
R28, over every command.) -/
def Obligations.MembershipKept : Prop :=
  ∀ (s t : State),
    s.MembershipLaw → step s = .next t →
      t.MembershipLaw

/-- For every state that meets the membership law and whose queue's classes never decrease from head to tail, a step
that answers a next state leaves the classes of the queue so. (The class order of R29; the membership law rules out a
queued pad without a session, whose class a BIND would set.) -/
def Obligations.QueueClassOrderKept : Prop :=
  ∀ (s t : State),
    s.MembershipLaw → s.QueueClassOrder → step s = .next t →
      t.QueueClassOrder

/-- For every state in which every pad off the active list has setpoint, target, ramp base and starvation count 0 and
no pause, and every PAUSED pad has setpoint and target 0, a step that answers a next state leaves both so. (What
leaving the active list and a pause set to 0 stays 0.) -/
def Obligations.IdleOffListKept : Prop :=
  ∀ (s t : State),
    s.IdleOffList → s.PausedAtZero → step s = .next t →
      t.IdleOffList ∧
      t.PausedAtZero

/-- For every state that meets the membership law, the held-states law, the idle law and in which every setpoint and
target is at most the pad's cap in force and is 0 or at least P_min, a step that answers a next state leaves every
setpoint and target so. (R86's first sentence and R87's first sentence, for setpoints and for targets.) -/
def Obligations.SetpointsInCapsKept : Prop :=
  ∀ (s t : State),
    s.MembershipLaw → s.HeldStatesLaw → s.IdleOffList → s.SetpointsInCaps → step s = .next t →
      t.SetpointsInCaps

/-- For every state that meets the membership law and the idle law and in which the setpoints of the 24 pads sum to at
most the effective ceiling, a step that answers a next state leaves the sum within the ceiling it then has. (R79: the
sum of the setpoints of all 24 pads never exceeds the effective ceiling.) -/
def Obligations.SetpointsUnderCeilingKept : Prop :=
  ∀ (s t : State),
    s.MembershipLaw → s.IdleOffList → s.SetpointsUnderCeiling → step s = .next t →
      t.SetpointsUnderCeiling

/-- For every state whose allocator records, ratings and reports in transit are in range (powers 0..400 kW, polls
remaining 1..8, compliance count 0..5, starvation count 0..2), a step that answers a next state leaves them in range,
and every exposure is then at most 400 kW. (The ranges of chapters 3 and 4; the exposure bound of R70 follows.) -/
def Obligations.PowersInRangeKept : Prop :=
  (∀ (s t : State),
    s.PowersInRange → step s = .next t →
      t.PowersInRange) ∧
  (∀ (s : State) (p : Pad),
    s.PowersInRange →
      s.exposure p ≤ 400 ∧
      (s.allocOf p).setpoint ≤ s.exposure p)

/-- For every state whose effective ceiling and limiting cause are those formed from its terms, a step that answers a
next state leaves the ceiling and cause those formed from the terms of the next state: every event that changes an
input of the ceiling forms it again. (R106, over every command.) -/
def Obligations.CeilingFormedKept : Prop :=
  ∀ (s t : State),
    s.CeilingFormed → step s = .next t →
      t.CeilingFormed

/-- For every state, a step that answers a next state keeps the ranges of the ramp step, P_min, fallback, tie and shed
(with R at least P_min), keeps the slot phase below 3,600 and at 0 while HELD, and keeps the plan's pointer inside its
window and its cells in their lines' ranges, each if it held before. (Three range laws, kept together.) -/
def Obligations.LimitsTimerPlanKept : Prop :=
  ∀ (s t : State),
    s.LimitsInRange → s.TimerLaw → s.PlanLaw → step s = .next t →
      t.LimitsInRange ∧
      t.TimerLaw ∧
      t.PlanLaw

/-- For every state in which each pad is LOCKED exactly when its lockout flag in the image is set and FAULTED exactly
when its flag is clear and its fault record is latched, a step that answers a next state leaves each pad so. (R157's
last sentence with the order of R3, over every command.) -/
def Obligations.HeldStatesKept : Prop :=
  ∀ (s t : State),
    s.HeldStatesLaw → step s = .next t →
      t.HeldStatesLaw

/-- For every state in which each open session's token is its pad's token sequence, 1..255, and delivered, jumps,
soft-fault run and bind slots elapsed are in the ranges of R1, a step that answers a next state leaves the table so.
(The ranges of R1 and the token sequence of R2.) -/
def Obligations.TokenLawKept : Prop :=
  ∀ (s t : State),
    s.TokenLaw → s.SessionCounts → step s = .next t →
      t.TokenLaw ∧
      t.SessionCounts

/-- For every state in which service mode is CLOSED or the debounced SVC_KEY is active, a step that answers a next
state leaves it so. (R156: service mode is OPEN or OPENING only while SVC_KEY is active.) -/
def Obligations.ServiceKeyKept : Prop :=
  ∀ (s t : State),
    s.ServiceLaw → step s = .next t →
      t.ServiceLaw

/-- For every state whose write queue names each record at most once and is empty while no write is in progress, and
whose held S-port answer waits only for writes queued or in progress (and skips a write in progress only when a later
entry is queued), a step that answers a next state leaves both so: a held answer is never stranded while the part has
power. (The queue of R163 and the waits of R164; the port law rules out a held answer on another port.) -/
def Obligations.StoreKept : Prop :=
  ∀ (s t : State),
    s.PortLaw → s.StoreLaw → s.HeldAnswerLaw → step s = .next t →
      t.StoreLaw ∧
      t.HeldAnswerLaw

/-- For every state in which each miss count is 0..3, is 3 exactly while the link is LOST, and a LOST pad is OFFLINE,
FAULTED or LOCKED, a step that answers a next state leaves it so. (R137's table with the states R25 and R3 leave on a
loss.) -/
def Obligations.LinkKept : Prop :=
  ∀ (s t : State),
    s.LinkLaw → step s = .next t →
      t.LinkLaw

/-- For every state in which each port has its own answer waiting exactly while its pending request is answered, a
request handed on is one the port permits, only the S-port holds an answer, and the part of a frame received is within
the longest frame, a step that answers a next state leaves each port so. (The life of a request on a port.) -/
def Obligations.PortsKept : Prop :=
  ∀ (s t : State),
    s.PortLaw → step s = .next t →
      t.PortLaw

/-- For every command that answers a next state: the commands that wait are unchanged, by DEVICE_RESET too (the queue
is the model's own, log entry 5, and that a reset keeps it is its choice, log entry 28); the feeder mode and FIELD_ID
change only by DEVICE_RESET; the non-volatile cells change only by STORE_WRITE_COMPLETE and POWER_LOSS (a DEVICE_RESET
leaves what a cut write left); the slot number changes only by the boundary rows, SLOT_ALIGN_ACTIVE, SET_SLOT and
DEVICE_RESET; the plan's cells only by those rows and WRITE_CELLS. (Which events can change which state. The clause on
the waiting commands rests on notes/assumptions/5.md and 28.md, not on a rule.) -/
def Obligations.OnlyNamedEventsMove : Prop :=
  ∀ (c : Instr) (s t : State),
    exec c s = .next t →
      t.pending = s.pending ∧
      ((∀ strap id, c ≠ .deviceReset strap id) → t.feederMode = s.feederMode ∧ t.fieldId = s.fieldId) ∧
      ((∀ strap id, c ≠ .deviceReset strap id) → c ≠ .storeWriteComplete → c ≠ .powerLoss → t.store.cells =
        s.store.cells) ∧
      ((∀ strap id, c ≠ .deviceReset strap id) → c ∉
        [.slotPhaseRise, .slotBoundary, .shedExpiry, .bindExpiry, .starvationReturn, .slotAlignActive, .setSlot] →
        t.timer.slot = s.timer.slot ∧ (c ≠ .writeCells → t.plan.cells = s.plan.cells))

/-- For every request of the catalogue, with every value its fields allow, every request tag and every port that
permits it: on an IDLE port that is not in break, the bytes of the request's frame (stuffed, with length byte and
check, between markers) make FRAME_RECEIVED leave the port PENDING with exactly that request handed to its owning
block, whatever part of a frame was received before, and change nothing else. (Decode of encode, through the receiver,
the frame checks, the generic checks and the body layouts.) -/
def Obligations.RequestFrameRoundTrip : Prop :=
  ∀ (r : Request) (tag : Byte) (port : Port) (s : State),
    s.Ready → r.encodable = true → r.kind.permittedOn port = true → (s.port port).inBreak = false →
    (s.port port).pending = none →
      exec (.frameReceived port (r.frame tag)) s = .next
        (s.setPort port { s.port port with part := none, pending := some ⟨r.kind.code, tag, .handed r⟩ })

/-- On a port not in break: while PENDING, any request's frame, and any frame within 76 bytes whatever its code and
body length, adds a BUSY answer echoing its code and tag and leaves the pending request; while IDLE, a frame within 76
bytes whose code is unknown is answered UNKNOWN, whose request the port does not permit NOT_PERMITTED, and whose body
length is not one of its request's MALFORMED, in that order, handing nothing on. Nothing else changes. (R168's order
of checks and R169's BUSY.) -/
def Obligations.FramesNotTaken : Prop :=
  (∀ (r : Request) (tag : Byte) (port : Port) (s : State) (q : Pending),
    s.Ready → r.encodable = true → (s.port port).inBreak = false → (s.port port).pending = some q →
      exec (.frameReceived port (r.frame tag)) s = .next (s.setPort port
        { s.port port with part := none, tx := (s.port port).tx ++ [⟨false, ⟨r.kind.code, tag, .busy, []⟩⟩] })) ∧
  (∀ (c : FrameContent) (port : Port) (s : State) (q : Pending),
    s.Ready → (s.port port).inBreak = false → (s.port port).pending = some q →
    (lineFrame (requestContent c)).length ≤ 76 →
      exec (.frameReceived port (lineFrame (requestContent c))) s = .next
        (s.setPort port
        { s.port port with part := none, tx := (s.port port).tx ++ [⟨false, ⟨c.code, c.tag, .busy, []⟩⟩] })) ∧
  (∀ (c : FrameContent) (status : Status) (port : Port) (s : State),
    s.Ready → (s.port port).inBreak = false → (s.port port).pending = none →
    (lineFrame (requestContent c)).length ≤ 76 → c.refusal port = some status →
      exec (.frameReceived port (lineFrame (requestContent c))) s = .next
        (s.setPort port { s.port port with
                          part := none, pending := some ⟨c.code, c.tag, .answered⟩,
                          tx := (s.port port).tx ++ [⟨true, ⟨c.code, c.tag, status, []⟩⟩] }))

/-- FRAME_SILENCE_DROP and FRAME_OVERRUN_DROP leave the port without a received part; OPENING_MARKER_RECEIVED starts a
new frame, dropping the part, unless the line is in break, when nothing is received; bytes between markers that fail
the frame checks leave the port without a part. Nothing else changes: no answer, no port state. (R167's drops.) -/
def Obligations.FramesDropped : Prop :=
  (∀ (port : Port) (s : State),
    s.Ready →
      exec (.frameSilenceDrop port) s = .next (s.setPort port { s.port port with part := none })) ∧
  (∀ (port : Port) (s : State),
    s.Ready →
      exec (.frameOverrunDrop port) s = .next (s.setPort port { s.port port with part := none })) ∧
  (∀ (port : Port) (s : State),
    s.Ready → (s.port port).inBreak = false →
      exec (.openingMarkerReceived port) s = .next (s.setPort port { s.port port with part := some [] })) ∧
  (∀ (port : Port) (s : State),
    s.Ready → (s.port port).inBreak = true →
      exec (.openingMarkerReceived port) s = .next s) ∧
  (∀ (port : Port) (mid : List Byte) (s : State),
    s.Ready → (s.port port).inBreak = false → (∀ x ∈ mid, x ≠ 0xF0#8 ∧ x ≠ 0xF1#8) → mid.length ≤ 74 →
    parseFrame mid = none →
      exec (.frameReceived port (0xF0#8 :: mid ++ [0xF1#8])) s = .next
        (s.setPort port { s.port port with part := none }))

/-- PORT_BREAK on a port not yet in break drops its received part, its pending request and its answers, makes it IDLE
and fills its change set; on the S-port it also closes an open or opening service mode, which puts FIELD into every
change set. It touches nothing else. While the line stays low a further break does nothing, and
BREAK_LINE_RETURNS_HIGH only ends the break. (R175.) -/
def Obligations.PortBreakTaken : Prop :=
  (∀ (port : Port) (s : State),
    s.Ready → (s.port port).inBreak = false → (port ≠ .s ∨ s.service = .closed) →
      exec (.portBreak port) s = .next (s.setPort port
        { s.port port with part := none, inBreak := true, pending := none, tx := [], changes := .full })) ∧
  (∀ (s : State),
    s.Ready → (s.port .s).inBreak = false → s.service ≠ .closed →
      exec (.portBreak .s) s = .next (({ s with service := .closed }.setPort .s
        { s.port .s with part := none, inBreak := true, pending := none, tx := [], changes := .full }).enterField)) ∧
  (∀ (port : Port) (s : State),
    s.Ready → (s.port port).inBreak = true →
      exec (.portBreak port) s = .next s) ∧
  (∀ (port : Port) (s : State),
    s.Ready →
      exec (.breakLineReturnsHigh port) s = .next (s.setPort port { s.port port with inBreak := false }))

/-- ANSWER_SENT with the pending request's own answer at the head of those to send removes it, discards the pending
request and leaves the port IDLE; BUSY_ANSWER_SENT with a BUSY answer at the head removes that answer alone. Either
row with the other kind of answer at the head, or with none, changes nothing, as that event cannot then occur (the
model's choice, log entry 5). Besides, the bytes sent are kept in lastSent, a field of the model's own that no rule
names (log entry 20). Nothing else changes. (R166 stage 5 and R171 for the first two clauses but for lastSent
(notes/assumptions/20.md); the last two are notes/assumptions/5.md.) -/
def Obligations.AnswersSent : Prop :=
  (∀ (port : Port) (a : Answer) (rest : List TxItem) (s : State),
    s.Ready → (s.port port).tx = ⟨true, a⟩ :: rest →
      exec (.answerSent port) s = .next
        (s.setPort port { s.port port with tx := rest, lastSent := some a.frame, pending := none })) ∧
  (∀ (port : Port) (a : Answer) (rest : List TxItem) (s : State),
    s.Ready → (s.port port).tx = ⟨false, a⟩ :: rest →
      exec (.busyAnswerSent port) s = .next (s.setPort port { s.port port with tx := rest, lastSent := some a.frame })) ∧
  (∀ (port : Port) (s : State),
    s.Ready → (∀ item ∈ (s.port port).tx.head?, item.own = false) →
      exec (.answerSent port) s = .next s) ∧
  (∀ (port : Port) (s : State),
    s.Ready → (∀ item ∈ (s.port port).tx.head?, item.own = true) →
      exec (.busyAnswerSent port) s = .next s)

/-- On every port that holds a PING (on the S-port while service mode is not OPENING), PING makes the answer OK with
the port's code (01h D, 02h F, 03h S) and FIELD_ID, and changes nothing but that port's answer. (R177, with the codes
of R184; the gating of the S-port is R154's.) -/
def Obligations.PingAnswers : Prop :=
  ∀ (port : Port) (s : State),
    s.Ready → s.handedRequest port = some .ping → (port ≠ .s ∨ s.service ≠ .opening) →
      exec (.ping port) s = .next
        (s.answer port .ok [match port with | .d => 0x01#8 | .f => 0x02#8 | .s => 0x03#8, s.fieldId])

/-- On every port that holds a READ CHANGES (on the S-port while service mode is not OPENING), the answer is OK with
the port's pad set and FIELD flag, the set is then empty and ATTN inactive; nothing else changes. In a pad set of
three bytes the bit p mod 8 of byte p / 8 says whether pad p is in the set. (R174 and the pad sets of R184.) -/
def Obligations.ReadChangesAnswers : Prop :=
  (∀ (port : Port) (s : State),
    s.Ready → s.handedRequest port = some .readChanges → (port ≠ .s ∨ s.service ≠ .opening) →
      ∃ t : State, exec (.readChanges port) s = .next t ∧
        s.AnsweredBy t port .ok
          (padSetBytes (s.port port).changes.pads.get ++ [if (s.port port).changes.field then 0x01#8 else 0x00#8]) ∧
        (t.port port).changes = ⟨.fill 24 false, false⟩ ∧
        t.attn port = false ∧
        t = s.setPort port { s.port port with
                             pending := (t.port port).pending, tx := (t.port port).tx,
                             changes := (t.port port).changes }) ∧
  (∀ (has : Pad → Bool) (p : Pad),
    (padSetBytes has).length = 3 ∧
    ((padSetBytes has)[p.val / 8]?.getD 0#8).getLsbD (p.val % 8) = has p)

/-- On every port that holds the query (on the S-port while service mode is not OPENING): QUERY PAD above 23 is
answered RANGE, else OK with 50 bytes that carry pad, pad state, token, target, setpoint, exposure and cap in force at
the offsets of R185; QUERY FIELD is answered OK with 21 + n + m bytes that carry slot number, phase and effective
ceiling, and then the two lists. Nothing else changes. (R178 and R179; the whole layouts are State.padBody and
State.fieldBody.) -/
def Obligations.QueriesAnswer : Prop :=
  (∀ (port : Port) (pad : Byte) (s : State),
    s.Ready → s.handedRequest port = some (.queryPad pad) → (port ≠ .s ∨ s.service ≠ .opening) → 24 ≤ pad.toNat →
      exec (.queryPad port) s = .next (s.answer port .range [])) ∧
  (∀ (port : Port) (pad : Byte) (p : Pad) (s : State),
    s.Ready → s.handedRequest port = some (.queryPad pad) → (port ≠ .s ∨ s.service ≠ .opening) → pad.toNat = p.val →
      exec (.queryPad port) s = .next (s.answer port .ok (s.padBody p))) ∧
  (∀ (p : Pad) (s : State),
    (s.padBody p).length = 50 ∧
    (s.padBody p).take 3 = [byte p.val, (s.padState p).code, byte (s.session p).body.token] ∧
    ((s.padBody p).drop 26).take 8 = word (s.allocOf p).target ++ word (s.allocOf p).setpoint ++ word
      (s.allocOf p).rampBase ++ word (s.exposure p) ∧
    ((s.padBody p).drop 42).take 2 = word (s.capOf p)) ∧
  (∀ (port : Port) (s : State),
    s.Ready → s.handedRequest port = some .queryField → (port ≠ .s ∨ s.service ≠ .opening) →
      exec (.queryField port) s = .next (s.answer port .ok s.fieldBody)) ∧
  (∀ (s : State),
    s.fieldBody.length = 21 + s.queue.length + s.active.length ∧
    s.fieldBody.take 6 = word s.timer.slot.toNat ++ word s.timer.phase ++ word s.feeder.ceiling ∧
    (s.fieldBody.drop 19).take s.queue.length = s.queue.map (fun p => byte p.val) ∧
    (s.fieldBody.drop (20 + s.queue.length)).take s.active.length = s.active.map (fun p => byte p.val))

/-- For every request that the S-port holds: in OPENING each request but CONFIRM SERVICE and CLOSE SERVICE is answered
SEQUENCE and closes service mode, which puts FIELD into every change set; in CLOSED, UNLOCK PADS, CLEAR FAULT and SET
RATING are answered NO_SERVICE and CONFIRM SERVICE is answered SEQUENCE; in OPEN, OPEN SERVICE and CONFIRM SERVICE are
answered SEQUENCE. A refusal has no other effect. (R154's table.) -/
def Obligations.ServiceGates : Prop :=
  (∀ (r : Request) (s : State),
    s.Ready → s.service = .opening → s.handedRequest .s = some r → r.kind.permittedOn .s = true →
    r.kind ≠ .confirmService → r.kind ≠ .closeService →
      exec (r.row .s) s = .next ({ s with service := .closed }.enterField.answer .s .sequence [])) ∧
  (∀ (r : Request) (s : State),
    s.Ready → s.service = .closed → s.handedRequest .s = some r →
    (r.kind = .unlockPads ∨ r.kind = .clearFault ∨ r.kind = .setRating) →
      exec (r.row .s) s = .next (s.answer .s .noService [])) ∧
  (∀ (r : Request) (s : State),
    s.Ready → s.handedRequest .s = some r →
    ((s.service = .closed ∧ r.kind = .confirmService) ∨
      (s.service = .opened ∧ (r.kind = .openService ∨ r.kind = .confirmService))) →
      exec (r.row .s) s = .next (s.answer .s .sequence []))

/-- For a BIND in range on a commissioned pad: VACANT becomes BINDING with the next token, the request's terms and 0
bind slots elapsed, answered OK pending; SEEN with that tag becomes ELIGIBLE with the next token, delivered 0 and the
last report's meter value as reference, is inserted into the admission queue at the position of R29, requests a round
and is answered OK matched. The pad enters every change set; nothing else changes. (R8 and R9; insertBefore is R29's
scan, whose position the last clause states.) -/
def Obligations.BindTaken : Prop :=
  (∀ (pad : Byte) (tag target deadline : Word16) (cls : Byte) (p : Pad) (k : Sys2Proof.Class) (s : State),
    s.Ready → s.handedRequest .d = some (.bind pad tag target deadline cls) → pad.toNat = p.val → cls.toNat = k.val →
    tag ≠ 0#16 → tag ≠ 0xFFFF#16 → target ≠ 0#16 → (deadline - s.timer.slot).toNat ≤ 4000 → s.rating p ≠ 0 →
    (s.session p).body = .vacant →
      exec .bind s = .next (({ s with
                               sessions := s.sessions.set p ⟨.binding
                                 (if (s.session p).tokenSeq = 255 then 1 else (s.session p).tokenSeq + 1) tag.toNat
                                 ⟨k, target.toNat, deadline⟩ 0,
                                 (if (s.session p).tokenSeq = 255 then 1 else (s.session p).tokenSeq + 1),
                                 (s.session p).last⟩ }.enterPad p).answer .d .ok
        [0x00#8, byte (if (s.session p).tokenSeq = 255 then 1 else (s.session p).tokenSeq + 1)])) ∧
  (∀ (pad : Byte) (tag target deadline : Word16) (cls : Byte) (p : Pad) (k : Sys2Proof.Class) (s : State),
    s.Ready → s.handedRequest .d = some (.bind pad tag target deadline cls) → pad.toNat = p.val → cls.toNat = k.val →
    tag ≠ 0#16 → tag ≠ 0xFFFF#16 → target ≠ 0#16 → (deadline - s.timer.slot).toNat ≤ 4000 → s.rating p ≠ 0 →
    (s.session p).body = .seen tag.toNat →
      ∃ t : State, exec .bind s = .next t ∧
        t.sessions = s.sessions.set p ⟨.matched .eligible
          (if (s.session p).tokenSeq = 255 then 1 else (s.session p).tokenSeq + 1) tag.toNat
          ⟨k, target.toNat, deadline⟩ ⟨0, (s.linkOf p).last.bind (·.meter), 0, 0⟩,
          (if (s.session p).tokenSeq = 255 then 1 else (s.session p).tokenSeq + 1), (s.session p).last⟩ ∧
        t.queue = insertBefore (t.standsAfter p) p s.queue ∧
        t.roundRequest = true ∧
        t.ports = ((s.enterPad p).answer .d .ok
          [0x01#8, byte (if (s.session p).tokenSeq = 255 then 1 else (s.session p).tokenSeq + 1)]).ports ∧
        t = { s with sessions := t.sessions, queue := t.queue, roundRequest := t.roundRequest, ports := t.ports }) ∧
  (∀ (s : State) (p : Pad),
    insertBefore (s.standsAfter p) p s.queue = (s.queue.takeWhile fun q => !s.standsAfter p q) ++ p ::
      (s.queue.dropWhile fun q => !s.standsAfter p q))

/-- BIND: RANGE when the pad is above 23, the tag is 0 or 65,535, the target is 0, the class is above 3 or the
deadline is passed or more than 4,000 slots ahead; else NOT_COMMISSIONED at rating 0; else MISMATCH on a SEEN pad with
another tag; else STATE on a pad neither VACANT nor SEEN. AMEND: the same range terms, then STATE unless ELIGIBLE or
TOPPED. RELEASE: RANGE above 23, STATE in VACANT, SEEN, FAULTED, LOCKED, OFFLINE. Only the answer is made. (The
refusals of R7, R9, R16 and R17.) -/
def Obligations.DispatchRefused : Prop :=
  (∀ (pad : Byte) (tag target deadline : Word16) (cls : Byte) (s : State),
    s.Ready → s.handedRequest .d = some (.bind pad tag target deadline cls) →
    (24 ≤ pad.toNat ∨ tag = 0#16 ∨ tag = 0xFFFF#16 ∨ target = 0#16 ∨ 4 ≤ cls.toNat ∨ 4000 <
      (deadline - s.timer.slot).toNat) →
      exec .bind s = .next (s.answer .d .range [])) ∧
  (∀ (pad : Byte) (tag target deadline : Word16) (cls : Byte) (p : Pad) (k : Sys2Proof.Class) (s : State),
    s.Ready → s.handedRequest .d = some (.bind pad tag target deadline cls) → pad.toNat = p.val → cls.toNat = k.val →
    tag ≠ 0#16 → tag ≠ 0xFFFF#16 → target ≠ 0#16 → (deadline - s.timer.slot).toNat ≤ 4000 → s.rating p = 0 →
      exec .bind s = .next (s.answer .d .notCommissioned [])) ∧
  (∀ (pad : Byte) (tag target deadline : Word16) (cls : Byte) (p : Pad) (k : Sys2Proof.Class) (s : State) (seen : Nat),
    s.Ready → s.handedRequest .d = some (.bind pad tag target deadline cls) → pad.toNat = p.val → cls.toNat = k.val →
    tag ≠ 0#16 → tag ≠ 0xFFFF#16 → target ≠ 0#16 → (deadline - s.timer.slot).toNat ≤ 4000 → s.rating p ≠ 0 →
    (s.session p).body = .seen seen → tag.toNat ≠ seen →
      exec .bind s = .next (s.answer .d .mismatch [])) ∧
  (∀ (pad : Byte) (tag target deadline : Word16) (cls : Byte) (p : Pad) (k : Sys2Proof.Class) (s : State),
    s.Ready → s.handedRequest .d = some (.bind pad tag target deadline cls) → pad.toNat = p.val → cls.toNat = k.val →
    tag ≠ 0#16 → tag ≠ 0xFFFF#16 → target ≠ 0#16 → (deadline - s.timer.slot).toNat ≤ 4000 → s.rating p ≠ 0 →
    s.padState p ≠ .vacant → s.padState p ≠ .seen →
      exec .bind s = .next (s.answer .d .state [])) ∧
  (∀ (pad : Byte) (target deadline : Word16) (cls : Byte) (s : State),
    s.Ready → s.handedRequest .d = some (.amend pad target deadline cls) →
    (24 ≤ pad.toNat ∨ target = 0#16 ∨ 4 ≤ cls.toNat ∨ 4000 < (deadline - s.timer.slot).toNat) →
      exec .amend s = .next (s.answer .d .range [])) ∧
  (∀ (pad : Byte) (target deadline : Word16) (cls : Byte) (p : Pad) (s : State),
    s.Ready → s.handedRequest .d = some (.amend pad target deadline cls) → pad.toNat = p.val → target ≠ 0#16 →
    cls.toNat < 4 → (deadline - s.timer.slot).toNat ≤ 4000 → s.padState p ≠ .eligible → s.padState p ≠ .topped →
      exec .amend s = .next (s.answer .d .state [])) ∧
  (∀ (pad : Byte) (s : State),
    s.Ready → s.handedRequest .d = some (.release pad) → 24 ≤ pad.toNat →
      exec .release s = .next (s.answer .d .range [])) ∧
  (∀ (pad : Byte) (p : Pad) (s : State),
    s.Ready → s.handedRequest .d = some (.release pad) → pad.toNat = p.val →
    (s.padState p = .vacant ∨ s.padState p = .seen ∨ s.padState p = .faulted ∨ s.padState p = .locked ∨ s.padState p =
      .offline) →
      exec .release s = .next (s.answer .d .state []))

/-- For an AMEND in range: an ELIGIBLE pad whose new target is at or below delivered becomes TOPPED and leaves its
collection with setpoint and target 0; one whose target is above stays ELIGIBLE, inserted again at R29's position with
a round request when it is QUEUED and its class or deadline changed, else keeping its place; a TOPPED pad with a
target above delivered becomes ELIGIBLE and is queued with a round request, else stays TOPPED. Answer OK; token, tag
and meter fields stay; other pads' sessions stay. (R16's four cases.) -/
def Obligations.AmendTaken : Prop :=
  (∀ (pad : Byte) (target deadline : Word16) (cls : Byte) (p : Pad) (k : Sys2Proof.Class) (token tag : Nat)
    (old : Terms) (m : Meter) (s : State),
    s.Ready → s.handedRequest .d = some (.amend pad target deadline cls) → pad.toNat = p.val → cls.toNat = k.val →
    target ≠ 0#16 → (deadline - s.timer.slot).toNat ≤ 4000 → (s.session p).body = .matched .eligible token tag old m →
    target.toNat ≤ m.delivered → s.MembershipLaw →
      ∃ t : State, exec .amend s = .next t ∧
        t.sessions = s.sessions.set p
          { s.session p with body := .matched .topped token tag ⟨k, target.toNat, deadline⟩ m } ∧
        p ∉ t.queue ∧
        p ∉ t.active ∧
        t.queue = s.queue.erase p ∧
        t.active = s.active.erase p ∧
        t.allocOf p = { s.allocOf p with target := 0, setpoint := 0, rampBase := 0, starvation := 0, paused := false }
          ∧
        (∀ q, q ≠ p → (s.allocOf q).Released (t.allocOf q)) ∧
        (p ∈ s.active → t.roundRequest = true) ∧
        (p ∉ s.active → t.roundRequest = s.roundRequest) ∧
        t.ports = ((s.enterPads fun q => decide (q = p) && decide ((s.session p).reported ≠ (t.session p).reported)).answer
          .d .ok []).ports ∧
        t = { s with
              sessions := t.sessions, alloc := t.alloc, queue := t.queue, active := t.active,
              roundRequest := t.roundRequest, ports := t.ports }) ∧
  (∀ (pad : Byte) (target deadline : Word16) (cls : Byte) (p : Pad) (k : Sys2Proof.Class) (token tag : Nat)
    (old : Terms) (m : Meter) (s : State),
    s.Ready → s.handedRequest .d = some (.amend pad target deadline cls) → pad.toNat = p.val → cls.toNat = k.val →
    target ≠ 0#16 → (deadline - s.timer.slot).toNat ≤ 4000 → (s.session p).body = .matched .eligible token tag old m →
    m.delivered < target.toNat →
      ∃ t : State, exec .amend s = .next t ∧
        t.sessions = s.sessions.set p
          { s.session p with body := .matched .eligible token tag ⟨k, target.toNat, deadline⟩ m } ∧
        (p ∈ s.queue ∧ (old.cls ≠ k ∨ old.deadline ≠ deadline) → t.queue = insertBefore (t.standsAfter p) p
          (s.queue.erase p) ∧ t.roundRequest = true) ∧
        (¬ (p ∈ s.queue ∧ (old.cls ≠ k ∨ old.deadline ≠ deadline)) → t.queue = s.queue ∧ t.roundRequest =
          s.roundRequest) ∧
        t.ports = ((s.enterPads fun q => decide (q = p) && decide ((s.session p).reported ≠ (t.session p).reported)).answer
          .d .ok []).ports ∧
        t = { s with sessions := t.sessions, queue := t.queue, roundRequest := t.roundRequest, ports := t.ports }) ∧
  (∀ (pad : Byte) (target deadline : Word16) (cls : Byte) (p : Pad) (k : Sys2Proof.Class) (token tag : Nat)
    (old : Terms) (m : Meter) (s : State),
    s.Ready → s.handedRequest .d = some (.amend pad target deadline cls) → pad.toNat = p.val → cls.toNat = k.val →
    target ≠ 0#16 → (deadline - s.timer.slot).toNat ≤ 4000 → (s.session p).body = .matched .topped token tag old m →
    m.delivered < target.toNat →
      ∃ t : State, exec .amend s = .next t ∧
        t.sessions = s.sessions.set p
          { s.session p with body := .matched .eligible token tag ⟨k, target.toNat, deadline⟩ m } ∧
        t.queue = insertBefore (t.standsAfter p) p s.queue ∧
        t.roundRequest = true ∧
        t.ports = ((s.enterPads fun q => decide (q = p) && decide ((s.session p).reported ≠ (t.session p).reported)).answer
          .d .ok []).ports ∧
        t = { s with sessions := t.sessions, queue := t.queue, roundRequest := t.roundRequest, ports := t.ports }) ∧
  (∀ (pad : Byte) (target deadline : Word16) (cls : Byte) (p : Pad) (k : Sys2Proof.Class) (token tag : Nat)
    (old : Terms) (m : Meter) (s : State),
    s.Ready → s.handedRequest .d = some (.amend pad target deadline cls) → pad.toNat = p.val → cls.toNat = k.val →
    target ≠ 0#16 → (deadline - s.timer.slot).toNat ≤ 4000 → (s.session p).body = .matched .topped token tag old m →
    target.toNat ≤ m.delivered →
      ∃ t : State, exec .amend s = .next t ∧
        t.sessions = s.sessions.set p
          { s.session p with body := .matched .topped token tag ⟨k, target.toNat, deadline⟩ m } ∧
        t.ports = ((s.enterPads fun q => decide (q = p) && decide ((s.session p).reported ≠ (t.session p).reported)).answer
          .d .ok []).ports ∧
        t = { s with sessions := t.sessions, ports := t.ports })

/-- RELEASE of an ELIGIBLE pad makes it RELEASING with token and fields kept, takes it out of its collection with
setpoint and target 0 and answers ACCEPTED; of a TOPPED pad makes it RELEASING and answers ACCEPTED; of a BINDING pad
ends the session CANCELLED with delivered 0 and the bound tag, makes the pad VACANT and answers OK; of a RELEASING or
CLEARING pad changes nothing and answers OK. Other pads' sessions stay. (R17's table.) -/
def Obligations.ReleaseTaken : Prop :=
  (∀ (pad : Byte) (p : Pad) (token tag : Nat) (terms : Terms) (m : Meter) (s : State),
    s.Ready → s.handedRequest .d = some (.release pad) → pad.toNat = p.val →
    (s.session p).body = .matched .eligible token tag terms m → s.MembershipLaw →
      ∃ t : State, exec .release s = .next t ∧
        t.sessions = s.sessions.set p { s.session p with body := .matched .releasing token tag terms m } ∧
        p ∉ t.queue ∧
        p ∉ t.active ∧
        t.queue = s.queue.erase p ∧
        t.active = s.active.erase p ∧
        t.allocOf p = { s.allocOf p with target := 0, setpoint := 0, rampBase := 0, starvation := 0, paused := false }
          ∧
        (∀ q, q ≠ p → (s.allocOf q).Released (t.allocOf q)) ∧
        (p ∈ s.active → t.roundRequest = true) ∧
        (p ∉ s.active → t.roundRequest = s.roundRequest) ∧
        t.ports = ((s.enterPad p).answer .d .accepted []).ports ∧
        t = { s with
              sessions := t.sessions, alloc := t.alloc, queue := t.queue, active := t.active,
              roundRequest := t.roundRequest, ports := t.ports }) ∧
  (∀ (pad : Byte) (p : Pad) (token tag : Nat) (terms : Terms) (m : Meter) (s : State),
    s.Ready → s.handedRequest .d = some (.release pad) → pad.toNat = p.val →
    (s.session p).body = .matched .topped token tag terms m →
      exec .release s = .next (({ s with
                                  sessions := s.sessions.set p
                                    { s.session p with body := .matched .releasing token tag terms m } }.enterPad p).answer
        .d .accepted [])) ∧
  (∀ (pad : Byte) (p : Pad) (token tag : Nat) (terms : Terms) (e : Nat) (s : State),
    s.Ready → s.handedRequest .d = some (.release pad) → pad.toNat = p.val →
    (s.session p).body = .binding token tag terms e →
      exec .release s = .next (({ s with
                                  sessions := s.sessions.set p
                                    ⟨.vacant, (s.session p).tokenSeq, some ⟨.cancelled, 0, tag, s.timer.slot⟩⟩ }.enterPad
        p).answer .d .ok [])) ∧
  (∀ (pad : Byte) (p : Pad) (s : State),
    s.Ready → s.handedRequest .d = some (.release pad) → pad.toNat = p.val →
    (s.padState p = .releasing ∨ s.padState p = .clearing) →
      exec .release s = .next (s.answer .d .ok []))

/-- The session controller takes a report, whatever its echo. Without HARD_FAULT: VACANT becomes SEEN with the
report's tag, or stays; SEEN and CLEARING take the report's tag in their state, or without one become VACANT on EMPTY
and else keep their tag; OFFLINE, its link back, becomes SEEN or VACANT as a VACANT pad would, and on a link LOST
again, or by a report handed on before the loss, it stays (log entry 25); FAULTED and LOCKED change nothing. Each
change of the record enters the pad into every change set; nothing else changes but the report's transit. HARD_FAULT
on a VACANT pad latches CHARGER_HARD with the report's fault code, makes the pad FAULTED, writes no outcome, starts
the hold and queues the record. (R12, R13, R19, R23, R24 and R25; the other latches are LatchingReports'.) -/
def Obligations.ReportOnVacant : Prop :=
  (∀ (h : Handed) (rest : List Handed) (s : State),
    s.Ready → s.SessionNext h rest → (s.session h.pad).body = .vacant → h.report.state ≠ .hardFault →
      ∃ t : State, exec .sessionReport s = .next t ∧
        t.sessions = s.sessions.set h.pad
          { s.session h.pad with body := (match h.report.tag with | some tag => .seen tag | none => .vacant) } ∧
        t.handed = s.handedAfterSession h rest false ∧
        t.ports = (s.enterPads fun q => decide (q = h.pad) && h.report.tag.isSome).ports ∧
        t = { s with sessions := t.sessions, handed := t.handed, ports := t.ports }) ∧
  (∀ (h : Handed) (rest : List Handed) (s : State),
    s.Ready → s.SessionNext h rest → (s.session h.pad).body = .vacant → h.report.state = .hardFault →
      ∃ t : State, exec .sessionReport s = .next t ∧
        t.faultOf h.pad = some (latchedRecord (s.faultOf h.pad) .chargerHard h.report.code s.timer.slot none) ∧
        t.sessions = s.sessions.set h.pad { s.session h.pad with body := .faulted } ∧
        t.store.image = { s.store.image with fault := s.store.image.fault.set h.pad (t.faultOf h.pad) } ∧
        (if (t.faultOf h.pad) = s.faultOf h.pad then t.store = s.store else s.store.Queued t.store [⟨.fault, h.pad⟩])
          ∧
        (t.allocOf h.pad).mode.holdFields.map (·.2) = some 8 ∧
        (∀ q, q ≠ h.pad → (s.allocOf q).Released (t.allocOf q)) ∧
        t.handed = s.handedAfterSession h rest true ∧
        t.ports = (s.enterPad h.pad).ports ∧
        t =
          { s with sessions := t.sessions, alloc := t.alloc, store := t.store, handed := t.handed, ports := t.ports }) ∧
  (∀ (h : Handed) (rest : List Handed) (s : State) (seen : Nat),
    s.Ready → s.SessionNext h rest → (s.session h.pad).body = .seen seen → h.report.state ≠ .hardFault →
      ∃ t : State, exec .sessionReport s = .next t ∧
        t.sessions = s.sessions.set h.pad { s.session h.pad with
                                            body := (match h.report.tag with
                                                      | some tag => .seen tag
                                                      | none => if h.report.state = .empty then .vacant else .seen
                                                          seen) } ∧
        t.handed = s.handedAfterSession h rest false ∧
        t.ports = (s.enterPads fun q => decide (q = h.pad) &&
          (decide (h.report.tag = none ∧ h.report.state = .empty) || decide (h.report.tag.getD seen ≠ seen))).ports ∧
        t = { s with sessions := t.sessions, handed := t.handed, ports := t.ports }) ∧
  (∀ (h : Handed) (rest : List Handed) (s : State) (seen : Nat),
    s.Ready → s.SessionNext h rest → (s.session h.pad).body = .clearing seen → h.report.state ≠ .hardFault →
      ∃ t : State, exec .sessionReport s = .next t ∧
        t.sessions = s.sessions.set h.pad { s.session h.pad with
                                            body := (match h.report.tag with
                                                      | some tag => .clearing tag
                                                      | none => if h.report.state = .empty then .vacant else .clearing
                                                          seen) } ∧
        t.handed = s.handedAfterSession h rest false ∧
        t.ports = (s.enterPads fun q => decide (q = h.pad) &&
          (decide (h.report.tag = none ∧ h.report.state = .empty) || decide (h.report.tag.getD seen ≠ seen))).ports ∧
        t = { s with sessions := t.sessions, handed := t.handed, ports := t.ports }) ∧
  (∀ (h : Handed) (rest : List Handed) (s : State),
    s.Ready → s.SessionNext h rest → (s.session h.pad).body = .offline → (s.linkOf h.pad).state ≠ .lost →
    h.lostSince = false → h.report.state ≠ .hardFault →
      ∃ t : State, exec .sessionReport s = .next t ∧
        t.sessions = s.sessions.set h.pad
          { s.session h.pad with body := (match h.report.tag with | some tag => .seen tag | none => .vacant) } ∧
        t.handed = s.handedAfterSession h rest false ∧
        t.ports = (s.enterPad h.pad).ports ∧
        t = { s with sessions := t.sessions, handed := t.handed, ports := t.ports }) ∧
  (∀ (h : Handed) (rest : List Handed) (s : State),
    s.Ready → s.SessionNext h rest →
    (((s.session h.pad).body = .offline ∧ ((s.linkOf h.pad).state = .lost ∨ h.lostSince = true)) ∨
      (s.session h.pad).body = .faulted ∨ (s.session h.pad).body = .locked) →
    h.report.state ≠ .hardFault →
      ∃ t : State, exec .sessionReport s = .next t ∧
        t.handed = s.handedAfterSession h rest false ∧
        t = { s with handed := t.handed })

/-- On a BINDING pad, a current report of COUPLING or READY with the bound tag makes it ELIGIBLE with its token,
delivered 0 and the report's meter value as reference, inserts it into the admission queue and requests a round; with
another tag it ends the session BIND_MISMATCH with delivered 0 and the bound tag and makes the pad SEEN with the
reported tag. A current report of EMPTY, DELIVERING, DECOUPLING, SOFT_FAULT or DISABLED, and every stale report,
leaves it BINDING and its fields unchanged. (R10; the HARD_FAULT case is LatchingReports'.) -/
def Obligations.ReportSettlesBind : Prop :=
  (∀ (h : Handed) (rest : List Handed) (s : State) (token tag e : Nat) (terms : Terms),
    s.Ready → s.SessionNext h rest → (s.session h.pad).body = .binding token tag terms e → h.report.echo = token →
    (h.report.state = .coupling ∨ h.report.state = .ready) → h.report.tag = some tag →
      ∃ t : State, exec .sessionReport s = .next t ∧
        t.sessions = s.sessions.set h.pad
          { s.session h.pad with body := (.matched .eligible token tag terms ⟨0, h.report.meter, 0, 0⟩) } ∧
        t.queue = insertBefore (t.standsAfter h.pad) h.pad s.queue ∧
        t.roundRequest = true ∧
        t.handed = s.handedAfterSession h rest false ∧
        t.ports = (s.enterPad h.pad).ports ∧
        t = { s with
              sessions := t.sessions, queue := t.queue, roundRequest := t.roundRequest, handed := t.handed,
              ports := t.ports }) ∧
  (∀ (h : Handed) (rest : List Handed) (s : State) (token tag e other : Nat) (terms : Terms),
    s.Ready → s.SessionNext h rest → (s.session h.pad).body = .binding token tag terms e → h.report.echo = token →
    (h.report.state = .coupling ∨ h.report.state = .ready) → h.report.tag = some other → other ≠ tag →
      ∃ t : State, exec .sessionReport s = .next t ∧
        t.sessions = s.sessions.set h.pad
          ⟨.seen other, (s.session h.pad).tokenSeq, some ⟨.bindMismatch, 0, tag, s.timer.slot⟩⟩ ∧
        t.handed = s.handedAfterSession h rest false ∧
        t.ports = (s.enterPad h.pad).ports ∧
        t = { s with sessions := t.sessions, handed := t.handed, ports := t.ports }) ∧
  (∀ (h : Handed) (rest : List Handed) (s : State) (token tag e : Nat) (terms : Terms),
    s.Ready → s.SessionNext h rest → (s.session h.pad).body = .binding token tag terms e → token ≠ 0 →
    (h.report.echo ≠ token ∨ h.report.state ∈ [.empty, .delivering, .decoupling, .softFault, .disabled]) →
      ∃ t : State, exec .sessionReport s = .next t ∧
        t.handed = s.handedAfterSession h rest false ∧
        t = { s with handed := t.handed })

/-- The meter step: with no reference the value becomes the reference; a step of 64 or less, mod 65,536, is added to
delivered, saturating at 65,535; a larger one is discarded and counted as a jump, saturating at 255; the reference
becomes the value; a value not available changes nothing. Every report taken on an ELIGIBLE, TOPPED or RELEASING pad
is accounted so: its session, if it stays open, holds the accounted meter fields, and if it ends, its outcome holds
the accounted delivered. A stale report changes nothing else. (R14.) -/
def Obligations.EnergyAccounting : Prop :=
  (∀ (m : Meter) (v : Word16),
    m.ref = none →
      m.account (some v) = { m with ref := some v }) ∧
  (∀ (m : Meter) (u v : Word16),
    m.ref = some u → (v - u).toNat ≤ 64 →
      m.account (some v) = { m with delivered := min 65535 (m.delivered + (v - u).toNat), ref := some v }) ∧
  (∀ (m : Meter) (u v : Word16),
    m.ref = some u → 64 < (v - u).toNat →
      m.account (some v) = { m with jumps := min 255 (m.jumps + 1), ref := some v }) ∧
  (∀ (m : Meter),
    m.account none = m) ∧
  (∀ (h : Handed) (rest : List Handed) (s : State) (phase : Matched) (token tag : Nat) (terms : Terms) (m : Meter),
    s.Ready → s.SessionNext h rest → (s.session h.pad).body = .matched phase token tag terms m →
      ∃ t : State, exec .sessionReport s = .next t ∧
        (∀ m' ∈ (t.session h.pad).body.meter, m'.delivered = (m.account h.report.meter).delivered ∧ m'.ref =
          (m.account h.report.meter).ref ∧ m'.jumps = (m.account h.report.meter).jumps) ∧
        ((t.session h.pad).body.meter = none → ((t.session h.pad).last.map (·.delivered)) = some
          (m.account h.report.meter).delivered)) ∧
  (∀ (h : Handed) (rest : List Handed) (s : State) (phase : Matched) (token tag : Nat) (terms : Terms) (m : Meter),
    s.Ready → s.SessionNext h rest → (s.session h.pad).body = .matched phase token tag terms m → token ≠ 0 →
    h.report.echo ≠ token →
      ∃ t : State, exec .sessionReport s = .next t ∧
        t.sessions = s.sessions.set h.pad
          { s.session h.pad with body := (.matched phase token tag terms (m.account h.report.meter)) } ∧
        t.handed = s.handedAfterSession h rest false ∧
        t = { s with sessions := t.sessions, handed := t.handed })

/-- For a current report without HARD_FAULT, without another tag and short of the soft-fault limit, after accounting:
on EMPTY, ELIGIBLE and TOPPED end DEPARTED, or TOPPED_DEPARTED at the target, and become VACANT; an ELIGIBLE pad at
its target otherwise becomes TOPPED; RELEASING ends RELEASED on EMPTY (VACANT), or at 3 kW or less unless DELIVERING
(CLEARING with the report's tag or the bound one). An ELIGIBLE pad that tops or ends leaves its collection with
setpoint and target 0. In every other case the session stays, with its soft-fault run counted. (R15, R18 and R20 after
R14.) -/
def Obligations.SessionEndsOrTops : Prop :=
  (∀ (h : Handed) (rest : List Handed) (s : State) (token tag : Nat) (terms : Terms) (m : Meter),
    s.Ready → s.SessionNext h rest → s.MembershipLaw → (s.session h.pad).body = .matched .eligible token tag terms m →
    h.report.echo = token → h.report.state ≠ .hardFault → (h.report.tag = none ∨ h.report.tag = some tag) →
    (h.report.state = .softFault → m.softRun < 119) → h.report.state = .empty →
      ∃ t : State, exec .sessionReport s = .next t ∧
        t.sessions = s.sessions.set h.pad ⟨.vacant, (s.session h.pad).tokenSeq, some
          ⟨(if (m.account h.report.meter).delivered < terms.target then .departed else .toppedDeparted),
          (m.account h.report.meter).delivered, tag, s.timer.slot⟩⟩ ∧
        t.handed = s.handedAfterSession h rest false ∧
        t.ports = (s.enterPad h.pad).ports ∧
        t.queue = s.queue.erase h.pad ∧
        t.active = s.active.erase h.pad ∧
        t.allocOf h.pad =
          { s.allocOf h.pad with target := 0, setpoint := 0, rampBase := 0, starvation := 0, paused := false } ∧
        (∀ q, q ≠ h.pad → (s.allocOf q).Released (t.allocOf q)) ∧
        t.roundRequest = (s.roundRequest || decide (h.pad ∈ s.active)) ∧
        t = { s with
              sessions := t.sessions, alloc := t.alloc, queue := t.queue, active := t.active,
              roundRequest := t.roundRequest, handed := t.handed, ports := t.ports }) ∧
  (∀ (h : Handed) (rest : List Handed) (s : State) (token tag : Nat) (terms : Terms) (m : Meter),
    s.Ready → s.SessionNext h rest → s.MembershipLaw → (s.session h.pad).body = .matched .eligible token tag terms m →
    h.report.echo = token → h.report.state ≠ .hardFault → (h.report.tag = none ∨ h.report.tag = some tag) →
    (h.report.state = .softFault → m.softRun < 119) → h.report.state ≠ .empty →
    terms.target ≤ (m.account h.report.meter).delivered →
      ∃ t : State, exec .sessionReport s = .next t ∧
        t.sessions = s.sessions.set h.pad { s.session h.pad with
                                            body := (.matched .topped token tag terms
                                              { (m.account h.report.meter) with
                                                softRun := if h.report.state = .softFault then m.softRun + 1 else 0 }) }
          ∧
        t.handed = s.handedAfterSession h rest false ∧
        t.ports = (s.enterPad h.pad).ports ∧
        t.queue = s.queue.erase h.pad ∧
        t.active = s.active.erase h.pad ∧
        t.allocOf h.pad =
          { s.allocOf h.pad with target := 0, setpoint := 0, rampBase := 0, starvation := 0, paused := false } ∧
        (∀ q, q ≠ h.pad → (s.allocOf q).Released (t.allocOf q)) ∧
        t.roundRequest = (s.roundRequest || decide (h.pad ∈ s.active)) ∧
        t = { s with
              sessions := t.sessions, alloc := t.alloc, queue := t.queue, active := t.active,
              roundRequest := t.roundRequest, handed := t.handed, ports := t.ports }) ∧
  (∀ (h : Handed) (rest : List Handed) (s : State) (token tag : Nat) (terms : Terms) (m : Meter),
    s.Ready → s.SessionNext h rest → s.MembershipLaw → (s.session h.pad).body = .matched .eligible token tag terms m →
    h.report.echo = token → h.report.state ≠ .hardFault → (h.report.tag = none ∨ h.report.tag = some tag) →
    (h.report.state = .softFault → m.softRun < 119) → h.report.state ≠ .empty →
    (m.account h.report.meter).delivered < terms.target →
      ∃ t : State, exec .sessionReport s = .next t ∧
        t.sessions = s.sessions.set h.pad { s.session h.pad with
                                            body := (.matched .eligible token tag terms
                                              { (m.account h.report.meter) with
                                                softRun := if h.report.state = .softFault then m.softRun + 1 else 0 }) }
          ∧
        t.handed = s.handedAfterSession h rest false ∧
        t = { s with sessions := t.sessions, handed := t.handed }) ∧
  (∀ (h : Handed) (rest : List Handed) (s : State) (token tag : Nat) (terms : Terms) (m : Meter),
    s.Ready → s.SessionNext h rest → s.MembershipLaw → (s.session h.pad).body = .matched .topped token tag terms m →
    h.report.echo = token → h.report.state ≠ .hardFault → (h.report.tag = none ∨ h.report.tag = some tag) →
    (h.report.state = .softFault → m.softRun < 119) → h.report.state = .empty →
      ∃ t : State, exec .sessionReport s = .next t ∧
        t.sessions = s.sessions.set h.pad ⟨.vacant, (s.session h.pad).tokenSeq, some
          ⟨(if (m.account h.report.meter).delivered < terms.target then .departed else .toppedDeparted),
          (m.account h.report.meter).delivered, tag, s.timer.slot⟩⟩ ∧
        t.handed = s.handedAfterSession h rest false ∧
        t.ports = (s.enterPad h.pad).ports ∧
        t = { s with sessions := t.sessions, handed := t.handed, ports := t.ports }) ∧
  (∀ (h : Handed) (rest : List Handed) (s : State) (token tag : Nat) (terms : Terms) (m : Meter),
    s.Ready → s.SessionNext h rest → s.MembershipLaw → (s.session h.pad).body = .matched .topped token tag terms m →
    h.report.echo = token → h.report.state ≠ .hardFault → (h.report.tag = none ∨ h.report.tag = some tag) →
    (h.report.state = .softFault → m.softRun < 119) → h.report.state ≠ .empty →
      ∃ t : State, exec .sessionReport s = .next t ∧
        t.sessions = s.sessions.set h.pad { s.session h.pad with
                                            body := (.matched .topped token tag terms
                                              { (m.account h.report.meter) with
                                                softRun := if h.report.state = .softFault then m.softRun + 1 else 0 }) }
          ∧
        t.handed = s.handedAfterSession h rest false ∧
        t = { s with sessions := t.sessions, handed := t.handed }) ∧
  (∀ (h : Handed) (rest : List Handed) (s : State) (token tag : Nat) (terms : Terms) (m : Meter),
    s.Ready → s.SessionNext h rest → s.MembershipLaw →
    (s.session h.pad).body = .matched .releasing token tag terms m → h.report.echo = token →
    h.report.state ≠ .hardFault → (h.report.tag = none ∨ h.report.tag = some tag) →
    (h.report.state = .softFault → m.softRun < 119) → h.report.state = .empty →
      ∃ t : State, exec .sessionReport s = .next t ∧
        t.sessions = s.sessions.set h.pad ⟨.vacant, (s.session h.pad).tokenSeq, some
          ⟨.released, (m.account h.report.meter).delivered, tag, s.timer.slot⟩⟩ ∧
        t.handed = s.handedAfterSession h rest false ∧
        t.ports = (s.enterPad h.pad).ports ∧
        t = { s with sessions := t.sessions, handed := t.handed, ports := t.ports }) ∧
  (∀ (h : Handed) (rest : List Handed) (s : State) (token tag : Nat) (terms : Terms) (m : Meter),
    s.Ready → s.SessionNext h rest → s.MembershipLaw →
    (s.session h.pad).body = .matched .releasing token tag terms m → h.report.echo = token →
    h.report.state ≠ .hardFault → (h.report.tag = none ∨ h.report.tag = some tag) →
    (h.report.state = .softFault → m.softRun < 119) → h.report.state ≠ .empty → h.report.state ≠ .delivering →
    h.report.measured ≤ 3 →
      ∃ t : State, exec .sessionReport s = .next t ∧
        t.sessions = s.sessions.set h.pad ⟨(.clearing (h.report.tag.getD tag)), (s.session h.pad).tokenSeq, some
          ⟨.released, (m.account h.report.meter).delivered, tag, s.timer.slot⟩⟩ ∧
        t.handed = s.handedAfterSession h rest false ∧
        t.ports = (s.enterPad h.pad).ports ∧
        t = { s with sessions := t.sessions, handed := t.handed, ports := t.ports }) ∧
  (∀ (h : Handed) (rest : List Handed) (s : State) (token tag : Nat) (terms : Terms) (m : Meter),
    s.Ready → s.SessionNext h rest → s.MembershipLaw →
    (s.session h.pad).body = .matched .releasing token tag terms m → h.report.echo = token →
    h.report.state ≠ .hardFault → (h.report.tag = none ∨ h.report.tag = some tag) →
    (h.report.state = .softFault → m.softRun < 119) → h.report.state ≠ .empty →
    (h.report.state = .delivering ∨ 3 < h.report.measured) →
      ∃ t : State, exec .sessionReport s = .next t ∧
        t.sessions = s.sessions.set h.pad { s.session h.pad with
                                            body := (.matched .releasing token tag terms
                                              { (m.account h.report.meter) with
                                                softRun := if h.report.state = .softFault then m.softRun + 1 else 0 }) }
          ∧
        t.handed = s.handedAfterSession h rest false ∧
        t = { s with sessions := t.sessions, handed := t.handed })

/-- A current HARD_FAULT report latches CHARGER_HARD in every pad state; a current report with another tag latches
TAG_CHANGE on a matched session; the SOFT_FAULT report that would bring the soft-fault run to 120 latches
SOFT_PERSIST, and SOFT_PERSIST_LATCH is then the same event. The latch: first fault wins, a repeat adds 1 up to 15; an
open session ends FAULT; the pad becomes FAULTED or stays LOCKED, off both collections with setpoint and target 0 and
a round request when it was ACTIVE; the hold starts at 8 polls, and an earlier report of the pad that the allocator
has still to take is marked as from before it (the model's own mark, log entry 12); a changed record is queued for
writing and enters the change sets. (The hold value for a report the allocator took first is log entry 11's.) (R23
with R152, R153, R73 and R74. The hold value is notes/assumptions/11.md, the mark heldSince of the last clause 12.md.)
-/
def Obligations.LatchingReports : Prop :=
  (∀ (h : Handed) (rest : List Handed) (s : State),
    s.Ready → s.SessionNext h rest → s.MembershipLaw → s.IdleOffList → h.report.state = .hardFault →
    ((s.session h.pad).body.token = 0 ∨ h.report.echo = (s.session h.pad).body.token) →
      ∃ t : State, exec .sessionReport s = .next t ∧
        t.faultOf h.pad = some
          (latchedRecord (s.faultOf h.pad) .chargerHard h.report.code s.timer.slot (s.session h.pad).body.tag) ∧
        t.padState h.pad = (if s.padState h.pad = .locked then .locked else .faulted) ∧
        (t.session h.pad).body.token = 0 ∧
        ((s.session h.pad).body.terms.isSome = true → (t.session h.pad).last.map (·.ending) = some .fault) ∧
        ((s.session h.pad).body.terms = none → (t.session h.pad).last = (s.session h.pad).last) ∧
        (∀ q, q ≠ h.pad → t.session q = s.session q ∧ (s.allocOf q).Released (t.allocOf q)) ∧
        (t.allocOf h.pad).mode = .hold (if (s.beforeOf h).wasStart then max (s.rating h.pad) h.report.measured else
          max (max (s.beforeOf h).exposure (s.exposure h.pad)) (if h.byAllocator then h.report.measured else 0)) 8 ∧
        (t.allocOf h.pad).setpoint = 0 ∧
        (t.allocOf h.pad).target = 0 ∧
        h.pad ∉ t.queue ∧
        h.pad ∉ t.active ∧
        t.store.image = { s.store.image with fault := s.store.image.fault.set h.pad (t.faultOf h.pad) } ∧
        (if (t.faultOf h.pad) = s.faultOf h.pad then t.store = s.store else s.store.Queued t.store [⟨.fault, h.pad⟩])
          ∧
        t.ports = (s.enterPads fun q => decide (q = h.pad) &&
          (decide (t.faultOf h.pad ≠ s.faultOf h.pad) || decide
          ((s.session h.pad).reported ≠ (t.session h.pad).reported))).ports ∧
        t.handed = s.handedAfterSession h rest true ∧
        t.roundRequest = (s.roundRequest || decide (h.pad ∈ s.active)) ∧
        t = { s with
              sessions := t.sessions, alloc := t.alloc, queue := t.queue, active := t.active,
              roundRequest := t.roundRequest, handed := t.handed, ports := t.ports, store := t.store }) ∧
  (∀ (h : Handed) (rest : List Handed) (s : State) (phase : Matched) (token tag other : Nat) (terms : Terms)
    (m : Meter),
    s.Ready → s.SessionNext h rest → s.MembershipLaw → s.IdleOffList →
    (s.session h.pad).body = .matched phase token tag terms m → h.report.echo = token → h.report.state ≠ .hardFault →
    h.report.tag = some other → other ≠ tag →
      ∃ t : State, exec .sessionReport s = .next t ∧
        t.faultOf h.pad = some (latchedRecord (s.faultOf h.pad) .tagChange none s.timer.slot (some other)) ∧
        t.padState h.pad = (if s.padState h.pad = .locked then .locked else .faulted) ∧
        (t.session h.pad).body.token = 0 ∧
        ((s.session h.pad).body.terms.isSome = true → (t.session h.pad).last.map (·.ending) = some .fault) ∧
        ((s.session h.pad).body.terms = none → (t.session h.pad).last = (s.session h.pad).last) ∧
        (∀ q, q ≠ h.pad → t.session q = s.session q ∧ (s.allocOf q).Released (t.allocOf q)) ∧
        (t.allocOf h.pad).mode = .hold (if (s.beforeOf h).wasStart then max (s.rating h.pad) h.report.measured else
          max (max (s.beforeOf h).exposure (s.exposure h.pad)) (if h.byAllocator then h.report.measured else 0)) 8 ∧
        (t.allocOf h.pad).setpoint = 0 ∧
        (t.allocOf h.pad).target = 0 ∧
        h.pad ∉ t.queue ∧
        h.pad ∉ t.active ∧
        t.store.image = { s.store.image with fault := s.store.image.fault.set h.pad (t.faultOf h.pad) } ∧
        (if (t.faultOf h.pad) = s.faultOf h.pad then t.store = s.store else s.store.Queued t.store [⟨.fault, h.pad⟩])
          ∧
        t.ports = (s.enterPads fun q => decide (q = h.pad) &&
          (decide (t.faultOf h.pad ≠ s.faultOf h.pad) || decide
          ((s.session h.pad).reported ≠ (t.session h.pad).reported))).ports ∧
        t.handed = s.handedAfterSession h rest true ∧
        t.roundRequest = (s.roundRequest || decide (h.pad ∈ s.active)) ∧
        t = { s with
              sessions := t.sessions, alloc := t.alloc, queue := t.queue, active := t.active,
              roundRequest := t.roundRequest, handed := t.handed, ports := t.ports, store := t.store }) ∧
  (∀ (h : Handed) (rest : List Handed) (s : State) (phase : Matched) (token tag : Nat) (terms : Terms) (m : Meter),
    s.Ready → s.SessionNext h rest → s.MembershipLaw → s.IdleOffList →
    (s.session h.pad).body = .matched phase token tag terms m → h.report.echo = token → h.report.state = .softFault →
    h.report.tag = none → 119 ≤ m.softRun →
      ∃ t : State, exec .softPersistLatch s = .next t ∧
        exec .sessionReport s = .next t ∧
        t.faultOf h.pad = some (latchedRecord (s.faultOf h.pad) .softPersist h.report.code s.timer.slot (some tag)) ∧
        t.padState h.pad = (if s.padState h.pad = .locked then .locked else .faulted) ∧
        (t.session h.pad).body.token = 0 ∧
        ((s.session h.pad).body.terms.isSome = true → (t.session h.pad).last.map (·.ending) = some .fault) ∧
        ((s.session h.pad).body.terms = none → (t.session h.pad).last = (s.session h.pad).last) ∧
        (∀ q, q ≠ h.pad → t.session q = s.session q ∧ (s.allocOf q).Released (t.allocOf q)) ∧
        (t.allocOf h.pad).mode = .hold (if (s.beforeOf h).wasStart then max (s.rating h.pad) h.report.measured else
          max (max (s.beforeOf h).exposure (s.exposure h.pad)) (if h.byAllocator then h.report.measured else 0)) 8 ∧
        (t.allocOf h.pad).setpoint = 0 ∧
        (t.allocOf h.pad).target = 0 ∧
        h.pad ∉ t.queue ∧
        h.pad ∉ t.active ∧
        t.store.image = { s.store.image with fault := s.store.image.fault.set h.pad (t.faultOf h.pad) } ∧
        (if (t.faultOf h.pad) = s.faultOf h.pad then t.store = s.store else s.store.Queued t.store [⟨.fault, h.pad⟩])
          ∧
        t.ports = (s.enterPads fun q => decide (q = h.pad) &&
          (decide (t.faultOf h.pad ≠ s.faultOf h.pad) || decide
          ((s.session h.pad).reported ≠ (t.session h.pad).reported))).ports ∧
        t.handed = s.handedAfterSession h rest true ∧
        t.roundRequest = (s.roundRequest || decide (h.pad ∈ s.active)) ∧
        t = { s with
              sessions := t.sessions, alloc := t.alloc, queue := t.queue, active := t.active,
              roundRequest := t.roundRequest, handed := t.handed, ports := t.ports, store := t.store }) ∧
  (∀ (g h : Handed) (rest : List Handed) (s : State),
    s.Ready → s.handed = g :: h :: rest → g.pad = h.pad → g.bySession = true → h.bySession = false →
    h.noncompliant = false → h.report.state = .hardFault →
    ((s.session h.pad).body.token = 0 ∨ h.report.echo = (s.session h.pad).body.token) →
      ∃ t : State, exec .sessionReport s = .next t ∧
        t.handed = { g with heldSince := true } :: s.handedAfterSession h rest true)

/-- For a report that does not bring the compliance count to 6: the last measured power becomes the report's; a
current report sets the acceptance limit to its own or to none, a stale one leaves it; START becomes NORMAL; a hold
ends at 3 kW or less and else counts down by 1, ending at 0 (DISTRUST_HOLD_EXPIRY is then the same event), but a
report that latched a fault, or was handed on before a link loss, or finds the link LOST, neither ends nor counts it,
and one handed on before the report that started a latch's hold does not count it; a current report above the setpoint
that stood before by more than 3 kW adds 1 to the compliance count, any other sets it to 0; a current SOFT_FAULT
pauses an ACTIVE session at setpoint and target 0, a current other state unpauses it with a round request; a current
report that lowers an ACTIVE pad's cap limits target and setpoint to the new cap, or to 0 when that is below P_min,
with a round request when the setpoint fell; a raised cap requests a round. Otherwise setpoint and target stay, but
for a raise that the event releases. No session, fault record or collection changes. (R75's steps 1 to 6 with R86,
R141, R145 and R147. The two marks of a report in transit are notes/assumptions/12.md.) -/
def Obligations.AllocatorReportTaken : Prop :=
  (∀ (h : Handed) (rest : List Handed) (current : Bool) (s : State) (ends pauses unpauses clamps : Bool) (cap : Nat)
    (limit : Option Nat) (setpoint target : Nat),
    s.Ready → s.handed = h :: rest → h.byAllocator = false →
    current = ((s.session h.pad).body.takesAsCurrent h.report.echo) →
    ((current && decide ((s.beforeOf h).setpoint + 3 < h.report.measured)) && decide
      (5 ≤ (s.allocOf h.pad).compliance)) = false →
    pauses = (current && decide (h.pad ∈ s.active ∧ h.report.state = .softFault ∧ (s.allocOf h.pad).paused = false)) →
    unpauses = (current && decide (h.pad ∈ s.active ∧ h.report.state ≠ .softFault ∧ (s.allocOf h.pad).paused = true))
      →
    cap = limitBy (limitBy (s.rating h.pad) (if current then h.report.accept else (s.allocOf h.pad).accept))
      (s.padCell h.pad) →
    clamps = (current && decide (h.pad ∈ s.active ∧ cap < s.capOf h.pad)) →
    limit = (if clamps then some (if cap < s.feeder.pmin then 0 else cap) else none) →
    setpoint = (if pauses then 0 else (s.allocOf h.pad).setpoint) →
    target = (if pauses then 0 else (s.allocOf h.pad).target) →
    ends = decide ((s.linkOf h.pad).state = .up ∧ h.lostSince = false ∧ h.latched = false) →
      ∃ t : State, exec .allocatorReport s = .next t ∧
        (t.allocOf h.pad).measured = h.report.measured ∧
        (t.allocOf h.pad).accept = (if current then h.report.accept else (s.allocOf h.pad).accept) ∧
        t.capOf h.pad = cap ∧
        (t.allocOf h.pad).mode = (match (s.allocOf h.pad).mode with
                                   | .start => .normal
                                   | .normal => .normal
                                   | .hold v k => if ends = false then .hold v k else if h.report.measured ≤ 3 then
                                       .normal else if h.heldSince then .hold v k else if k ≤ 1 then .normal else
                                       .hold v (k - 1)) ∧
        (t.allocOf h.pad).compliance = (if (current && decide ((s.beforeOf h).setpoint + 3 < h.report.measured)) then
          (s.allocOf h.pad).compliance + 1 else 0) ∧
        (t.allocOf h.pad).paused = (((s.allocOf h.pad).paused || pauses) && !unpauses) ∧
        (t.allocOf h.pad).target = limitBy target limit ∧
        ((t.allocOf h.pad).setpoint = limitBy setpoint limit ∨
          (limitBy setpoint limit < limitBy target limit ∧ (t.allocOf h.pad).setpoint = limitBy target limit)) ∧
        t.roundRequest = (s.roundRequest || unpauses || (current && decide (s.capOf h.pad < cap)) || limit.any
          (fun x => decide (x < setpoint))) ∧
        (t.allocOf h.pad).rampBase = (s.allocOf h.pad).rampBase ∧ (t.allocOf h.pad).starvation =
          (s.allocOf h.pad).starvation ∧
        (∀ q, q ≠ h.pad → (s.allocOf q).Released (t.allocOf q)) ∧
        t.handed = keepUntaken { h with byAllocator := true, before := some (s.beforeOf h), noncompliant := false } ++
          rest ∧
        t = { s with alloc := t.alloc, roundRequest := t.roundRequest, handed := t.handed }) ∧
  (∀ (h : Handed) (rest : List Handed) (v k : Nat) (s : State),
    s.Ready → s.handed = h :: rest → h.byAllocator = false → h.lostSince = false → h.heldSince = false →
    h.latched = false → (s.linkOf h.pad).state = .up → (s.allocOf h.pad).compliance < 5 →
    (s.allocOf h.pad).mode = .hold v k → k ≤ 1 →
      ∃ t : State, exec .distrustHoldExpiry s = .next t ∧
        exec .allocatorReport s = .next t ∧
        (t.allocOf h.pad).mode = .normal)

/-- When a current report above the setpoint by more than 3 kW finds the compliance count at 5, the allocator sets the
count to 0. When the session controller has taken the report before, the latch is part of the event, and
NONCOMPLIANT_LATCH is the same event as ALLOCATOR_REPORT. When it has not, the report does the rest of what R75 says
(a hold neither ends nor counts), nothing is latched yet and the latch waits for its taking of the report (log entry
13); that taking then makes it, on the state the report itself leaves. The latch: NONCOMPLIANT fills the record or
repeats it, a changed record is queued for writing and enters the change sets, an open session ends FAULT, the pad
becomes FAULTED or stays LOCKED, off both collections with setpoint and target 0 and a round request when it was
ACTIVE; the hold starts at 8 polls with the exposure as it stands, at least the report's measured power, also when the
allocator has taken a later report since (log entries 11 and 13); a report that ended START holds the rating too.
Other pads keep their sessions, and their records but for a released raise. (R77, with the latch's effects as in
LatchingReports; notes/assumptions/11.md and 13.md.) -/
def Obligations.NoncompliantLatched : Prop :=
  (∀ (h : Handed) (rest : List Handed) (s : State),
    s.Ready → s.MembershipLaw → s.IdleOffList → s.handed = h :: rest → h.byAllocator = false → h.bySession = true →
    (s.session h.pad).body.takesAsCurrent h.report.echo = true → (s.beforeOf h).setpoint + 3 < h.report.measured →
    5 ≤ (s.allocOf h.pad).compliance →
      ∃ t : State, exec .noncompliantLatch s = .next t ∧
        exec .allocatorReport s = .next t ∧
        t.allocOf h.pad = { s.allocOf h.pad with
                            target := 0, setpoint := 0, rampBase := 0, starvation := 0, paused := false,
                            compliance := 0, measured := h.report.measured, accept := h.report.accept,
                            mode := .hold (max (if (s.beforeOf h).wasStart then s.rating h.pad else max
                              (s.allocOf h.pad).setpoint (match (s.allocOf h.pad).mode with | .hold v _ => v | _ => 0))
                              h.report.measured) 8 } ∧
        t.roundRequest = (s.roundRequest || decide (h.pad ∈ s.active) || decide (s.capOf h.pad < t.capOf h.pad)) ∧
        t.faultOf h.pad = some
          (latchedRecord (s.faultOf h.pad) .noncompliant none s.timer.slot (s.session h.pad).body.tag) ∧
        t.padState h.pad = (if s.padState h.pad = .locked then .locked else .faulted) ∧
        (t.session h.pad).body.token = 0 ∧
        ((s.session h.pad).body.terms.isSome = true → (t.session h.pad).last.map (·.ending) = some .fault) ∧
        ((s.session h.pad).body.terms = none → (t.session h.pad).last = (s.session h.pad).last) ∧
        (∀ q, q ≠ h.pad → t.session q = s.session q ∧ (s.allocOf q).Released (t.allocOf q)) ∧
        t.queue = s.queue.erase h.pad ∧
        t.active = s.active.erase h.pad ∧
        t.store.image = { s.store.image with fault := s.store.image.fault.set h.pad (t.faultOf h.pad) } ∧
        (if (t.faultOf h.pad) = s.faultOf h.pad then t.store = s.store else s.store.Queued t.store [⟨.fault, h.pad⟩])
          ∧
        t.ports = (s.enterPads fun q => decide (q = h.pad) &&
          (decide (t.faultOf h.pad ≠ s.faultOf h.pad) || decide
          ((s.session h.pad).reported ≠ (t.session h.pad).reported))).ports ∧
        t.handed = rest ∧
        t = { s with
              sessions := t.sessions, alloc := t.alloc, queue := t.queue, active := t.active,
              roundRequest := t.roundRequest, handed := t.handed, ports := t.ports, store := t.store }) ∧
  (∀ (h : Handed) (rest : List Handed) (current : Bool) (s : State) (pauses unpauses clamps : Bool) (cap : Nat)
    (limit : Option Nat) (setpoint target : Nat),
    s.Ready → s.handed = h :: rest → h.byAllocator = false →
    current = ((s.session h.pad).body.takesAsCurrent h.report.echo) → h.bySession = false → current = true →
    (s.beforeOf h).setpoint + 3 < h.report.measured → 5 ≤ (s.allocOf h.pad).compliance →
    pauses = (current && decide (h.pad ∈ s.active ∧ h.report.state = .softFault ∧ (s.allocOf h.pad).paused = false)) →
    unpauses = (current && decide (h.pad ∈ s.active ∧ h.report.state ≠ .softFault ∧ (s.allocOf h.pad).paused = true))
      →
    cap = limitBy (limitBy (s.rating h.pad) (if current then h.report.accept else (s.allocOf h.pad).accept))
      (s.padCell h.pad) →
    clamps = (current && decide (h.pad ∈ s.active ∧ cap < s.capOf h.pad)) →
    limit = (if clamps then some (if cap < s.feeder.pmin then 0 else cap) else none) →
    setpoint = (if pauses then 0 else (s.allocOf h.pad).setpoint) →
    target = (if pauses then 0 else (s.allocOf h.pad).target) →
      ∃ t : State, exec .noncompliantLatch s = .next t ∧
        exec .allocatorReport s = .next t ∧
        (t.allocOf h.pad).compliance = 0 ∧
        (t.allocOf h.pad).measured = h.report.measured ∧
        (t.allocOf h.pad).accept = h.report.accept ∧
        t.capOf h.pad = cap ∧
        (t.allocOf h.pad).mode =
          (match (s.allocOf h.pad).mode with | .start => .normal | .normal => .normal | .hold v k => .hold v k) ∧
        (t.allocOf h.pad).paused = (((s.allocOf h.pad).paused || pauses) && !unpauses) ∧
        (t.allocOf h.pad).target = limitBy target limit ∧
        ((t.allocOf h.pad).setpoint = limitBy setpoint limit ∨
          (limitBy setpoint limit < limitBy target limit ∧ (t.allocOf h.pad).setpoint = limitBy target limit)) ∧
        t.roundRequest = (s.roundRequest || unpauses || (current && decide (s.capOf h.pad < cap)) || limit.any
          (fun x => decide (x < setpoint))) ∧
        (t.allocOf h.pad).rampBase = (s.allocOf h.pad).rampBase ∧ (t.allocOf h.pad).starvation =
          (s.allocOf h.pad).starvation ∧
        t.sessions = s.sessions ∧
        t.store = s.store ∧
        t.queue = s.queue ∧
        t.active = s.active ∧
        t.ports = s.ports ∧
        (∀ q, q ≠ h.pad → (s.allocOf q).Released (t.allocOf q)) ∧
        t.handed = { h with byAllocator := true, before := some (s.beforeOf h), noncompliant := true } :: rest ∧
        t = { s with alloc := t.alloc, roundRequest := t.roundRequest, handed := t.handed }) ∧
  (∀ (h : Handed) (rest : List Handed) (v s : State),
    s.Ready → s.MembershipLaw → s.IdleOffList → s.handed = h :: rest → h.byAllocator = true → h.bySession = false →
    h.noncompliant = true →
    exec .sessionReport { s with handed := { h with noncompliant := false } :: rest } = .next v →
      ∃ t : State, exec .sessionReport s = .next t ∧
        ((∀ x ∈ rest, x.byAllocator = true) → exec .noncompliantLatch s = .next t) ∧
        t.allocOf h.pad = { s.allocOf h.pad with
                            target := 0, setpoint := 0, rampBase := 0, starvation := 0, paused := false,
                            mode := .hold (max (if (s.beforeOf h).wasStart then s.rating h.pad else v.exposure h.pad)
                              h.report.measured) 8 } ∧
        t.roundRequest = (v.roundRequest || decide (h.pad ∈ v.active)) ∧
        t.faultOf h.pad = some
          (latchedRecord (v.faultOf h.pad) .noncompliant none s.timer.slot (v.session h.pad).body.tag) ∧
        t.padState h.pad = (if s.padState h.pad = .locked then .locked else .faulted) ∧
        (t.session h.pad).body.token = 0 ∧
        ((v.session h.pad).body.terms.isSome = true → (t.session h.pad).last.map (·.ending) = some .fault) ∧
        ((v.session h.pad).body.terms = none → (t.session h.pad).last = (v.session h.pad).last) ∧
        (∀ q, q ≠ h.pad → t.session q = s.session q ∧ (s.allocOf q).Released (t.allocOf q)) ∧
        t.queue = s.queue.erase h.pad ∧
        t.active = s.active.erase h.pad ∧
        t.store.image = { s.store.image with fault := s.store.image.fault.set h.pad (t.faultOf h.pad) } ∧
        (if (t.faultOf h.pad) = s.faultOf h.pad then t.store = s.store else s.store.Queued t.store [⟨.fault, h.pad⟩])
          ∧
        t.ports = (s.enterPads fun q => decide (q = h.pad) &&
          (decide (t.faultOf h.pad ≠ s.faultOf h.pad) || decide
          ((s.session h.pad).reported ≠ (t.session h.pad).reported))).ports ∧
        t.handed = rest ∧
        t = { s with
              sessions := t.sessions, alloc := t.alloc, queue := t.queue, active := t.active,
              roundRequest := t.roundRequest, handed := t.handed, ports := t.ports, store := t.store })

/-- With an exchange in progress on a pad, POLL_MISS ends it. Short of the third miss the miss count rises by 1 (while
LOST it stays) and a running hold's polls remaining fall by 1; at 0 the hold ends, the mode is NORMAL and on a LOST
link the last measured power is 0, and DISTRUST_HOLD_EXPIRY is then the same event. At the third miss (LINK_LOSS is
the same event) the link is LOST with count 3, the hold starts at the exposure as it stood with 8 polls, an open
session ends LINK_LOST with a round request when it was ACTIVE, the pad is OFFLINE unless FAULTED or LOCKED, its
reports in transit are marked as from before the loss (the model's own mark, log entry 12), and it enters every change
set. A raise that the event releases may follow. Without an exchange POLL_MISS changes nothing, as that event cannot
then occur (the model's choice, log entry 5). (R137's table, R138 and R74; the mark lostSince on reports in transit is
notes/assumptions/12.md, the last clause 5.md.) -/
def Obligations.PollMissTaken : Prop :=
  (∀ (p : Pad) (s : State),
    s.Ready → s.link.exchange = some p → ((s.linkOf p).state = .lost ∨ (s.linkOf p).misses < 2) →
      ∃ t : State, exec .pollMiss s = .next t ∧
        t.linkOf p = { s.linkOf p with
                       misses := if (s.linkOf p).state = .lost then (s.linkOf p).misses else (s.linkOf p).misses + 1 }
          ∧
        AllocRec.Released (match (s.allocOf p).mode with
                            | .hold v k => if k ≤ 1 then { s.allocOf p with
                                                           mode := .normal,
                                                           measured := if (s.linkOf p).state = .lost then 0 else
                                                             (s.allocOf p).measured } else
                                { s.allocOf p with mode := .hold v (k - 1) }
                            | _ => s.allocOf p) (t.allocOf p) ∧
        (∀ q, q ≠ p → t.linkOf q = s.linkOf q ∧ (s.allocOf q).Released (t.allocOf q)) ∧
        t.link = { s.link with exchange := none, received := [] } ∧
        t = { s with links := t.links, link := t.link, alloc := t.alloc }) ∧
  (∀ (p : Pad) (v k : Nat) (s : State),
    s.Ready → s.link.exchange = some p → ((s.linkOf p).state = .lost ∨ (s.linkOf p).misses < 2) →
    (s.allocOf p).mode = .hold v k → k ≤ 1 → (∀ h ∈ s.handed, h.byAllocator = true) →
      ∃ t : State, exec .distrustHoldExpiry s = .next t ∧
        exec .pollMiss s = .next t ∧
        (t.allocOf p).mode = .normal ∧
        ((t.allocOf p).measured = if (s.linkOf p).state = .lost then 0 else (s.allocOf p).measured)) ∧
  (∀ (p : Pad) (s : State),
    s.Ready → s.MembershipLaw → s.IdleOffList → s.link.exchange = some p → (s.linkOf p).state ≠ .lost →
    2 ≤ (s.linkOf p).misses →
      ∃ t : State, exec .linkLoss s = .next t ∧
        exec .pollMiss s = .next t ∧
        t.linkOf p = { s.linkOf p with state := .lost, misses := 3 } ∧
        (t.allocOf p).mode = .hold (s.exposure p) 8 ∧
        t.roundRequest = (s.roundRequest || decide (p ∈ s.active)) ∧
        (t.allocOf p).setpoint = 0 ∧
        (t.allocOf p).target = 0 ∧
        p ∉ t.queue ∧
        p ∉ t.active ∧
        t.padState p = (if s.padState p = .faulted ∨ s.padState p = .locked then s.padState p else .offline) ∧
        ((s.session p).body.terms.isSome = true → (t.session p).last.map (·.ending) = some .linkLost) ∧
        ((s.session p).body.terms = none → (t.session p).last = (s.session p).last) ∧
        (∀ q, q ≠ p → t.session q = s.session q ∧ t.linkOf q = s.linkOf q ∧ (s.allocOf q).Released (t.allocOf q)) ∧
        t.ports = (s.enterPad p).ports ∧
        t.link = { s.link with exchange := none, received := [] } ∧
        t.handed = s.handed.map (fun h => if h.pad = p then { h with lostSince := true } else h) ∧
        t = { s with
              sessions := t.sessions, alloc := t.alloc, queue := t.queue, active := t.active,
              roundRequest := t.roundRequest, links := t.links, link := t.link, handed := t.handed, ports := t.ports }) ∧
  (∀ (s : State),
    s.Ready → s.link.exchange = none →
      exec .pollMiss s = .next s)

/-- Sixteen bytes of a status reply with type 02h, the polled pad's address, a correct check and, in COUPLING, READY,
DELIVERING or DECOUPLING, a tag of 1..65,534, followed by any bytes, decode to the report of R135 and R186: measured
power and acceptance limit clamped to 400, meter absent when bit 3 is set, tag and acceptance limit only in those four
states, fault code only in SOFT_FAULT and HARD_FAULT. Another tag in those four states, another type byte, another
pad's address, a failed check, or fewer than sixteen bytes decode to nothing. With an exchange in progress on that
pad, the POLL_REPORT whose bytes bring the window's first 16 to a valid reply makes the link UP with miss count 0,
replaces the last report, hands the report on and, on a LOST link, enters the pad into every change set; nothing else
changes. Other bytes are only kept, up to the sixteenth, and after an invalid reply of 16 bytes every later byte is
discarded (log entry 31). Without an exchange nothing changes (log entry 5). (R186's status reply, R134's validity,
and the report's own event; the window's bytes are notes/assumptions/31.md, the last clause 5.md.) -/
def Obligations.PollReportTaken : Prop :=
  (∀ (p : Pad) (stateByte echo m1 m0 v1 v0 t1 t0 a1 a0 code z : Byte) (tail : List Byte),
    ((stateByte.toNat % 8 = 1 ∨ stateByte.toNat % 8 = 2 ∨ stateByte.toNat % 8 = 3 ∨ stateByte.toNat % 8 = 4) → 1 ≤
      (t1 ++ t0 : Word16).toNat ∧ (t1 ++ t0 : Word16).toNat ≤ 65534) →
      decodeReply p (withCheck [0x02#8, byte p.val, stateByte, echo, m1, m0, v1, v0, t1, t0, a1, a0, code, z] ++ tail)
        = some ⟨chargerStateOf stateByte, echo.toNat, min 400 (m1 ++ m0 : Word16).toNat,
        (if stateByte.getLsbD 3 then none else some (v1 ++ v0)),
        (if 1 ≤ stateByte.toNat % 8 ∧ stateByte.toNat % 8 ≤ 4 then some (t1 ++ t0 : Word16).toNat else none),
        (if 1 ≤ stateByte.toNat % 8 ∧ stateByte.toNat % 8 ≤ 4 then some (min 400 (a1 ++ a0 : Word16).toNat) else none),
        (if stateByte.toNat % 8 = 5 ∨ stateByte.toNat % 8 = 6 then some code.toNat else none)⟩) ∧
  (∀ (p : Pad) (stateByte echo m1 m0 v1 v0 t1 t0 a1 a0 code z : Byte) (tail : List Byte),
    1 ≤ stateByte.toNat % 8 → stateByte.toNat % 8 ≤ 4 →
    ((t1 ++ t0 : Word16).toNat = 0 ∨ (t1 ++ t0 : Word16).toNat = 65535) →
      decodeReply p (withCheck [0x02#8, byte p.val, stateByte, echo, m1, m0, v1, v0, t1, t0, a1, a0, code, z] ++ tail)
        = none) ∧
  (∀ (p : Pad) (reply : List Byte) (r : Report) (s : State),
    s.Ready → s.link.exchange = some p → decodeReply p (s.link.received ++ reply) = some r →
      ∃ t : State, exec (.pollReport reply) s = .next t ∧
        t.links = s.links.set p ⟨.up, 0, some ⟨r.state, r.echo, r.meter⟩⟩ ∧
        t.link = { s.link with exchange := none, received := [] } ∧
        t.handed = s.handed ++ [⟨p, r, false, false, none, false, false, false, false⟩] ∧
        t.ports = (if (s.linkOf p).state = .lost then s.enterPad p else s).ports ∧
        t = { s with links := t.links, link := t.link, handed := t.handed, ports := t.ports }) ∧
  (∀ (p : Pad) (reply : List Byte) (s : State),
    s.Ready → s.link.exchange = some p → decodeReply p (s.link.received ++ reply) = none →
      exec (.pollReport reply) s = .next
        ({ s with link := { s.link with received := (s.link.received ++ reply).take 16 } })) ∧
  (∀ (p : Pad) (reply : List Byte) (s : State),
    s.Ready → s.link.exchange = some p → s.link.received.length = 16 → decodeReply p s.link.received = none →
      exec (.pollReport reply) s = .next s) ∧
  (∀ (reply : List Byte) (s : State),
    s.Ready → s.link.exchange = none →
      exec (.pollReport reply) s = .next s) ∧
  (∀ (p : Pad) (kind addr : Byte) (body tail : List Byte),
    body.length = 12 → (kind ≠ 0x02#8 ∨ addr ≠ byte p.val) →
      decodeReply p (withCheck (kind :: addr :: body) ++ tail) = none) ∧
  (∀ (p : Pad) (bytes tail : List Byte),
    bytes.length = 16 → bytes.drop 14 ≠ checkBytes (bytes.take 14) →
      decodeReply p (bytes ++ tail) = none) ∧
  (∀ (p : Pad) (bytes : List Byte),
    bytes.length < 16 →
      decodeReply p bytes = none) ∧
  (∀ (bytes : List Byte),
    checkBytes bytes = [byte
      (bytes.foldl (fun c x => ((c.1 + x.toNat) % 255, (c.2 + (c.1 + x.toNat)) % 255)) (0, 0)).1, byte
      (bytes.foldl (fun c x => ((c.1 + x.toNat) % 255, (c.2 + (c.1 + x.toNat)) % 255)) (0, 0)).2])

/-- With no exchange in progress, POLL_SLOT_START sends the 8-byte setpoint frame of the next pad of the cycle,
preceded by the 4-byte broadcast STOP when one is requested (log entry 18), opens its exchange and moves the cycle on
by one pad, 23 to 0; nothing else changes. The command is IDLE in VACANT, SEEN, BINDING, OFFLINE; HOLD while QUEUED,
TOPPED, FAULTED; RUN with the allocator's setpoint while ACTIVE; END in RELEASING, CLEARING; OFF in LOCKED; every
other setpoint is 0; the token is the pad's. BROADCAST_STOP with a request and no exchange sends the STOP and clears
the request, and changes nothing else; otherwise nothing (log entry 5). POLL_SLOT_START in an exchange changes nothing
(log entries 5, 29). The frames sent are read from tx, the model's own field (log entry 20). (R26's table in R186's
frame. The order of the two frames is notes/assumptions/18.md, the kept frames 20.md, the clauses in which nothing
changes 5.md and 29.md.) -/
def Obligations.PollSlotStarts : Prop :=
  (∀ (p : Pad) (s : State),
    s.Ready → s.link.exchange = none → s.link.nextPad = p →
      ∃ t : State, exec .pollSlotStart s = .next t ∧
        t.link = ⟨false, if p.val = 23 then 0 else p + 1, some p, [],
          (if s.link.stopRequest then [withCheck [0x03#8, 0xFF#8]] else []) ++
          [withCheck ([0x01#8, byte p.val, (s.commandOf p).code] ++ word
          (if s.padState p = .eligible ∧ p ∈ s.active then (s.allocOf p).setpoint else 0) ++
          [byte (s.session p).body.token])]⟩ ∧
        t = { s with link := t.link }) ∧
  (∀ (p : Pad) (s : State),
    (s.commandOf p).code = (match s.padState p with
                             | .vacant | .seen | .binding | .offline => 0x00#8
                             | .eligible => if p ∈ s.active then 0x02#8 else 0x01#8
                             | .topped | .faulted => 0x01#8
                             | .releasing | .clearing => 0x03#8
                             | .locked => 0x04#8)) ∧
  (∀ (s : State),
    s.Ready → s.link.exchange = none → s.link.stopRequest = true →
      exec .broadcastStop s = .next
        ({ s with link := { s.link with stopRequest := false, tx := [withCheck [0x03#8, 0xFF#8]] } })) ∧
  (∀ (s : State),
    s.Ready → (s.link.exchange ≠ none ∨ s.link.stopRequest = false) →
      exec .broadcastStop s = .next s) ∧
  (∀ (s : State),
    s.Ready → s.link.exchange ≠ none →
      exec .pollSlotStart s = .next s)

/-- For every state with one report in transit, of a pad whose link is UP, no raise pending, and the membership, idle
and held-states laws: the session controller's taking and then the allocator's, and the allocator's and then the
session controller's, both answer next states with the same session table, fault records, collections, round request,
setpoints, targets, last measured powers, compliance counts and exposures of all pads. (R75: the two blocks may take
the report in either order and the results agree.) -/
def Obligations.ReportOrderAgrees : Prop :=
  ∀ (p : Pad) (r : Report) (s : State),
    s.Ready → s.MembershipLaw → s.IdleOffList → s.HeldStatesLaw → s.NoRaisePending → (s.linkOf p).state = .up →
    s.handed = [⟨p, r, false, false, none, false, false, false, false⟩] →
      ∃ a1 a2 b1 b2 : State, exec .sessionReport s = .next a1 ∧ exec .allocatorReport a1 = .next a2 ∧
        exec .allocatorReport s = .next b1 ∧ exec .sessionReport b1 = .next b2 ∧
        a2.sessions = b2.sessions ∧
        a2.store.image = b2.store.image ∧
        a2.queue = b2.queue ∧
        a2.active = b2.active ∧
        a2.roundRequest = b2.roundRequest ∧
        a2.handed = [] ∧
        b2.handed = [] ∧
        (∀ q, a2.exposure q = b2.exposure q ∧ (a2.allocOf q).setpoint = (b2.allocOf q).setpoint ∧
          (a2.allocOf q).target = (b2.allocOf q).target ∧ (a2.allocOf q).measured = (b2.allocOf q).measured ∧
          (a2.allocOf q).compliance = (b2.allocOf q).compliance)

/-- For every state, after the five steps of a round, boundary or mid-slot: every target of an active session is at
most its reach, which is at most its cap in force and 0 while PAUSED; every target is 0 or at least P_min; the target
of every pad off the active list is 0; no setpoint of an active session is above its target or above what it was
before the round; and the targets of all pads sum to at most the budget, the ceiling less the exposures of the pads
off the active list when the round began. (R65, with the budget of R51.) -/
def Obligations.RoundBounds : Prop :=
  ∀ (s u : State) (boundary : Bool),
    u = s.roundTargets boundary →
      (∀ p, p ∈ u.active → (u.allocOf p).target ≤ u.reachOf p ∧ (u.allocOf p).setpoint ≤ (u.allocOf p).target ∧
        (u.allocOf p).setpoint ≤ (s.allocOf p).setpoint) ∧
      (∀ p, u.reachOf p ≤ u.capOf p ∧ u.reachOf p ≤ (u.allocOf p).rampBase + u.feeder.ramp ∧
        ((u.allocOf p).paused = true → u.reachOf p = 0)) ∧
      (∀ p, (u.allocOf p).target = 0 ∨ s.feeder.pmin ≤ (u.allocOf p).target) ∧
      (∀ p, p ∉ u.active → (u.allocOf p).target = 0) ∧
      sumOver padList (fun p => (u.allocOf p).target) ≤ s.feeder.ceiling - sumOver
        (padList.filter fun p => decide (p ∉ s.active)) s.exposure ∧
      u.roundRequest = false

/-- With a round request pending, MID_SLOT_ROUND clears it and runs admission; the pads on the two collections stay
the same; each active pad's target becomes its grant, 0 off the list, its setpoint falls to a lower target, and raises
may be released; nothing else of a record changes but what admission did, and nothing else. Admission leaves a pad's
record, or makes it idle when it is suspended for a queued class-0 pad. The need pass gives, class by class, each
demand in full or the class's shares of what is left; the surplus pass adds shares over the room up to the reach; the
minimum-power pass makes grants below P_min 0 and offers the freed power once in class and pad order. A share is
amount x weight / sum rounded down, and the leftover goes out at 1 each in ascending pad number. Without a request
nothing changes (log entry 5). (R49 and the passes of R53 to R63; the last clause is notes/assumptions/5.md.) -/
def Obligations.MidSlotRoundTaken : Prop :=
  (∀ (a s : State),
    s.Ready → s.MembershipLaw → s.IdleOffList → s.roundRequest = true →
    a = State.admission { s with roundRequest := false } s.budget →
      ∃ t : State, exec .midSlotRound s = .next t ∧
        t.roundRequest = false ∧
        (∀ p, p ∈ t.queue ∨ p ∈ t.active ↔ p ∈ s.queue ∨ p ∈ s.active) ∧
        t.queue = a.queue ∧
        t.active = a.active ∧
        (∀ p, p ∈ t.active → AllocRec.Released { a.allocOf p with
                                                 target := grantOf (a.grants s.budget) p,
                                                 setpoint := min (a.allocOf p).setpoint
                                                   (grantOf (a.grants s.budget) p) } (t.allocOf p)) ∧
        (∀ p, p ∉ t.active → t.allocOf p = { a.allocOf p with target := 0 }) ∧
        (∀ p, a.allocOf p = s.allocOf p ∨ (a.allocOf p =
          { s.allocOf p with target := 0, setpoint := 0, rampBase := 0, starvation := 0, paused := false } ∧ p ∈
          s.active ∧ s.classOf p ≠ 0 ∧ ∃ c, c ∈ s.queue ∧ c ∈ t.active ∧ s.classOf c = 0)) ∧
        (∀ p, (t.allocOf p).target ≤ t.capOf p) ∧
        sumOver padList (fun p => (t.allocOf p).target) ≤ s.budget ∧
        t = { s with alloc := t.alloc, queue := t.queue, active := t.active, roundRequest := false }) ∧
  (∀ (s : State) (budget : Nat),
    s.grants budget = s.minPowerPass
      (s.surplusPass (budget - weightSum (s.needPass classList budget)) (s.needPass classList budget)) ∧
    (s.needPass classList budget).map Prod.fst = s.byClass s.activePads) ∧
  (∀ (p : Pad) (phase : Matched) (token tag : Nat) (terms : Terms) (m : Meter) (s : State),
    (s.session p).body = .matched phase token tag terms m →
      s.demandOf p = (if (s.allocOf p).paused then 0 else min
        (if terms.target - m.delivered = 0 then 0 else if deadlineDistance terms.deadline s.timer.slot = 0 then
        s.capOf p else min ((terms.target - m.delivered + deadlineDistance terms.deadline s.timer.slot - 1) /
        deadlineDistance terms.deadline s.timer.slot) (s.capOf p))
        (min (s.capOf p) ((s.allocOf p).rampBase + s.feeder.ramp)))) ∧
  (∀ (p : Pad) (budget : Nat) (s : State),
    p ∈ s.active →
      grantOf (s.needPass classList budget) p = shareOf
        (budget - sumOver (s.activePads.filter fun q => decide (s.classOf q < s.classOf p)) s.demandOf)
        (s.activePads.filter fun q => decide (s.classOf q = s.classOf p)) s.demandOf p) ∧
  (∀ (p : Pad) (budget amount : Nat) (gs : List (Pad × Nat)) (s : State),
    p ∈ s.active → gs = s.needPass classList budget →
      grantOf (s.surplusPass amount gs) p = grantOf gs p + shareOf amount s.activePads
        (fun q => s.reachOf q - grantOf gs q) p) ∧
  (∀ (pre post gs : List (Pad × Nat)) (p : Pad) (g freed : Nat) (s : State),
    gs = pre ++ (p, g) :: post → (∀ w ∈ pre, w.1 ≠ p) →
    freed = weightSum (gs.filter fun w => decide (w.2 < s.feeder.pmin)) →
      grantOf (s.minPowerPass gs) p = (if g < s.feeder.pmin then 0 else g + min
        (freed - ((pre.filter fun w => decide (s.feeder.pmin ≤ w.2)).map fun w => s.reachOf w.1 - w.2).sum)
        (s.reachOf p - g))) ∧
  (∀ (s : State),
    s.Ready → s.roundRequest = false →
      exec .midSlotRound s = .next s)

/-- Step A considers queue entries one at a time from the head; each ACTIVE session counts with its demand a, each one
admitted in the round with its d = max(P_min, min(need, cap, R)), a suspended one not at all. A candidate with a cap
below P_min is passed over and stays. One whose d fits with the counted demands is admitted: out of the queue, at the
tail of the active list, ramp base and starvation count 0, counting with d. One of class 1, 2 or 3 that does not fit,
or of class 0 that does not fit even beside class 0 alone, ends step A with every entry kept in place. One of class 0
that fits beside class 0 alone is admitted after suspensions: the sessions suspended begin the order class 3, 2, 1,
within a class from the tail of the active list; with them gone it fits, with fewer it does not; each becomes idle and
is inserted into the queue by R29. Either admission keeps the collections' laws. Step A ends only so or when no entry
is left: more considerations than the two collections hold change nothing (log entry 27). So the head of the queue
with a cap of at least P_min is admitted when it fits or can preempt, and otherwise nothing changes. Every ACTIVE
class-0 session stays ACTIVE, and every pad admitted had a cap of at least P_min. (The decisions of R34 one by one;
insertBefore is R29's scan, stated with BIND.) -/
def Obligations.ClassZeroKeepsItsPlace : Prop :=
  (∀ (s : State) (budget : Nat) (p : Pad),
    s.MembershipLaw →
      (p ∈ s.active ∧ s.classOf p = 0 → p ∈ (s.admission budget).active) ∧
      (p ∉ s.active ∧ p ∈ (s.admission budget).active → s.feeder.pmin ≤ s.capOf p)) ∧
  (∀ (n budget : Nat) (s : State),
    s.MembershipLaw → s.QueueClassOrder →
      s.admission budget = (Admission.consider budget (s.queue.length + s.active.length + n)
        ⟨s, s.active.map fun p => (p, s.demandOf p), 0⟩).state) ∧
  (∀ (p : Pad) (phase : Matched) (token tag : Nat) (terms : Terms) (m : Meter) (s : State),
    (s.session p).body = .matched phase token tag terms m →
      s.admissionDemand p = max s.feeder.pmin (min (min (if terms.target - m.delivered = 0 then 0 else if
        deadlineDistance terms.deadline s.timer.slot = 0 then s.capOf p else min
        ((terms.target - m.delivered + deadlineDistance terms.deadline s.timer.slot - 1) / deadlineDistance
        terms.deadline s.timer.slot) (s.capOf p)) (s.capOf p)) s.feeder.ramp)) ∧
  (∀ (n budget : Nat) (a : Admission),
    a.state.queue.length ≤ a.passed →
      Admission.consider budget (n + 1) a = a) ∧
  (∀ (n budget d : Nat) (c : Pad) (pre post : List Pad) (a : Admission),
    a.state.queue = pre ++ c :: post → a.passed = pre.length → d = a.state.admissionDemand c →
    a.state.capOf c < a.state.feeder.pmin →
      Admission.consider budget (n + 1) a = Admission.consider budget n { a with passed := a.passed + 1 }) ∧
  (∀ (n budget d : Nat) (c : Pad) (pre post : List Pad) (a : Admission) (b : Admission),
    a.state.MembershipLaw → a.state.QueueClassOrder → a.counted.map Prod.fst = a.state.active →
    a.state.queue = pre ++ c :: post → a.passed = pre.length → d = a.state.admissionDemand c →
    a.state.feeder.pmin ≤ a.state.capOf c → d + weightSum a.counted ≤ budget →
    b = ⟨{ a.state with
           queue := pre ++ post, active := a.state.active ++ [c],
           alloc := a.state.alloc.set c { a.state.allocOf c with rampBase := 0, starvation := 0 } }, a.counted ++
      [(c, d)], pre.length⟩ →
      Admission.consider budget (n + 1) a = Admission.consider budget n b ∧
      b.state.MembershipLaw ∧
      b.state.QueueClassOrder ∧
      b.counted.map Prod.fst = b.state.active) ∧
  (∀ (n budget d : Nat) (c : Pad) (pre post : List Pad) (a : Admission),
    a.state.queue = pre ++ c :: post → a.passed = pre.length → d = a.state.admissionDemand c →
    a.state.feeder.pmin ≤ a.state.capOf c → budget < d + weightSum a.counted →
    (a.state.classOf c ≠ 0 ∨ budget < d + weightSum (a.counted.filter fun w => decide (a.state.classOf w.1 = 0))) →
      Admission.consider budget (n + 1) a = a) ∧
  (∀ (n budget d : Nat) (c : Pad) (pre post : List Pad) (a : Admission),
    a.state.MembershipLaw → a.state.QueueClassOrder → a.counted.map Prod.fst = a.state.active →
    a.state.queue = pre ++ c :: post → a.passed = pre.length → d = a.state.admissionDemand c →
    a.state.feeder.pmin ≤ a.state.capOf c → budget < d + weightSum a.counted → a.state.classOf c = 0 →
    d + weightSum (a.counted.filter fun w => decide (a.state.classOf w.1 = 0)) ≤ budget →
      ∃ (gone post' : List Pad) (b : Admission), Admission.consider budget (n + 1) a = Admission.consider budget n b ∧
        gone <+: a.state.suspensionOrder ∧
        d + weightSum (a.counted.filter fun w => decide (w.1 ∉ gone)) ≤ budget ∧
        (∀ j, j < gone.length → budget < d + weightSum (a.counted.filter fun w => decide (w.1 ∉ gone.take j))) ∧
        (gone.foldl State.insertQueue a.state).queue = pre ++ c :: post' ∧
        b.state.queue = pre ++ post' ∧
        b.state.active = (a.state.active.filter fun p => decide (p ∉ gone)) ++ [c] ∧
        (∀ v, v ∈ gone → a.state.classOf v ≠ 0 ∧ b.state.allocOf v =
          { a.state.allocOf v with target := 0, setpoint := 0, rampBase := 0, starvation := 0, paused := false }) ∧
        b.state.allocOf c = { a.state.allocOf c with rampBase := 0, starvation := 0 } ∧
        (∀ q, q ∉ gone → q ≠ c → b.state.allocOf q = a.state.allocOf q) ∧
        b.counted = (a.counted.filter fun w => decide (w.1 ∉ gone)) ++ [(c, d)] ∧
        b.passed = pre.length ∧
        b.state = { a.state with alloc := b.state.alloc, queue := b.state.queue, active := b.state.active } ∧
        b.state.MembershipLaw ∧
        b.state.QueueClassOrder ∧
        b.counted.map Prod.fst = b.state.active) ∧
  (∀ (s : State),
    s.suspensionOrder = (s.active.reverse.filter fun p => decide (s.classOf p = 3)) ++
      (s.active.reverse.filter fun p => decide (s.classOf p = 2)) ++
      (s.active.reverse.filter fun p => decide (s.classOf p = 1))) ∧
  (∀ (p : Pad) (s : State),
    (s.insertQueue p).queue = insertBefore
      (fun q => decide (s.classOf p < s.classOf q ∨ (s.classOf p = s.classOf q ∧ s.distanceOf p < s.distanceOf q))) p
      s.queue) ∧
  (∀ (budget d : Nat) (c : Pad) (rest : List Pad) (s : State),
    s.MembershipLaw → s.QueueClassOrder → s.queue = c :: rest → s.feeder.pmin ≤ s.capOf c → d = s.admissionDemand c →
    (d + sumOver s.active s.demandOf ≤ budget ∨
      (s.classOf c = 0 ∧ d + sumOver (s.active.filter fun p => decide (s.classOf p = 0)) s.demandOf ≤ budget)) →
      c ∈ (s.admission budget).active ∧
      c ∉ (s.admission budget).queue) ∧
  (∀ (budget d : Nat) (c : Pad) (rest : List Pad) (s : State),
    s.queue = c :: rest → s.feeder.pmin ≤ s.capOf c → d = s.admissionDemand c →
    budget < d + sumOver s.active s.demandOf →
    (s.classOf c ≠ 0 ∨ budget < d + sumOver (s.active.filter fun p => decide (s.classOf p = 0)) s.demandOf) →
      s.admission budget = s)

/-- For every state: the pending raises in order are exactly the pads with target above setpoint, in ascending class
and pad number; an attempt releases a prefix of that order one by one, each to its target and each only when the other
pads' exposures as they then stand plus its target are at most the ceiling, leaves every other record, and the first
raise it does not release does not fit: the other pads' exposures as they then stand plus its target exceed the
ceiling. In shared feeder mode with HEADROOM_GIVEN inactive it releases nothing. RAISE_WANTED is active exactly in
shared feeder mode while some raise is pending. (R79, R82 and R83.) -/
def Obligations.RaiseReleaseOrder : Prop :=
  (∀ (s : State) (p : Pad),
    (p ∈ s.raiseOrder ↔ (s.allocOf p).setpoint < (s.allocOf p).target) ∧
    s.raiseOrder.Pairwise (fun a b => s.classOf a < s.classOf b ∨ (s.classOf a = s.classOf b ∧ a < b))) ∧
  (∀ (s : State),
    (s.raiseWanted = true ↔ s.feederMode = .shared ∧ ∃ p, (s.allocOf p).setpoint < (s.allocOf p).target) ∧
    (s.headroomOk = false ↔ s.feederMode = .shared ∧ s.level .headroomGiven = false)) ∧
  (∀ (s : State),
    s.headroomOk = false →
      s.releaseAttempt = s) ∧
  (∀ (s : State),
    s.headroomOk = true →
      ∃ released waiting : List Pad, s.raiseOrder = released ++ waiting ∧
      s.releaseAttempt = released.foldl State.releaseRaise s ∧
      (∀ pre p post, released = pre ++ p :: post →
        (pre.foldl State.releaseRaise s).othersExposure p + (s.allocOf p).target ≤ s.feeder.ceiling) ∧
      (∀ p ∈ released, s.releaseAttempt.allocOf p = { s.allocOf p with setpoint := (s.allocOf p).target }) ∧
      (∀ p, p ∉ released → s.releaseAttempt.allocOf p = s.allocOf p) ∧
      (∀ p ∈ waiting.head?, s.feeder.ceiling < s.releaseAttempt.othersExposure p + (s.allocOf p).target) ∧
      s.releaseAttempt = { s with alloc := s.releaseAttempt.alloc })

/-- For every window whose lines run upward, in either traversal order, starting at its first cell: after as many
moves as the window has cells the pointer is back at the first cell; the cells visited before that are all different;
and each of them lies inside the window. (R120: both orders visit each cell of the window once between one return to
(Ls, Cs) and the next.) -/
def Obligations.WalkVisitsOnce : Prop :=
  ∀ (w : Window),
    w.lineStart ≤ w.lineEnd → w.line = w.lineStart → w.col = w.colStart →
      Window.advance^[w.size] w = w ∧
      (∀ i, i < w.size → (Window.advance^[i] w).pointerInside = true) ∧
      (∀ i j, i < j → j < w.size → ((Window.advance^[i] w).line, (Window.advance^[i] w).col) ≠
        ((Window.advance^[j] w).line, (Window.advance^[j] w).col))

/-- Writing one code stores at the pointer: unset for FFFFh in either kind of line, else the code clamped to 4,095 in
line 0 and to 400 in a pad line; a later READ CELLS of that cell returns the stored content. Every other cell is
unchanged and the window stays but for its pointer, which moves on. (R117.) -/
def Obligations.CellCodes : Prop :=
  ∀ (c : CapPlan) (code : Word16) (line : PlanLine) (col : PlanCol),
    (c.writeCode code).cell c.window.line c.window.col = (if code = 0xFFFF#16 then none else if c.window.line = 0 then
      some (min code.toNat 4095) else some (min code.toNat 400)) ∧
    ((line, col) ≠ (c.window.line, c.window.col) → (c.writeCode code).cell line col = c.cell line col) ∧
    (c.writeCode code).window = c.window.advance ∧
    ((c.writeCode code).readCells 1 c.window).1 = (if code = 0xFFFF#16 then [0xFF#8, 0xFF#8] else word
      (if c.window.line = 0 then min code.toNat 4095 else min code.toNat 400))

/-- SET WINDOW in range sets window and order, moves the pointer to the first cell and answers OK with the five bytes;
out of range it answers RANGE. READ CELLS of 1..16 answers the cells from the pointer on, FFFFh for unset, and the
pointer after; 0 or above 16 answers RANGE. Neither changes anything else. WRITE CELLS stores the codes along the walk
and answers OK with their number and the pointer; when no cell of the current column changes, nothing else changes; in
general, an ACTIVE pad whose cap in force fell has target and setpoint limited to the new cap, or to 0 when that is
below P_min, and every other record stays; then the ceiling is formed again and does to these records what a new
ceiling does (SettledTo: a fall curtails, targets too, log entry 22; a rise, or an exposure that fell, makes a raise
release attempt). The round request is set exactly when a cap rose, a clamp lowered a setpoint, or the ceiling or its
cause changed, the STOP request when the ceiling fell to 0. Every ACTIVE setpoint ends within its cap in force;
session table, collections, slot timer and retained store stay. (R118, R121, R122, with R124 and R125; SettledTo's
targets after a curtailment are notes/assumptions/22.md.) -/
def Obligations.PlanRequestsTaken : Prop :=
  (∀ (ls le cs ce order : Byte) (w : Window) (s : State),
    s.Ready → s.handedRequest .f = some (.setWindow ls le cs ce order) → ls.toNat = w.lineStart.val →
    le.toNat = w.lineEnd.val → w.lineStart ≤ w.lineEnd → cs.toNat = w.colStart.val → ce.toNat = w.colEnd.val →
    order = w.order.code → w.line = w.lineStart → w.col = w.colStart →
      exec .setWindow s = .next ({ s with plan := { s.plan with window := w } }.answer .f .ok [ls, le, cs, ce, order])) ∧
  (∀ (ls le cs ce order : Byte) (s : State),
    s.Ready → s.handedRequest .f = some (.setWindow ls le cs ce order) →
    (24 < le.toNat ∨ le.toNat < ls.toNat ∨ 15 < cs.toNat ∨ 15 < ce.toNat ∨ 1 < order.toNat) →
      exec .setWindow s = .next (s.answer .f .range [])) ∧
  (∀ (count : Byte) (s : State),
    s.Ready → s.handedRequest .f = some (.readCells count) → 1 ≤ count.toNat → count.toNat ≤ 16 →
      exec .readCells s = .next ({ s with
                                   plan := { s.plan with window := Window.advance^[count.toNat] s.plan.window } }.answer
        .f .ok ((List.range count.toNat).flatMap (fun i => match s.plan.cell (Window.advance^[i] s.plan.window).line
        (Window.advance^[i] s.plan.window).col with | some v => word v | none => [0xFF#8, 0xFF#8]) ++
        [byte (Window.advance^[count.toNat] s.plan.window).line.val, byte
        (Window.advance^[count.toNat] s.plan.window).col.val]))) ∧
  (∀ (count : Byte) (s : State),
    s.Ready → s.handedRequest .f = some (.readCells count) → (count.toNat = 0 ∨ 16 < count.toNat) →
      exec .readCells s = .next (s.answer .f .range [])) ∧
  (∀ (codes : List Word16) (s : State),
    s.Ready → s.handedRequest .f = some (.writeCells codes) →
    (∀ line, (codes.foldl CapPlan.writeCode s.plan).cell line (columnOf s.timer.slot) = s.plan.cell line
      (columnOf s.timer.slot)) →
      exec .writeCells s = .next ({ s with plan := codes.foldl CapPlan.writeCode s.plan }.answer .f .ok
        [byte codes.length, byte (codes.foldl CapPlan.writeCode s.plan).window.line.val, byte
        (codes.foldl CapPlan.writeCode s.plan).window.col.val])) ∧
  (∀ (codes : List Word16) (cap lim : Pad → Nat) (w s : State),
    s.Ready → s.MembershipLaw → s.HeldStatesLaw → s.IdleOffList → s.SetpointsInCaps → s.CeilingFormed →
    s.handedRequest .f = some (.writeCells codes) →
    (∀ p, cap p = limitBy (limitBy (s.rating p) (s.allocOf p).accept)
      ((codes.foldl CapPlan.writeCode s.plan).cell (padLine p) (columnOf s.timer.slot))) →
    (∀ p, lim p = (if cap p < s.feeder.pmin then 0 else cap p)) →
    w = { s with plan := codes.foldl CapPlan.writeCode s.plan, alloc := w.alloc } →
    (∀ p, w.allocOf p = (if p ∈ s.active ∧ cap p < s.capOf p then
      { s.allocOf p with target := min (s.allocOf p).target (lim p), setpoint := min (s.allocOf p).setpoint (lim p) }
      else s.allocOf p)) →
      ∃ t : State, exec .writeCells s = .next t ∧
        (∀ p, t.capOf p = cap p) ∧
        s.SettledTo w t ∧
        t.roundRequest = (s.roundRequest || decide (∃ p, s.capOf p < cap p) || decide
          (∃ p, p ∈ s.active ∧ cap p < s.capOf p ∧ lim p < (s.allocOf p).setpoint) || decide
          (t.feeder.ceiling ≠ s.feeder.ceiling ∨ t.feeder.cause ≠ s.feeder.cause)) ∧
        t.link = { s.link with
                   stopRequest := s.link.stopRequest ||
                     (decide (0 < s.feeder.ceiling) && decide (t.feeder.ceiling = 0)) } ∧
        t.plan = codes.foldl CapPlan.writeCode s.plan ∧
        t.CeilingFormed ∧
        t.SetpointsInCaps ∧
        t.ports = ({ s with
                     ports := s.ports.enter (fun _ => false)
                       (decide (t.feeder.ceiling ≠ s.feeder.ceiling ∨ t.feeder.cause ≠ s.feeder.cause)) }.answer .f
          .ok [byte codes.length, byte t.plan.window.line.val, byte t.plan.window.col.val]).ports ∧
        t.feeder = { s.feeder with ceiling := t.feeder.ceiling, cause := t.feeder.cause } ∧
        t = { s with
              plan := t.plan, alloc := t.alloc, roundRequest := t.roundRequest, feeder := t.feeder, link := t.link,
              ports := t.ports })

/-- For every state: with FLD_ENABLE inactive the ceiling is 0, cause DISABLED; otherwise it is the smallest of the
source term (no limit while the main pair is active, else the tie ceiling while the tie pair is active, else 0), the
shed ceiling while a shed is active, and the feeder cell or else the fallback; the cause is the source's TIE or
NO_SOURCE when that is smallest, else SHED, else PLAN or FALLBACK. (R104's table with R105's source term.) -/
def Obligations.CeilingIsSmallest : Prop :=
  (∀ (s : State),
    s.level .fldEnable = false →
      s.formCeiling = ⟨0, .disabled⟩) ∧
  (∀ (s : State) (source shed : Option Nat) (plan : Nat),
    s.level .fldEnable = true →
    source = (if s.level .srcALive ∧ s.level .srcATaken then none else if s.level .srcBLive ∧ s.level .srcBTaken then
      some s.feeder.tie else some 0) →
    shed = s.feeder.shed.map (·.ceiling) → plan = s.feederCell.getD s.feeder.fallback →
      s.formCeiling.value = min (min (source.getD plan) (shed.getD plan)) plan ∧
      s.formCeiling.cause = (if source.isSome ∧ source.getD 0 ≤ shed.getD plan ∧ source.getD 0 ≤ plan then
        (if s.level .srcBLive ∧ s.level .srcBTaken then .tie else .noSource) else if shed.isSome ∧ shed.getD 0 ≤ plan
        then .shed else if s.feederCell.isSome then .plan else .fallback))

/-- SHED makes the shed active with the ceiling clamped to 4,095 and a duration of 0 taken as 1, forms the ceiling
again inside the slot, puts FIELD into every change set and answers the values as taken. END SHED with a shed active
ends it and does the same, answering OK; without one it only answers OK. A fall of the ceiling curtails, when the
active setpoints sum to more than the new ceiling less the off-list exposures: each active setpoint becomes its share,
rounded down and 0 below P_min, and so does its target (for a pad without a pending raise too, log entry 22); a fall
short of that leaves every record. A rise makes a raise release attempt, and a ceiling that stays leaves every record;
any change requests a round, and a fall to 0 requests the STOP. Nothing else changes. (R108, R109, with R112 and R84;
CurtailedTo says what a new ceiling does to the records, with notes/assumptions/22.md for the targets.) -/
def Obligations.ShedTaken : Prop :=
  (∀ (ceiling : Word16) (duration : Byte) (s : State),
    s.Ready → s.CeilingFormed → s.handedRequest .f = some (.shed ceiling duration) →
      ∃ t : State, exec .shed s = .next t ∧
        t.feeder = { s.feeder with
                     shed := some ⟨min ceiling.toNat 4095, max duration.toNat 1⟩, ceiling := t.feeder.ceiling,
                     cause := t.feeder.cause } ∧
        t.ports = (s.enterField.answer .f .ok (word (min ceiling.toNat 4095) ++ [byte (max duration.toNat 1)])).ports
          ∧
        t.CeilingFormed ∧
        s.CurtailedTo t ∧
        t.roundRequest =
          (s.roundRequest || decide (t.feeder.ceiling ≠ s.feeder.ceiling ∨ t.feeder.cause ≠ s.feeder.cause)) ∧
        t.link = { s.link with
                   stopRequest := s.link.stopRequest ||
                     (decide (0 < s.feeder.ceiling) && decide (t.feeder.ceiling = 0)) } ∧
        t = { s with
              feeder := t.feeder, alloc := t.alloc, roundRequest := t.roundRequest, link := t.link, ports := t.ports }) ∧
  (∀ (shed : Shed) (s : State),
    s.Ready → s.CeilingFormed → s.handedRequest .f = some .endShed → s.feeder.shed = some shed →
      ∃ t : State, exec .endShed s = .next t ∧
        t.feeder = { s.feeder with shed := none, ceiling := t.feeder.ceiling, cause := t.feeder.cause } ∧
        t.ports = (s.enterField.answer .f .ok []).ports ∧
        t.CeilingFormed ∧
        s.CurtailedTo t ∧
        t.roundRequest =
          (s.roundRequest || decide (t.feeder.ceiling ≠ s.feeder.ceiling ∨ t.feeder.cause ≠ s.feeder.cause)) ∧
        t.link = { s.link with
                   stopRequest := s.link.stopRequest ||
                     (decide (0 < s.feeder.ceiling) && decide (t.feeder.ceiling = 0)) } ∧
        t = { s with
              feeder := t.feeder, alloc := t.alloc, roundRequest := t.roundRequest, link := t.link, ports := t.ports }) ∧
  (∀ (s : State),
    s.Ready → s.handedRequest .f = some .endShed → s.feeder.shed = none →
      exec .endShed s = .next (s.answer .f .ok []))

/-- SET LIMITS puts into force P_min at most 63, R clamped to 10..400 and then raised to the new P_min, and fallback
and tie at most 4,095, and answers them as taken; when P_min rose, sets every setpoint and target below the new one to
0, keeping every other field; then forms the ceiling again, which does to these records what a new ceiling does
(SettledTo: a fall curtails, with the new P_min, targets too, log entry 22; a rise, or an exposure that fell, makes a
raise release attempt; else they stay). Every setpoint and target is then 0 or at least the new P_min when they were
so under the old. It sets the round request. Session table, collections, slot timer, plan, retained store and shed
stay. (R110 and R111, with R87 and R84; SettledTo's targets after a curtailment are notes/assumptions/22.md.) -/
def Obligations.SetLimitsTaken : Prop :=
  ∀ (ramp pmin fallback tie : Word16) (w s : State),
    s.Ready → s.CeilingFormed → s.handedRequest .f = some (.setLimits ramp pmin fallback tie) →
    w = { s with alloc := w.alloc } →
    (∀ p, w.allocOf p = (if s.feeder.pmin < min pmin.toNat 63 then
      { s.allocOf p with
        target := (if (s.allocOf p).target < min pmin.toNat 63 then 0 else (s.allocOf p).target),
        setpoint := (if (s.allocOf p).setpoint < min pmin.toNat 63 then 0 else (s.allocOf p).setpoint) } else
      s.allocOf p)) →
      ∃ t : State, exec .setLimits s = .next t ∧
        t.feeder.pmin = min pmin.toNat 63 ∧
        t.feeder.ramp = max (min (max ramp.toNat 10) 400) (min pmin.toNat 63) ∧
        t.feeder.fallback = min fallback.toNat 4095 ∧
        t.feeder.tie = min tie.toNat 4095 ∧
        t.feeder.shed = s.feeder.shed ∧
        t.CeilingFormed ∧
        s.SettledTo w t ∧
        t.roundRequest = true ∧
        t.ports = ({ s with
                     ports := s.ports.enter (fun _ => false)
                       (decide (t.feeder.ceiling ≠ s.feeder.ceiling ∨ t.feeder.cause ≠ s.feeder.cause)) }.answer .f
          .ok (word t.feeder.ramp ++ word t.feeder.pmin ++ word t.feeder.fallback ++ word t.feeder.tie)).ports ∧
        (∀ p, ((s.allocOf p).setpoint = 0 ∨ s.feeder.pmin ≤ (s.allocOf p).setpoint) ∧
          ((s.allocOf p).target = 0 ∨ s.feeder.pmin ≤ (s.allocOf p).target) →
          ((t.allocOf p).setpoint = 0 ∨ t.feeder.pmin ≤ (t.allocOf p).setpoint) ∧
          ((t.allocOf p).target = 0 ∨ t.feeder.pmin ≤ (t.allocOf p).target)) ∧
        (∀ p, (t.allocOf p).rampBase = (s.allocOf p).rampBase ∧ (t.allocOf p).starvation = (s.allocOf p).starvation) ∧
        t.link = { s.link with
                   stopRequest := s.link.stopRequest ||
                     (decide (0 < s.feeder.ceiling) && decide (t.feeder.ceiling = 0)) } ∧
        t = { s with
              feeder := t.feeder, alloc := t.alloc, roundRequest := t.roundRequest, link := t.link, ports := t.ports }

/-- SET SLOT sets the slot number to n and the phase to 0, keeps the timer mode, clears every cell of the plan and
keeps window and pointer, forms the ceiling again with the fallback in the plan's place (a fall that curtails sets the
targets too, log entry 22), sets the round request and answers OK; it takes no boundary: shed, sessions, bind counts,
collections and starvation counts stay. (R96, R97 and R128; CurtailedTo says what a new ceiling does to the records,
with notes/assumptions/22.md for the targets.) -/
def Obligations.SetSlotTaken : Prop :=
  ∀ (n : Word16) (s : State),
    s.Ready → s.CeilingFormed → s.handedRequest .f = some (.setSlot n) →
      ∃ t : State, exec .setSlot s = .next t ∧
        t.timer = { s.timer with slot := n, phase := 0 } ∧
        (∀ line col, t.plan.cell line col = none) ∧
        t.plan.window = s.plan.window ∧
        t.CeilingFormed ∧
        t.feeder = { s.feeder with ceiling := t.feeder.ceiling, cause := t.feeder.cause } ∧
        s.CurtailedTo t ∧
        t.roundRequest = true ∧
        t.ports = ({ s with
                     ports := s.ports.enter (fun _ => false)
                       (decide (t.feeder.ceiling ≠ s.feeder.ceiling ∨ t.feeder.cause ≠ s.feeder.cause)) }.answer .f
          .ok []).ports ∧
        (∀ p, (t.allocOf p).rampBase = (s.allocOf p).rampBase ∧ (t.allocOf p).starvation = (s.allocOf p).starvation) ∧
        t.link = { s.link with
                   stopRequest := s.link.stopRequest ||
                     (decide (0 < s.feeder.ceiling) && decide (t.feeder.ceiling = 0)) } ∧
        t = { s with
              timer := t.timer, plan := t.plan, feeder := t.feeder, alloc := t.alloc, roundRequest := t.roundRequest,
              link := t.link, ports := t.ports }

/-- RAW_LEVEL_CHANGE changes the raw level alone. When FLD_ENABLE or a source line settles at a level other than the
one it counts as, FIELD enters every change set and the ceiling is formed again inside the slot (a fall that curtails
sets the targets too, log entry 22); at the level it counts as, nothing else happens. HEADROOM_GIVEN becoming active
in shared mode makes a raise release attempt, and else only its level is taken. SVC_KEY becoming inactive closes
service mode, and becoming active does nothing by itself. (R102 and R103 with each line's consumer; CurtailedTo says
what a new ceiling does to the records, with notes/assumptions/22.md for the targets.) -/
def Obligations.LinesSettle : Prop :=
  (∀ (line : Line) (level : Bool) (s : State),
    exec (.rawLevelChange line level) s = .next
      ({ s with lines := s.lines.set line { s.lines.get line with raw := level } })) ∧
  (∀ (s : State),
    s.Ready → s.CeilingFormed → (s.lines.get .fldEnable).raw ≠ s.level .fldEnable →
      ∃ t : State, exec .fldEnableChange s = .next t ∧
        t.lines = (s.takeLevel .fldEnable).lines ∧
        t.level .fldEnable = (s.lines.get .fldEnable).raw ∧
        t.feeder = { s.feeder with ceiling := t.feeder.ceiling, cause := t.feeder.cause } ∧
        t.ports = s.enterField.ports ∧
        t.CeilingFormed ∧
        s.CurtailedTo t ∧
        t.roundRequest =
          (s.roundRequest || decide (t.feeder.ceiling ≠ s.feeder.ceiling ∨ t.feeder.cause ≠ s.feeder.cause)) ∧
        t.link = { s.link with
                   stopRequest := s.link.stopRequest ||
                     (decide (0 < s.feeder.ceiling) && decide (t.feeder.ceiling = 0)) } ∧
        t = { s with
              lines := t.lines, feeder := t.feeder, alloc := t.alloc, roundRequest := t.roundRequest, link := t.link,
              ports := t.ports }) ∧
  (∀ (l : SourceLine) (s : State),
    s.Ready → s.CeilingFormed → (s.lines.get (lineOfSource l)).raw ≠ s.level (lineOfSource l) →
      ∃ t : State, exec (.sourceLineChange l) s = .next t ∧
        t.lines = (s.takeLevel (lineOfSource l)).lines ∧
        t.level (lineOfSource l) = (s.lines.get (lineOfSource l)).raw ∧
        t.feeder = { s.feeder with ceiling := t.feeder.ceiling, cause := t.feeder.cause } ∧
        t.ports = s.enterField.ports ∧
        t.CeilingFormed ∧
        s.CurtailedTo t ∧
        t.roundRequest =
          (s.roundRequest || decide (t.feeder.ceiling ≠ s.feeder.ceiling ∨ t.feeder.cause ≠ s.feeder.cause)) ∧
        t.link = { s.link with
                   stopRequest := s.link.stopRequest ||
                     (decide (0 < s.feeder.ceiling) && decide (t.feeder.ceiling = 0)) } ∧
        t = { s with
              lines := t.lines, feeder := t.feeder, alloc := t.alloc, roundRequest := t.roundRequest, link := t.link,
              ports := t.ports }) ∧
  (∀ (s : State),
    s.Ready → (s.lines.get .fldEnable).raw = s.level .fldEnable →
      exec .fldEnableChange s = .next (s.takeLevel .fldEnable)) ∧
  (∀ (l : SourceLine) (s : State),
    s.Ready → (s.lines.get (lineOfSource l)).raw = s.level (lineOfSource l) →
      exec (.sourceLineChange l) s = .next (s.takeLevel (lineOfSource l))) ∧
  (∀ (s : State),
    s.Ready → s.feederMode = .shared → s.level .headroomGiven = false → (s.lines.get .headroomGiven).raw = true →
      exec .headroomGivenChange s = .next ((s.takeLevel .headroomGiven).releaseAttempt)) ∧
  (∀ (s : State),
    s.Ready → (s.feederMode = .dedicated ∨ s.level .headroomGiven = true ∨ (s.lines.get .headroomGiven).raw = false) →
      exec .headroomGivenChange s = .next (s.takeLevel .headroomGiven)) ∧
  (∀ (s : State),
    s.Ready → s.level .svcKey = true → (s.lines.get .svcKey).raw = false → s.service ≠ .closed →
      exec .svcKeyChange s = .next ({ s.takeLevel .svcKey with service := .closed }.enterField)) ∧
  (∀ (s : State),
    s.Ready → (s.level .svcKey = false ∨ (s.lines.get .svcKey).raw = true ∨ s.service = .closed) →
      exec .svcKeyChange s = .next (s.takeLevel .svcKey))

/-- RUNNING at phase 3,599, SLOT_PHASE_RISE and SLOT_BOUNDARY are the same event: the slot number rises by 1 with
wrap, the phase is 0, the ended slot's column is unset and every other cell kept, a shed's boundaries to run fall by 1
and end it at 0, the ceiling is that of the new slot, each BINDING pad counts one slot or ends BIND_EXPIRED (log entry
15: with the new slot number), the pending round request is served, and pads move only between the two collections.
Its round: the ramp base of every session ACTIVE at the boundary becomes its setpoint, then admission, and each active
pad's target is its grant of that state (the passes of MidSlotRoundTaken), 0 off the list, its setpoint falling to a
lower target; the starvation count rises by 1 at target 0, is 0 at a target above 0 and stays while PAUSED; a session
not PAUSED whose count reaches 3 is idle again and back in the admission queue, in ascending pad number; raises may
then be released. Below 3,599 SLOT_PHASE_RISE adds 1, and HELD it changes nothing. SHED_EXPIRY, BIND_EXPIRY and
STARVATION_RETURN are that boundary when it ends the shed, ends a bind, or returns a session. (R90 and R91, with the
boundary round of R55, R63 and R66 (a grant is that of the passes stated in MidSlotRoundTaken).) -/
def Obligations.BoundaryTaken : Prop :=
  (∀ (s : State),
    s.Ready → s.MembershipLaw → s.timer.mode = .running → s.timer.phase = 3599 → (∀ p, (s.allocOf p).starvation ≤ 2) →
      ∃ t : State, exec .slotBoundary s = .next t ∧
        exec .slotPhaseRise s = .next t ∧
        t.timer = { s.timer with slot := s.timer.slot + 1, phase := 0 } ∧
        (∀ line col, t.plan.cell line col = (if col = columnOf s.timer.slot then none else s.plan.cell line col)) ∧
        t.plan.window = s.plan.window ∧
        t.feeder.shed = s.feeder.shed.bind
          (fun shed => if shed.toRun ≤ 1 then none else some { shed with toRun := shed.toRun - 1 }) ∧
        t.CeilingFormed ∧
        t.roundRequest = false ∧
        (∀ p, t.session p = (match (s.session p).body with
                              | .binding token tag terms e => if 5 ≤ e + 1 then
                                  { s.session p with
                                    body := .vacant, last := some ⟨.bindExpired, 0, tag, s.timer.slot + 1⟩ } else
                                  { s.session p with body := .binding token tag terms (e + 1) }
                              | _ => s.session p)) ∧
        (∀ p, p ∈ t.queue ∨ p ∈ t.active ↔ p ∈ s.queue ∨ p ∈ s.active) ∧
        (∀ p, p ∈ t.active → (t.allocOf p).target ≤ t.capOf p ∧ (t.allocOf p).starvation ≤ 2) ∧
        t.ports = s.ports.enter (fun p => (s.session p).body.elapsed.any fun e => decide (5 ≤ e + 1))
          (decide (t.feeder.ceiling ≠ s.feeder.ceiling ∨ t.feeder.cause ≠ s.feeder.cause) || s.feeder.shed.any fun
          shed => decide (shed.toRun ≤ 1)) ∧
        t.link = { s.link with
                   stopRequest := s.link.stopRequest ||
                     (decide (0 < s.feeder.ceiling) && decide (t.feeder.ceiling = 0)) } ∧
        t = { s with
              timer := t.timer, plan := t.plan, feeder := t.feeder, sessions := t.sessions, alloc := t.alloc,
              queue := t.queue, active := t.active, roundRequest := t.roundRequest, link := t.link, ports := t.ports }) ∧
  (∀ (s : State),
    s.Ready → s.timer.mode = .running → s.timer.phase < 3599 →
      exec .slotPhaseRise s = .next ({ s with timer := { s.timer with phase := s.timer.phase + 1 } })) ∧
  (∀ (s : State),
    s.Ready → s.timer.mode = .held →
      exec .slotPhaseRise s = .next s) ∧
  (∀ (shed : Shed) (s : State),
    s.Ready → s.MembershipLaw → s.timer.mode = .running → s.timer.phase = 3599 → s.feeder.shed = some shed →
    shed.toRun ≤ 1 →
      ∃ t : State, exec .shedExpiry s = .next t ∧
        exec .slotBoundary s = .next t ∧
        t.feeder.shed = none ∧
        t.ports.d.changes.field = true ∧ t.ports.f.changes.field = true ∧ t.ports.s.changes.field = true) ∧
  (∀ (p : Pad) (token tag e : Nat) (terms : Terms) (s : State),
    s.Ready → s.MembershipLaw → s.timer.mode = .running → s.timer.phase = 3599 →
    (s.session p).body = .binding token tag terms e → 4 ≤ e →
      ∃ t : State, exec .bindExpiry s = .next t ∧
        exec .slotBoundary s = .next t ∧
        (t.session p).body = .vacant ∧
        (t.session p).last = some ⟨.bindExpired, 0, tag, s.timer.slot + 1⟩ ∧
        t.ports.d.changes.pads.get p = true ∧ t.ports.f.changes.pads.get p = true ∧ t.ports.s.changes.pads.get p =
          true) ∧
  (∀ (p : Pad) (s : State),
    s.Ready → s.MembershipLaw → s.timer.mode = .running → s.timer.phase = 3599 →
    p ∈ (s.boundaryStages.roundTargets true).active → ((s.boundaryStages.roundTargets true).allocOf p).target = 0 →
    ((s.boundaryStages.roundTargets true).allocOf p).paused = false →
    2 ≤ ((s.boundaryStages.roundTargets true).allocOf p).starvation →
      ∃ t : State, exec .starvationReturn s = .next t ∧
        exec .slotBoundary s = .next t ∧
        p ∈ t.queue ∧
        p ∉ t.active ∧
        (t.allocOf p).setpoint = 0 ∧
        (t.allocOf p).starvation = 0 ∧
        (t.allocOf p).rampBase = 0) ∧
  (∀ (a b s : State) (grant count : Pad → Nat),
    s.Ready → s.MembershipLaw → s.timer.mode = .running → s.timer.phase = 3599 → s.IdleOffList →
    b = { s.boundaryStages with roundRequest := false, alloc := b.alloc } →
    (∀ p, b.allocOf p =
      (if p ∈ s.active then { s.allocOf p with rampBase := (s.allocOf p).setpoint } else s.allocOf p)) →
    a = b.admission b.budget → (∀ p, grant p = grantOf (a.grants b.budget) p) →
    (∀ p, count p = (if (a.allocOf p).paused then (a.allocOf p).starvation else if grant p = 0 then
      (a.allocOf p).starvation + 1 else 0)) →
      ∃ t : State, exec .slotBoundary s = .next t ∧
        b.timer = t.timer ∧ b.plan = t.plan ∧ b.feeder = t.feeder ∧ b.sessions = t.sessions ∧
        (∀ p, a.allocOf p = b.allocOf p ∨ (a.allocOf p =
          { b.allocOf p with target := 0, setpoint := 0, rampBase := 0, starvation := 0, paused := false } ∧ p ∈
          s.active ∧ s.classOf p ≠ 0 ∧ ∃ c, c ∈ s.queue ∧ c ∈ a.active ∧ s.classOf c = 0)) ∧
        (∀ p, p ∈ a.active → ¬ ((a.allocOf p).paused = false ∧ 3 ≤ count p) → p ∈ t.active ∧ AllocRec.Released
          { a.allocOf p with
            target := grant p, setpoint := min (a.allocOf p).setpoint (grant p), starvation := count p } (t.allocOf p))
          ∧
        (∀ p, p ∈ a.active → (a.allocOf p).paused = false ∧ 3 ≤ count p → p ∉ t.active ∧ t.allocOf p =
          { a.allocOf p with target := 0, setpoint := 0, rampBase := 0, starvation := 0, paused := false }) ∧
        (∀ p, p ∉ a.active → p ∉ t.active ∧ t.allocOf p = { a.allocOf p with target := 0 }) ∧
        t.active = a.active.filter (fun p => decide (¬ ((a.allocOf p).paused = false ∧ 3 ≤ count p))) ∧
        t.queue = ((a.activePads.filter fun p => decide ((a.allocOf p).paused = false ∧ 3 ≤ count p)).foldl
          State.insertQueue a).queue ∧
        sumOver padList (fun p => (t.allocOf p).target) ≤ b.budget)

/-- SLOT_ALIGN becoming active while RUNNING holds the timer at phase 0: at phase 1,800 or more with a boundary (the
slot number rises by 1, and plan, shed, binds, round and ceiling as at any boundary), below it with no boundary and
nothing else changed. Its release makes the timer run from phase 0 and changes nothing else. A settling that does not
change the counted level that way changes nothing but, for a first inactive level, the taken level. (R92 to R94.) -/
def Obligations.AlignTaken : Prop :=
  (∀ (s : State),
    s.Ready → s.MembershipLaw → s.level .slotAlign = false → (s.lines.get .slotAlign).raw = true →
    s.timer.mode = .running → 1800 ≤ s.timer.phase →
      ∃ t : State, exec .slotAlignActive s = .next t ∧
        t.timer = ⟨s.timer.slot + 1, 0, .held⟩ ∧
        t.lines = (s.takeLevel .slotAlign).lines ∧
        exec .slotBoundary { s.takeLevel .slotAlign with timer := ⟨s.timer.slot, 3599, .running⟩ } = .next
          { t with timer := ⟨s.timer.slot + 1, 0, .running⟩ }) ∧
  (∀ (s : State),
    s.Ready → s.level .slotAlign = false → (s.lines.get .slotAlign).raw = true → s.timer.mode = .running →
    s.timer.phase < 1800 →
      exec .slotAlignActive s = .next ({ s.takeLevel .slotAlign with timer := ⟨s.timer.slot, 0, .held⟩ })) ∧
  (∀ (s : State),
    s.Ready → s.level .slotAlign = true → (s.lines.get .slotAlign).raw = false →
      exec .slotAlignRelease s = .next ({ s.takeLevel .slotAlign with timer := ⟨s.timer.slot, 0, .running⟩ })) ∧
  (∀ (s : State),
    s.Ready → (s.level .slotAlign = true ∨ (s.lines.get .slotAlign).raw = false) →
      exec .slotAlignActive s = .next s) ∧
  (∀ (s : State),
    s.Ready → s.level .slotAlign = false → (s.lines.get .slotAlign).raw = false →
      exec .slotAlignRelease s = .next (s.takeLevel .slotAlign))

/-- In CLOSED, OPEN SERVICE is answered STATE while SVC_KEY is inactive, else MISMATCH for another field number, else
makes the state OPENING and is answered OK with step 1. In OPENING, CONFIRM SERVICE with FIELD_ID makes it OPEN with
step 2, with another number closes it with MISMATCH. CLOSE SERVICE in any state closes it with OK, and OPEN_EXPIRY
closes an OPENING and does nothing else otherwise. Each change puts FIELD into every change set; nothing else changes.
(R155 and R156.) -/
def Obligations.ServiceModeTaken : Prop :=
  (∀ (field : Byte) (s : State),
    s.Ready → s.service = .closed → s.handedRequest .s = some (.openService field) → s.level .svcKey = false →
      exec .openService s = .next (s.answer .s .state [])) ∧
  (∀ (field : Byte) (s : State),
    s.Ready → s.service = .closed → s.handedRequest .s = some (.openService field) → s.level .svcKey = true →
    field ≠ s.fieldId →
      exec .openService s = .next (s.answer .s .mismatch [])) ∧
  (∀ (s : State),
    s.Ready → s.service = .closed → s.handedRequest .s = some (.openService s.fieldId) → s.level .svcKey = true →
      exec .openService s = .next ({ s with service := .opening }.enterField.answer .s .ok [0x01#8])) ∧
  (∀ (s : State),
    s.Ready → s.service = .opening → s.handedRequest .s = some (.confirmService s.fieldId) →
      exec .confirmService s = .next ({ s with service := .opened }.enterField.answer .s .ok [0x02#8])) ∧
  (∀ (field : Byte) (s : State),
    s.Ready → s.service = .opening → s.handedRequest .s = some (.confirmService field) → field ≠ s.fieldId →
      exec .confirmService s = .next ({ s with service := .closed }.enterField.answer .s .mismatch [])) ∧
  (∀ (s : State),
    s.Ready → s.service ≠ .closed → s.handedRequest .s = some .closeService →
      exec .closeService s = .next ({ s with service := .closed }.enterField.answer .s .ok [])) ∧
  (∀ (s : State),
    s.Ready → s.service = .closed → s.handedRequest .s = some .closeService →
      exec .closeService s = .next (s.answer .s .ok [])) ∧
  (∀ (s : State),
    s.Ready → s.service = .opening →
      exec .openExpiry s = .next ({ s with service := .closed }.enterField)) ∧
  (∀ (s : State),
    s.Ready → s.service ≠ .opening →
      exec .openExpiry s = .next s)

/-- Taken in CLOSED and OPEN with base and mask at most 31: every pad whose number agrees with the base in each
unmasked digit becomes LOCKED with its flag set, an open session on it ending LOCKOUT; it is off both collections with
setpoint, target, ramp base and counts 0, with a round request when it was ACTIVE; its fault record is kept. The
writes of the newly LOCKED pads' flags are queued in ascending pad number, and these pads enter every change set.
Unmatched pads keep session and records, but for a raise that the event releases. The answer is OK with the set of all
matched pads, made at once when no pad was newly LOCKED, else held for the newly LOCKED pads' writes, each begun after
the change. Nothing else changes. A base or mask above 31 is answered RANGE and changes nothing. (R157 and R24.) -/
def Obligations.LockPadsTaken : Prop :=
  (∀ (base mask code tag : Byte) (news : List Pad) (s : State),
    s.Ready → s.MembershipLaw → s.HeldStatesLaw → s.IdleOffList → s.service ≠ .opening →
    s.ports.s.pending = some ⟨code, tag, .handed (.lockPads base mask)⟩ → base.toNat ≤ 31 → mask.toNat ≤ 31 →
    news = padList.filter (fun p => selects base mask p && decide (s.padState p ≠ .locked)) →
      ∃ t : State, exec .lockPads s = .next t ∧
        (∀ p : Pad, selects base mask p = true ↔
          (∀ k : Fin 5, mask.getLsbD k.val = true ∨ p.val.testBit k.val = base.getLsbD k.val)) ∧
        (∀ p : Pad, selects base mask p = true → t.session p =
          { s.session p with body := .locked, last := (t.session p).last } ∧
          ((s.session p).body.terms.isSome = true → (t.session p).last = some
          ⟨.lockout, ((s.session p).body.meter.map (·.delivered)).getD 0, (s.session p).body.tag.getD 0, s.timer.slot⟩)
          ∧ ((s.session p).body.terms = none → (t.session p).last = (s.session p).last)) ∧
        (∀ p : Pad, selects base mask p = true → t.allocOf p =
          { s.allocOf p with target := 0, setpoint := 0, rampBase := 0, starvation := 0, paused := false }) ∧
        t.queue = s.queue.filter (fun p => !selects base mask p) ∧
        t.active = s.active.filter (fun p => !selects base mask p) ∧
        t.roundRequest = (s.roundRequest || s.active.any (selects base mask)) ∧
        (∀ p : Pad, selects base mask p = false → t.session p = s.session p ∧ (s.allocOf p).Released (t.allocOf p)) ∧
        t.store.image = { s.store.image with lockout := .tabulate fun p => s.lockout p || selects base mask p } ∧
        s.store.Queued t.store (news.map fun p => ⟨.lockout, p⟩) ∧
        (news = [] → t.ports = (s.answer .s .ok (padSetBytes (selects base mask))).ports) ∧
        (news ≠ [] → t.ports = ((s.enterPads fun p => decide (p ∈ news)).setPort .s
          { (s.enterPads fun p => decide (p ∈ news)).port .s with
            pending := some ⟨code, tag, .held (news.map fun p =>
              (⟨⟨.lockout, p⟩, decide (s.store.writing.map (·.id) = some ⟨.lockout, p⟩)⟩ : StoreWait)) .ok
              (padSetBytes (selects base mask))⟩ }).ports) ∧
        t = { s with
              sessions := t.sessions, alloc := t.alloc, queue := t.queue, active := t.active,
              roundRequest := t.roundRequest, store := t.store, ports := t.ports }) ∧
  (∀ (base mask : Byte) (s : State),
    s.Ready → s.service ≠ .opening → s.handedRequest .s = some (.lockPads base mask) →
    (31 < base.toNat ∨ 31 < mask.toNat) →
      exec .lockPads s = .next (s.answer .s .range []))

/-- In OPEN: UNLOCK PADS clears flag and record of every matched LOCKED pad, which becomes OFFLINE on a LOST link and
VACANT otherwise, and is answered OK with the set of these pads; CLEAR FAULT clears the record of a FAULTED pad, which
becomes OFFLINE or VACANT, and is answered OK with the pad, or STATE in another state; SET RATING sets the rating of a
LOCKED pad to at most 400 and is answered OK with the pad and the rating, at once when unchanged, or STATE in another
state. Each changed record's write is queued, by pad and then flag before fault record, and the OK is held for exactly
those writes, begun after the change, or made at once when there are none. The unlocked or cleared pads enter the
change sets. In CLOSED and OPEN, READ FAULT answers the 11 bytes of its table. A pad above 23, or a base or mask above
31, is answered RANGE. Nothing else changes, but for raises that a changed rating's exposure releases. (R158 to R161.)
-/
def Obligations.ServiceRequestsTaken : Prop :=
  (∀ (base mask code tag : Byte) (free : List Pad) (ids : List RecordId) (s : State),
    s.Ready → s.service = .opened → s.ports.s.pending = some ⟨code, tag, .handed (.unlockPads base mask)⟩ →
    base.toNat ≤ 31 → mask.toNat ≤ 31 →
    free = padList.filter (fun p => selects base mask p && decide (s.padState p = .locked)) →
    ids = free.flatMap (fun p => (⟨.lockout, p⟩ : RecordId) :: if (s.faultOf p).isSome then [⟨.fault, p⟩] else []) →
      ∃ t : State, exec .unlockPads s = .next t ∧
        (∀ p : Pad, t.session p = (if p ∈ free then
          { s.session p with body := if (s.linkOf p).state = .lost then .offline else .vacant } else s.session p)) ∧
        t.store.image = { s.store.image with
                          lockout := .tabulate (fun p => s.lockout p && !decide (p ∈ free)),
                          fault := .tabulate (fun p => if p ∈ free then none else s.faultOf p) } ∧
        s.store.Queued t.store ids ∧
        (free = [] → t.ports = (s.answer .s .ok [0x00#8, 0x00#8, 0x00#8]).ports) ∧
        (free ≠ [] → t.ports = ((s.enterPads fun p => decide (p ∈ free)).setPort .s
          { (s.enterPads fun p => decide (p ∈ free)).port .s with
            pending := some ⟨code, tag, .held
              (ids.map fun id => (⟨id, decide (s.store.writing.map (·.id) = some id)⟩ : StoreWait)) .ok
              (padSetBytes fun p => decide (p ∈ free))⟩ }).ports) ∧
        t = { s with sessions := t.sessions, store := t.store, ports := t.ports }) ∧
  (∀ (pad code tag : Byte) (p : Pad) (s : State),
    s.Ready → s.HeldStatesLaw → s.service = .opened →
    s.ports.s.pending = some ⟨code, tag, .handed (.clearFault pad)⟩ → pad.toNat = p.val → s.padState p = .faulted →
      ∃ t : State, exec .clearFault s = .next t ∧
        t.sessions = s.sessions.set p
          { s.session p with body := if (s.linkOf p).state = .lost then .offline else .vacant } ∧
        t.store.image = { s.store.image with fault := s.store.image.fault.set p none } ∧
        s.store.Queued t.store [⟨.fault, p⟩] ∧
        t.ports = ((s.enterPad p).setPort .s { (s.enterPad p).port .s with
                                               pending := some
                                                 ⟨code, tag, .held
                                                 [⟨⟨.fault, p⟩, decide (s.store.writing.map (·.id) = some ⟨.fault, p⟩)⟩]
                                                 .ok (padSetBytes fun q => decide (q = p))⟩ }).ports ∧
        t = { s with sessions := t.sessions, store := t.store, ports := t.ports }) ∧
  (∀ (pad : Byte) (p : Pad) (s : State),
    s.Ready → s.service = .opened → s.handedRequest .s = some (.clearFault pad) → pad.toNat = p.val →
    s.padState p ≠ .faulted →
      exec .clearFault s = .next (s.answer .s .state [])) ∧
  (∀ (pad code tag : Byte) (rating : Word16) (p : Pad) (s : State),
    s.Ready → s.service = .opened → s.ports.s.pending = some ⟨code, tag, .handed (.setRating pad rating)⟩ →
    pad.toNat = p.val → s.padState p = .locked → min rating.toNat 400 ≠ s.rating p →
      ∃ t : State, exec .setRating s = .next t ∧
        t.store.image = { s.store.image with rating := s.store.image.rating.set p (min rating.toNat 400) } ∧
        s.store.Queued t.store [⟨.rating, p⟩] ∧
        t.ports = (s.setPort .s { s.port .s with
                                  pending := some ⟨code, tag, .held
                                    [⟨⟨.rating, p⟩, decide (s.store.writing.map (·.id) = some ⟨.rating, p⟩)⟩] .ok
                                    (padSetBytes (fun q => decide (q = p)) ++ word (min rating.toNat 400))⟩ }).ports ∧
        (∀ q, (s.allocOf q).Released (t.allocOf q)) ∧
        t = { s with store := t.store, alloc := t.alloc, ports := t.ports }) ∧
  (∀ (pad : Byte) (rating : Word16) (p : Pad) (s : State),
    s.Ready → s.service = .opened → s.handedRequest .s = some (.setRating pad rating) → pad.toNat = p.val →
    s.padState p = .locked → min rating.toNat 400 = s.rating p →
      exec .setRating s = .next
        (s.answer .s .ok (padSetBytes (fun q => decide (q = p)) ++ word (min rating.toNat 400)))) ∧
  (∀ (pad : Byte) (rating : Word16) (p : Pad) (s : State),
    s.Ready → s.service = .opened → s.handedRequest .s = some (.setRating pad rating) → pad.toNat = p.val →
    s.padState p ≠ .locked →
      exec .setRating s = .next (s.answer .s .state [])) ∧
  (∀ (pad : Byte) (p : Pad) (s : State),
    s.Ready → s.service ≠ .opening → s.handedRequest .s = some (.readFault pad) → pad.toNat = p.val →
      exec .readFault s = .next (s.answer .s .ok (s.faultBody p))) ∧
  (∀ (p : Pad) (s : State),
    (s.faultBody p).length = 11 ∧
    (s.faultBody p)[0]? = some (byte p.val) ∧
    (∀ flags ∈ (s.faultBody p)[1]?, flags.getLsbD 0 = (s.faultOf p).isSome ∧ flags.getLsbD 1 =
      ((s.faultOf p).bind (·.tag)).isSome ∧ flags.getLsbD 2 = s.lockout p ∧ flags.getLsbD 3 = s.store.writePending
      ⟨.fault, p⟩ ∧ flags.getLsbD 4 = s.store.writePending ⟨.lockout, p⟩ ∧ flags.getLsbD 5 = s.store.writePending
      ⟨.rating, p⟩ ∧ flags.getLsbD 6 = false ∧ flags.getLsbD 7 = false) ∧
    ((s.faultBody p).drop 2).take 2 = (match s.faultOf p with
                                        | none => [0x00#8, 0x00#8]
                                        | some f => [(match f.cause with
                                                       | .chargerHard => 0x01#8
                                                       | .softPersist => 0x02#8
                                                       | .noncompliant => 0x03#8
                                                       | .tagChange => 0x04#8), byte (f.code.getD 0)]) ∧
    (s.faultBody p).drop 4 = (match s.faultOf p with
                               | none => [0x00#8, 0x00#8, 0x00#8, 0x00#8, 0x00#8]
                               | some f => word f.slot.toNat ++ word (f.tag.getD 0) ++ [byte f.repeats]) ++ word
      (s.rating p)) ∧
  (∀ (st : Store) (id : RecordId),
    (st.writePending id = true ↔ id ∈ st.writes ∨ st.writing.map (·.id) = some id)) ∧
  (∀ (pad : Byte) (s : State),
    s.Ready → s.service ≠ .opening → s.handedRequest .s = some (.readFault pad) → 24 ≤ pad.toNat →
      exec .readFault s = .next (s.answer .s .range [])) ∧
  (∀ (r : Request) (pad base mask : Byte) (rating : Word16) (s : State),
    s.Ready → s.service = .opened → s.handedRequest .s = some r →
    r ∈ [.clearFault pad, .setRating pad rating, .readFault pad, .unlockPads base mask] → 24 ≤ pad.toNat →
    (31 < base.toNat ∨ 31 < mask.toNat) →
      exec (r.row .s) s = .next (s.answer .s .range []))

/-- STORE_WRITE_COMPLETE with a write in progress: the cells hold the content the write took and are otherwise as they
were; the image stays; the head of the queue, if any, leaves it and is in progress with its record's content from the
image. An S-port answer held for that write alone is then made; one that waits for another write, or for a later write
of the same record, stays held for what remains. Without a held answer the ports are unchanged. Nothing else changes.
Without a write in progress it changes nothing, as that event cannot then occur (the model's choice, log entry 5). A
change of a record puts its entry at the tail of the write queue, also while the record's own write is in progress, or
merges into the entry already queued, and leaves the write in progress and the cells. (R163 and R164; the clause
without a write is notes/assumptions/5.md.) -/
def Obligations.StoreWriteCompletes : Prop :=
  (∀ (w : Writing) (s : State),
    s.Ready → s.store.writing = some w →
      ∃ t : State, exec .storeWriteComplete s = .next t ∧
        t.store.cells = s.store.cells.put w.id.pad w.content ∧
        t.store.image = s.store.image ∧
        t.store.writes = s.store.writes.tail ∧
        t.store.writing = s.store.writes.head?.map (fun id => ⟨id, s.store.image.content id⟩) ∧
        t.ports.d = s.ports.d ∧
        t.ports.f = s.ports.f ∧
        t.ports.s = { s.ports.s with pending := t.ports.s.pending, tx := t.ports.s.tx } ∧
        ((s.ports.s.pending.map (·.stage.isHeld)).getD false = false → t.ports = s.ports) ∧
        t = { s with store := t.store, ports := t.ports }) ∧
  (∀ (w : Writing) (code tag : Byte) (status : Status) (body : List Byte) (s : State),
    s.Ready → s.store.writing = some w → s.ports.s.pending = some ⟨code, tag, .held [⟨w.id, false⟩] status body⟩ →
      ∃ t : State, exec .storeWriteComplete s = .next t ∧
        t.ports = (s.answer .s status body).ports) ∧
  (∀ (w : Writing) (waits : List StoreWait) (code tag : Byte) (status : Status) (body : List Byte) (s : State),
    s.Ready → s.store.writing = some w → s.ports.s.pending = some ⟨code, tag, .held waits status body⟩ →
    (∃ x ∈ waits, x.id ≠ w.id ∨ x.skip = true) →
      ∃ t : State, exec .storeWriteComplete s = .next t ∧
        t.ports = (s.setPort .s { s.ports.s with
                                  pending := some ⟨code, tag, .held
                                    ((waits.filter fun x => decide (x.id ≠ w.id) || x.skip).map fun x => if x.id =
                                    w.id then { x with skip := false } else x) status body⟩ }).ports) ∧
  (∀ (st : Store) (pad : Pad) (c : Content),
    (st.change pad c).image = st.image.put pad c ∧
    (st.change pad c).image.content ⟨c.kind, pad⟩ = c ∧
    (∀ id : RecordId, id ≠ ⟨c.kind, pad⟩ → (st.change pad c).image.content id = st.image.content id) ∧
    (st.change pad c).writes = (if ⟨c.kind, pad⟩ ∈ st.writes then st.writes else st.writes ++ [⟨c.kind, pad⟩]) ∧
    (st.change pad c).writing = st.writing ∧ (st.change pad c).cells = st.cells) ∧
  (∀ (s : State),
    s.Ready → s.store.writing = none →
      exec .storeWriteComplete s = .next s)

/-- DEVICE_RESET: the image is loaded from the cells, which hold for a record whose write was in progress its whole
new or whole old content and are otherwise as they were; each pad is LOCKED if its flag is set, else FAULTED if
latched, else VACANT, with token 0 and no outcome; collections empty, exposure modes START, setpoints 0, slot 0 phase
0 RUNNING, R 100, P_min 10, ceiling 0 DISABLED, plan unset, links UNKNOWN, STOP requested, service CLOSED, ports IDLE
with full change sets; the straps are latched. POWER_LOSS cuts the write the same way and drops the queue. Which
content a cut write leaves is free (log entry 4): the statement holds for either. Not the rules' but the model's: the
raw levels stay (log entry 1), targets are 0 and no report is in transit (3), the power flag (17), the kept outputs
are empty (20), the break flag is cleared (24), the reply window is empty (31). (R27 and the other reset rules, with
R165; notes/assumptions/1.md, 3.md, 4.md, 17.md, 20.md, 24.md and 31.md for what no rule states.) -/
def Obligations.ResetAndPowerLoss : Prop :=
  (∀ (strap : Bool) (field : Byte) (s : State),
    ∃ t : State, exec (.deviceReset strap field) s = .next t ∧
      t.store.image = t.store.cells ∧
      t.store.writes = [] ∧ t.store.writing = none ∧
      (t.store.cells = s.store.cells ∨ ∃ w, s.store.writing = some w ∧ t.store.cells = s.store.cells.put w.id.pad
        w.content) ∧
      (∀ p, t.session p =
        ⟨if t.lockout p then .locked else if (t.faultOf p).isSome then .faulted else .vacant, 0, none⟩) ∧
      (∀ p, t.allocOf p = ⟨0, 0, 0, .start, 0, none, 0, 0, false⟩ ∧ t.exposure p = t.rating p ∧ t.linkOf p =
        ⟨.unknown, 0, none⟩) ∧
      t.queue = [] ∧ t.active = [] ∧ t.roundRequest = false ∧ t.handed = [] ∧
      t.timer = ⟨0#16, 0, .running⟩ ∧ (∀ line col, t.plan.cell line col = none) ∧ t.plan.window =
        ⟨0, 24, 0, 15, .lineFirst, 0, 0⟩ ∧
      t.feeder = ⟨none, 100, 10, 0, 0, 0, .disabled⟩ ∧ t.feederMode = (if strap then .shared else .dedicated) ∧
        t.fieldId = field ∧
      (∀ line, (t.lines.get line).taken = none ∧ (t.lines.get line).raw = (s.lines.get line).raw) ∧
      t.link = ⟨true, 0, none, [], []⟩ ∧ t.service = .closed ∧ t.powered = true ∧
      (∀ port, t.port port = ⟨none, false, none, [], none, ⟨.fill 24 true, true⟩⟩ ∧ t.attn port = true)) ∧
  (∀ (s : State),
    s.powered = true →
      ∃ t : State, exec .powerLoss s = .next t ∧
        t.powered = false ∧
        t.store.writes = [] ∧ t.store.writing = none ∧
        (t.store.cells = s.store.cells ∨ ∃ w, s.store.writing = some w ∧ t.store.cells = s.store.cells.put w.id.pad
          w.content))
end

