-- ==== Sys2Proof/Laws/Collections.lean ====
section
/-! SUPPORT. The ordered collections and the sums over pads: insertion, class order, and how a sum splits and compares. -/

namespace Sys2Proof.Machine

/-! ## Insertion (R29) -/

theorem insertBefore_perm (after : Pad → Bool) (p : Pad) (l : List Pad) : (insertBefore after p l).Perm (p :: l) := by
  induction l with
  | nil => exact .refl _
  | cons q rest ih =>
    rw [insertBefore]
    split
    · exact .refl _
    · exact (ih.cons q).trans (.swap p q rest)

@[simp] theorem mem_insertBefore {after : Pad → Bool} {p q : Pad} {l : List Pad} :
    q ∈ insertBefore after p l ↔ q = p ∨ q ∈ l := by
  rw [(insertBefore_perm after p l).mem_iff, List.mem_cons]

theorem insertBefore_nodup {after : Pad → Bool} {p : Pad} {l : List Pad} (h : l.Nodup) (hp : p ∉ l) :
    (insertBefore after p l).Nodup :=
  (insertBefore_perm after p l).nodup_iff.mpr (List.nodup_cons.mpr ⟨hp, h⟩)

@[simp] theorem length_insertBefore (after : Pad → Bool) (p : Pad) (l : List Pad) :
    (insertBefore after p l).length = l.length + 1 :=
  (insertBefore_perm after p l).length_eq

/-- Insertion keeps an order when the entry goes before the first one that must stand after it: what stands before it is
not above it, and what stands after it is not below it. -/
theorem insertBefore_pairwise {r : Pad → Pad → Prop} {after : Pad → Bool} {p : Pad} {l : List Pad}
    (hl : l.Pairwise r) (hbefore : ∀ q ∈ l, after q = false → r q p)
    (hafter : ∀ q ∈ l, after q = true → r p q ∧ ∀ x, r q x → r p x) : (insertBefore after p l).Pairwise r := by
  induction l with
  | nil => exact List.pairwise_singleton _ _
  | cons q rest ih =>
    obtain ⟨hq, hrest⟩ := List.pairwise_cons.mp hl
    rw [insertBefore]
    split
    · rename_i h
      obtain ⟨hpq, htrans⟩ := hafter q List.mem_cons_self h
      refine List.pairwise_cons.mpr ⟨fun x hx => ?_, hl⟩
      obtain rfl | hx := List.mem_cons.mp hx
      · exact hpq
      · exact htrans x (hq x hx)
    · rename_i h
      refine List.pairwise_cons.mpr ⟨fun x hx => ?_, ih hrest (fun x hx => hbefore x (.tail _ hx))
        (fun x hx => hafter x (.tail _ hx))⟩
      obtain rfl | hx := mem_insertBefore.mp hx
      · exact hbefore q List.mem_cons_self (by simpa using h)
      · exact hq x hx

/-! ## Lists of pads by class and pad number -/

@[simp] theorem State.mem_activePads {s : State} {p : Pad} : p ∈ s.activePads ↔ p ∈ s.active := by
  simp [State.activePads]

theorem State.activePads_nodup (s : State) : s.activePads.Nodup := padList_nodup.filter _

@[simp] theorem State.mem_byClass {s : State} {pads : List Pad} {p : Pad} : p ∈ s.byClass pads ↔ p ∈ pads := by
  simp [State.byClass]

/-! ## Sums over pads -/

@[simp] theorem sumOver_nil (f : Pad → Nat) : sumOver [] f = 0 := rfl

@[simp] theorem sumOver_cons (p : Pad) (l : List Pad) (f : Pad → Nat) : sumOver (p :: l) f = f p + sumOver l f := by
  simp [sumOver]

theorem sumOver_congr {l : List Pad} {f g : Pad → Nat} (h : ∀ p ∈ l, f p = g p) : sumOver l f = sumOver l g := by
  rw [sumOver, sumOver, List.map_congr_left h]

theorem sumOver_le_sumOver {l : List Pad} {f g : Pad → Nat} (h : ∀ p ∈ l, f p ≤ g p) : sumOver l f ≤ sumOver l g := by
  induction l with
  | nil => exact Nat.le_refl 0
  | cons p rest ih =>
    have := h p List.mem_cons_self
    have := ih fun q hq => h q (.tail _ hq)
    simp only [sumOver_cons]; omega

/-- A sum over the pads splits into those of which something holds and the others. -/
theorem sumOver_filter_add (l : List Pad) (has : Pad → Bool) (f : Pad → Nat) :
    sumOver (l.filter has) f + sumOver (l.filter fun p => !has p) f = sumOver l f := by
  induction l with
  | nil => rfl
  | cons p rest ih =>
    cases h : has p <;> simp [h] <;> omega

/-- A quantity of one pad is within the sum. -/
theorem le_sumOver {l : List Pad} {p : Pad} (h : p ∈ l) (f : Pad → Nat) : f p ≤ sumOver l f := by
  induction l with
  | nil => cases h
  | cons q rest ih =>
    rw [sumOver_cons]
    obtain rfl | h := List.mem_cons.mp h
    · omega
    · have := ih h; omega

/-- The exposures of all pads are those of one pad and of the other 23 (R79). -/
theorem State.exposure_add_othersExposure (s : State) (p : Pad) :
    s.exposure p + s.othersExposure p = sumOver padList s.exposure := by
  have h1 : padList.filter (fun q => decide (q = p)) = [p] := by
    rw [show (fun q => decide (q = p)) = (· == p) from rfl, List.filter_beq,
      List.count_eq_one_of_mem padList_nodup (mem_padList p)]
    rfl
  have h2 := sumOver_filter_add padList (fun q => decide (q = p)) s.exposure
  rw [h1] at h2
  simpa [State.othersExposure] using h2

end Sys2Proof.Machine
end

