-- ==== Sys2Proof/Laws/State.lean ====
section
/-! SUPPORT. What each named update of State leaves in each field, one lemma per field per update, true by `rfl`. -/

namespace Sys2Proof.Machine

variable (s : State)

/-! ### `State.setPort` -/

@[simp] theorem State.setPort_pending (port : Port) (r : PortRec) : (s.setPort port r).pending = s.pending := rfl
@[simp] theorem State.setPort_powered (port : Port) (r : PortRec) : (s.setPort port r).powered = s.powered := rfl
@[simp] theorem State.setPort_sessions (port : Port) (r : PortRec) : (s.setPort port r).sessions = s.sessions := rfl
@[simp] theorem State.setPort_alloc (port : Port) (r : PortRec) : (s.setPort port r).alloc = s.alloc := rfl
@[simp] theorem State.setPort_queue (port : Port) (r : PortRec) : (s.setPort port r).queue = s.queue := rfl
@[simp] theorem State.setPort_active (port : Port) (r : PortRec) : (s.setPort port r).active = s.active := rfl
@[simp] theorem State.setPort_roundRequest (port : Port) (r : PortRec) :
    (s.setPort port r).roundRequest = s.roundRequest := rfl
@[simp] theorem State.setPort_lines (port : Port) (r : PortRec) : (s.setPort port r).lines = s.lines := rfl
@[simp] theorem State.setPort_feeder (port : Port) (r : PortRec) : (s.setPort port r).feeder = s.feeder := rfl
@[simp] theorem State.setPort_feederMode (port : Port) (r : PortRec) :
    (s.setPort port r).feederMode = s.feederMode := rfl
@[simp] theorem State.setPort_fieldId (port : Port) (r : PortRec) : (s.setPort port r).fieldId = s.fieldId := rfl
@[simp] theorem State.setPort_timer (port : Port) (r : PortRec) : (s.setPort port r).timer = s.timer := rfl
@[simp] theorem State.setPort_plan (port : Port) (r : PortRec) : (s.setPort port r).plan = s.plan := rfl
@[simp] theorem State.setPort_links (port : Port) (r : PortRec) : (s.setPort port r).links = s.links := rfl
@[simp] theorem State.setPort_link (port : Port) (r : PortRec) : (s.setPort port r).link = s.link := rfl
@[simp] theorem State.setPort_handed (port : Port) (r : PortRec) : (s.setPort port r).handed = s.handed := rfl
@[simp] theorem State.setPort_service (port : Port) (r : PortRec) : (s.setPort port r).service = s.service := rfl
@[simp] theorem State.setPort_store (port : Port) (r : PortRec) : (s.setPort port r).store = s.store := rfl
@[simp] theorem State.setPort_ports (port : Port) (r : PortRec) : (s.setPort port r).ports = s.ports.set port r := rfl
@[simp] theorem State.setPort_freeDraws (port : Port) (r : PortRec) :
    (s.setPort port r).freeDraws = s.freeDraws := rfl

/-! ### `State.onPort` -/

@[simp] theorem State.onPort_pending (port : Port) (f : PortRec → PortRec) :
    (s.onPort port f).pending = s.pending := rfl
@[simp] theorem State.onPort_powered (port : Port) (f : PortRec → PortRec) :
    (s.onPort port f).powered = s.powered := rfl
@[simp] theorem State.onPort_sessions (port : Port) (f : PortRec → PortRec) :
    (s.onPort port f).sessions = s.sessions := rfl
@[simp] theorem State.onPort_alloc (port : Port) (f : PortRec → PortRec) : (s.onPort port f).alloc = s.alloc := rfl
@[simp] theorem State.onPort_queue (port : Port) (f : PortRec → PortRec) : (s.onPort port f).queue = s.queue := rfl
@[simp] theorem State.onPort_active (port : Port) (f : PortRec → PortRec) : (s.onPort port f).active = s.active := rfl
@[simp] theorem State.onPort_roundRequest (port : Port) (f : PortRec → PortRec) :
    (s.onPort port f).roundRequest = s.roundRequest := rfl
@[simp] theorem State.onPort_lines (port : Port) (f : PortRec → PortRec) : (s.onPort port f).lines = s.lines := rfl
@[simp] theorem State.onPort_feeder (port : Port) (f : PortRec → PortRec) : (s.onPort port f).feeder = s.feeder := rfl
@[simp] theorem State.onPort_feederMode (port : Port) (f : PortRec → PortRec) :
    (s.onPort port f).feederMode = s.feederMode := rfl
@[simp] theorem State.onPort_fieldId (port : Port) (f : PortRec → PortRec) :
    (s.onPort port f).fieldId = s.fieldId := rfl
@[simp] theorem State.onPort_timer (port : Port) (f : PortRec → PortRec) : (s.onPort port f).timer = s.timer := rfl
@[simp] theorem State.onPort_plan (port : Port) (f : PortRec → PortRec) : (s.onPort port f).plan = s.plan := rfl
@[simp] theorem State.onPort_links (port : Port) (f : PortRec → PortRec) : (s.onPort port f).links = s.links := rfl
@[simp] theorem State.onPort_link (port : Port) (f : PortRec → PortRec) : (s.onPort port f).link = s.link := rfl
@[simp] theorem State.onPort_handed (port : Port) (f : PortRec → PortRec) : (s.onPort port f).handed = s.handed := rfl
@[simp] theorem State.onPort_service (port : Port) (f : PortRec → PortRec) :
    (s.onPort port f).service = s.service := rfl
@[simp] theorem State.onPort_store (port : Port) (f : PortRec → PortRec) : (s.onPort port f).store = s.store := rfl
@[simp] theorem State.onPort_ports (port : Port) (f : PortRec → PortRec) :
    (s.onPort port f).ports = s.ports.set port (f (s.port port)) := rfl
@[simp] theorem State.onPort_freeDraws (port : Port) (f : PortRec → PortRec) :
    (s.onPort port f).freeDraws = s.freeDraws := rfl

/-! ### `State.enterPads` -/

@[simp] theorem State.enterPads_pending (pads : Pad → Bool) : (s.enterPads pads).pending = s.pending := rfl
@[simp] theorem State.enterPads_powered (pads : Pad → Bool) : (s.enterPads pads).powered = s.powered := rfl
@[simp] theorem State.enterPads_sessions (pads : Pad → Bool) : (s.enterPads pads).sessions = s.sessions := rfl
@[simp] theorem State.enterPads_alloc (pads : Pad → Bool) : (s.enterPads pads).alloc = s.alloc := rfl
@[simp] theorem State.enterPads_queue (pads : Pad → Bool) : (s.enterPads pads).queue = s.queue := rfl
@[simp] theorem State.enterPads_active (pads : Pad → Bool) : (s.enterPads pads).active = s.active := rfl
@[simp] theorem State.enterPads_roundRequest (pads : Pad → Bool) :
    (s.enterPads pads).roundRequest = s.roundRequest := rfl
@[simp] theorem State.enterPads_lines (pads : Pad → Bool) : (s.enterPads pads).lines = s.lines := rfl
@[simp] theorem State.enterPads_feeder (pads : Pad → Bool) : (s.enterPads pads).feeder = s.feeder := rfl
@[simp] theorem State.enterPads_feederMode (pads : Pad → Bool) : (s.enterPads pads).feederMode = s.feederMode := rfl
@[simp] theorem State.enterPads_fieldId (pads : Pad → Bool) : (s.enterPads pads).fieldId = s.fieldId := rfl
@[simp] theorem State.enterPads_timer (pads : Pad → Bool) : (s.enterPads pads).timer = s.timer := rfl
@[simp] theorem State.enterPads_plan (pads : Pad → Bool) : (s.enterPads pads).plan = s.plan := rfl
@[simp] theorem State.enterPads_links (pads : Pad → Bool) : (s.enterPads pads).links = s.links := rfl
@[simp] theorem State.enterPads_link (pads : Pad → Bool) : (s.enterPads pads).link = s.link := rfl
@[simp] theorem State.enterPads_handed (pads : Pad → Bool) : (s.enterPads pads).handed = s.handed := rfl
@[simp] theorem State.enterPads_service (pads : Pad → Bool) : (s.enterPads pads).service = s.service := rfl
@[simp] theorem State.enterPads_store (pads : Pad → Bool) : (s.enterPads pads).store = s.store := rfl
@[simp] theorem State.enterPads_ports (pads : Pad → Bool) : (s.enterPads pads).ports = s.ports.enter pads false := rfl
@[simp] theorem State.enterPads_freeDraws (pads : Pad → Bool) : (s.enterPads pads).freeDraws = s.freeDraws := rfl

/-! ### `State.enterPad` -/

@[simp] theorem State.enterPad_pending (p : Pad) : (s.enterPad p).pending = s.pending := rfl
@[simp] theorem State.enterPad_powered (p : Pad) : (s.enterPad p).powered = s.powered := rfl
@[simp] theorem State.enterPad_sessions (p : Pad) : (s.enterPad p).sessions = s.sessions := rfl
@[simp] theorem State.enterPad_alloc (p : Pad) : (s.enterPad p).alloc = s.alloc := rfl
@[simp] theorem State.enterPad_queue (p : Pad) : (s.enterPad p).queue = s.queue := rfl
@[simp] theorem State.enterPad_active (p : Pad) : (s.enterPad p).active = s.active := rfl
@[simp] theorem State.enterPad_roundRequest (p : Pad) : (s.enterPad p).roundRequest = s.roundRequest := rfl
@[simp] theorem State.enterPad_lines (p : Pad) : (s.enterPad p).lines = s.lines := rfl
@[simp] theorem State.enterPad_feeder (p : Pad) : (s.enterPad p).feeder = s.feeder := rfl
@[simp] theorem State.enterPad_feederMode (p : Pad) : (s.enterPad p).feederMode = s.feederMode := rfl
@[simp] theorem State.enterPad_fieldId (p : Pad) : (s.enterPad p).fieldId = s.fieldId := rfl
@[simp] theorem State.enterPad_timer (p : Pad) : (s.enterPad p).timer = s.timer := rfl
@[simp] theorem State.enterPad_plan (p : Pad) : (s.enterPad p).plan = s.plan := rfl
@[simp] theorem State.enterPad_links (p : Pad) : (s.enterPad p).links = s.links := rfl
@[simp] theorem State.enterPad_link (p : Pad) : (s.enterPad p).link = s.link := rfl
@[simp] theorem State.enterPad_handed (p : Pad) : (s.enterPad p).handed = s.handed := rfl
@[simp] theorem State.enterPad_service (p : Pad) : (s.enterPad p).service = s.service := rfl
@[simp] theorem State.enterPad_store (p : Pad) : (s.enterPad p).store = s.store := rfl
@[simp] theorem State.enterPad_ports (p : Pad) :
    (s.enterPad p).ports = s.ports.enter (fun q => decide (q = p)) false := rfl
@[simp] theorem State.enterPad_freeDraws (p : Pad) : (s.enterPad p).freeDraws = s.freeDraws := rfl

/-! ### `State.enterField` -/

@[simp] theorem State.enterField_pending : (s.enterField).pending = s.pending := rfl
@[simp] theorem State.enterField_powered : (s.enterField).powered = s.powered := rfl
@[simp] theorem State.enterField_sessions : (s.enterField).sessions = s.sessions := rfl
@[simp] theorem State.enterField_alloc : (s.enterField).alloc = s.alloc := rfl
@[simp] theorem State.enterField_queue : (s.enterField).queue = s.queue := rfl
@[simp] theorem State.enterField_active : (s.enterField).active = s.active := rfl
@[simp] theorem State.enterField_roundRequest : (s.enterField).roundRequest = s.roundRequest := rfl
@[simp] theorem State.enterField_lines : (s.enterField).lines = s.lines := rfl
@[simp] theorem State.enterField_feeder : (s.enterField).feeder = s.feeder := rfl
@[simp] theorem State.enterField_feederMode : (s.enterField).feederMode = s.feederMode := rfl
@[simp] theorem State.enterField_fieldId : (s.enterField).fieldId = s.fieldId := rfl
@[simp] theorem State.enterField_timer : (s.enterField).timer = s.timer := rfl
@[simp] theorem State.enterField_plan : (s.enterField).plan = s.plan := rfl
@[simp] theorem State.enterField_links : (s.enterField).links = s.links := rfl
@[simp] theorem State.enterField_link : (s.enterField).link = s.link := rfl
@[simp] theorem State.enterField_handed : (s.enterField).handed = s.handed := rfl
@[simp] theorem State.enterField_service : (s.enterField).service = s.service := rfl
@[simp] theorem State.enterField_store : (s.enterField).store = s.store := rfl
@[simp] theorem State.enterField_ports : (s.enterField).ports = s.ports.enter (fun _ => false) true := rfl
@[simp] theorem State.enterField_freeDraws : (s.enterField).freeDraws = s.freeDraws := rfl

/-! ### `State.setSessions` -/

@[simp] theorem State.setSessions_pending (new : Table 24 SessionRec) : (s.setSessions new).pending = s.pending := rfl
@[simp] theorem State.setSessions_powered (new : Table 24 SessionRec) : (s.setSessions new).powered = s.powered := rfl
@[simp] theorem State.setSessions_sessions (new : Table 24 SessionRec) : (s.setSessions new).sessions = new := rfl
@[simp] theorem State.setSessions_alloc (new : Table 24 SessionRec) : (s.setSessions new).alloc = s.alloc := rfl
@[simp] theorem State.setSessions_queue (new : Table 24 SessionRec) : (s.setSessions new).queue = s.queue := rfl
@[simp] theorem State.setSessions_active (new : Table 24 SessionRec) : (s.setSessions new).active = s.active := rfl
@[simp] theorem State.setSessions_roundRequest (new : Table 24 SessionRec) :
    (s.setSessions new).roundRequest = s.roundRequest := rfl
@[simp] theorem State.setSessions_lines (new : Table 24 SessionRec) : (s.setSessions new).lines = s.lines := rfl
@[simp] theorem State.setSessions_feeder (new : Table 24 SessionRec) : (s.setSessions new).feeder = s.feeder := rfl
@[simp] theorem State.setSessions_feederMode (new : Table 24 SessionRec) :
    (s.setSessions new).feederMode = s.feederMode := rfl
@[simp] theorem State.setSessions_fieldId (new : Table 24 SessionRec) : (s.setSessions new).fieldId = s.fieldId := rfl
@[simp] theorem State.setSessions_timer (new : Table 24 SessionRec) : (s.setSessions new).timer = s.timer := rfl
@[simp] theorem State.setSessions_plan (new : Table 24 SessionRec) : (s.setSessions new).plan = s.plan := rfl
@[simp] theorem State.setSessions_links (new : Table 24 SessionRec) : (s.setSessions new).links = s.links := rfl
@[simp] theorem State.setSessions_link (new : Table 24 SessionRec) : (s.setSessions new).link = s.link := rfl
@[simp] theorem State.setSessions_handed (new : Table 24 SessionRec) : (s.setSessions new).handed = s.handed := rfl
@[simp] theorem State.setSessions_service (new : Table 24 SessionRec) : (s.setSessions new).service = s.service := rfl
@[simp] theorem State.setSessions_store (new : Table 24 SessionRec) : (s.setSessions new).store = s.store := rfl
@[simp] theorem State.setSessions_ports (new : Table 24 SessionRec) :
    (s.setSessions new).ports = s.ports.enter (fun p => decide ((s.sessions.get p).reported ≠ (new.get p).reported)) false := rfl
@[simp] theorem State.setSessions_freeDraws (new : Table 24 SessionRec) :
    (s.setSessions new).freeDraws = s.freeDraws := rfl

/-! ### `State.setSession` -/

@[simp] theorem State.setSession_pending (p : Pad) (r : SessionRec) : (s.setSession p r).pending = s.pending := rfl
@[simp] theorem State.setSession_powered (p : Pad) (r : SessionRec) : (s.setSession p r).powered = s.powered := rfl
@[simp] theorem State.setSession_sessions (p : Pad) (r : SessionRec) :
    (s.setSession p r).sessions = s.sessions.set p r := rfl
@[simp] theorem State.setSession_alloc (p : Pad) (r : SessionRec) : (s.setSession p r).alloc = s.alloc := rfl
@[simp] theorem State.setSession_queue (p : Pad) (r : SessionRec) : (s.setSession p r).queue = s.queue := rfl
@[simp] theorem State.setSession_active (p : Pad) (r : SessionRec) : (s.setSession p r).active = s.active := rfl
@[simp] theorem State.setSession_roundRequest (p : Pad) (r : SessionRec) :
    (s.setSession p r).roundRequest = s.roundRequest := rfl
@[simp] theorem State.setSession_lines (p : Pad) (r : SessionRec) : (s.setSession p r).lines = s.lines := rfl
@[simp] theorem State.setSession_feeder (p : Pad) (r : SessionRec) : (s.setSession p r).feeder = s.feeder := rfl
@[simp] theorem State.setSession_feederMode (p : Pad) (r : SessionRec) :
    (s.setSession p r).feederMode = s.feederMode := rfl
@[simp] theorem State.setSession_fieldId (p : Pad) (r : SessionRec) : (s.setSession p r).fieldId = s.fieldId := rfl
@[simp] theorem State.setSession_timer (p : Pad) (r : SessionRec) : (s.setSession p r).timer = s.timer := rfl
@[simp] theorem State.setSession_plan (p : Pad) (r : SessionRec) : (s.setSession p r).plan = s.plan := rfl
@[simp] theorem State.setSession_links (p : Pad) (r : SessionRec) : (s.setSession p r).links = s.links := rfl
@[simp] theorem State.setSession_link (p : Pad) (r : SessionRec) : (s.setSession p r).link = s.link := rfl
@[simp] theorem State.setSession_handed (p : Pad) (r : SessionRec) : (s.setSession p r).handed = s.handed := rfl
@[simp] theorem State.setSession_service (p : Pad) (r : SessionRec) : (s.setSession p r).service = s.service := rfl
@[simp] theorem State.setSession_store (p : Pad) (r : SessionRec) : (s.setSession p r).store = s.store := rfl
@[simp] theorem State.setSession_freeDraws (p : Pad) (r : SessionRec) :
    (s.setSession p r).freeDraws = s.freeDraws := rfl

/-! ### `State.setBody` -/

@[simp] theorem State.setBody_pending (p : Pad) (b : PadBody) : (s.setBody p b).pending = s.pending := rfl
@[simp] theorem State.setBody_powered (p : Pad) (b : PadBody) : (s.setBody p b).powered = s.powered := rfl
@[simp] theorem State.setBody_sessions (p : Pad) (b : PadBody) :
    (s.setBody p b).sessions = s.sessions.set p { s.session p with body := b } := rfl
@[simp] theorem State.setBody_alloc (p : Pad) (b : PadBody) : (s.setBody p b).alloc = s.alloc := rfl
@[simp] theorem State.setBody_queue (p : Pad) (b : PadBody) : (s.setBody p b).queue = s.queue := rfl
@[simp] theorem State.setBody_active (p : Pad) (b : PadBody) : (s.setBody p b).active = s.active := rfl
@[simp] theorem State.setBody_roundRequest (p : Pad) (b : PadBody) :
    (s.setBody p b).roundRequest = s.roundRequest := rfl
@[simp] theorem State.setBody_lines (p : Pad) (b : PadBody) : (s.setBody p b).lines = s.lines := rfl
@[simp] theorem State.setBody_feeder (p : Pad) (b : PadBody) : (s.setBody p b).feeder = s.feeder := rfl
@[simp] theorem State.setBody_feederMode (p : Pad) (b : PadBody) : (s.setBody p b).feederMode = s.feederMode := rfl
@[simp] theorem State.setBody_fieldId (p : Pad) (b : PadBody) : (s.setBody p b).fieldId = s.fieldId := rfl
@[simp] theorem State.setBody_timer (p : Pad) (b : PadBody) : (s.setBody p b).timer = s.timer := rfl
@[simp] theorem State.setBody_plan (p : Pad) (b : PadBody) : (s.setBody p b).plan = s.plan := rfl
@[simp] theorem State.setBody_links (p : Pad) (b : PadBody) : (s.setBody p b).links = s.links := rfl
@[simp] theorem State.setBody_link (p : Pad) (b : PadBody) : (s.setBody p b).link = s.link := rfl
@[simp] theorem State.setBody_handed (p : Pad) (b : PadBody) : (s.setBody p b).handed = s.handed := rfl
@[simp] theorem State.setBody_service (p : Pad) (b : PadBody) : (s.setBody p b).service = s.service := rfl
@[simp] theorem State.setBody_store (p : Pad) (b : PadBody) : (s.setBody p b).store = s.store := rfl
@[simp] theorem State.setBody_freeDraws (p : Pad) (b : PadBody) : (s.setBody p b).freeDraws = s.freeDraws := rfl

/-! ### `State.setAlloc` -/

@[simp] theorem State.setAlloc_pending (p : Pad) (a : AllocRec) : (s.setAlloc p a).pending = s.pending := rfl
@[simp] theorem State.setAlloc_powered (p : Pad) (a : AllocRec) : (s.setAlloc p a).powered = s.powered := rfl
@[simp] theorem State.setAlloc_sessions (p : Pad) (a : AllocRec) : (s.setAlloc p a).sessions = s.sessions := rfl
@[simp] theorem State.setAlloc_alloc (p : Pad) (a : AllocRec) : (s.setAlloc p a).alloc = s.alloc.set p a := rfl
@[simp] theorem State.setAlloc_queue (p : Pad) (a : AllocRec) : (s.setAlloc p a).queue = s.queue := rfl
@[simp] theorem State.setAlloc_active (p : Pad) (a : AllocRec) : (s.setAlloc p a).active = s.active := rfl
@[simp] theorem State.setAlloc_roundRequest (p : Pad) (a : AllocRec) :
    (s.setAlloc p a).roundRequest = s.roundRequest := rfl
@[simp] theorem State.setAlloc_lines (p : Pad) (a : AllocRec) : (s.setAlloc p a).lines = s.lines := rfl
@[simp] theorem State.setAlloc_feeder (p : Pad) (a : AllocRec) : (s.setAlloc p a).feeder = s.feeder := rfl
@[simp] theorem State.setAlloc_feederMode (p : Pad) (a : AllocRec) : (s.setAlloc p a).feederMode = s.feederMode := rfl
@[simp] theorem State.setAlloc_fieldId (p : Pad) (a : AllocRec) : (s.setAlloc p a).fieldId = s.fieldId := rfl
@[simp] theorem State.setAlloc_timer (p : Pad) (a : AllocRec) : (s.setAlloc p a).timer = s.timer := rfl
@[simp] theorem State.setAlloc_plan (p : Pad) (a : AllocRec) : (s.setAlloc p a).plan = s.plan := rfl
@[simp] theorem State.setAlloc_links (p : Pad) (a : AllocRec) : (s.setAlloc p a).links = s.links := rfl
@[simp] theorem State.setAlloc_link (p : Pad) (a : AllocRec) : (s.setAlloc p a).link = s.link := rfl
@[simp] theorem State.setAlloc_handed (p : Pad) (a : AllocRec) : (s.setAlloc p a).handed = s.handed := rfl
@[simp] theorem State.setAlloc_service (p : Pad) (a : AllocRec) : (s.setAlloc p a).service = s.service := rfl
@[simp] theorem State.setAlloc_store (p : Pad) (a : AllocRec) : (s.setAlloc p a).store = s.store := rfl
@[simp] theorem State.setAlloc_ports (p : Pad) (a : AllocRec) : (s.setAlloc p a).ports = s.ports := rfl
@[simp] theorem State.setAlloc_freeDraws (p : Pad) (a : AllocRec) : (s.setAlloc p a).freeDraws = s.freeDraws := rfl

/-! ### `State.setAllocs` -/

@[simp] theorem State.setAllocs_pending (f : Pad → AllocRec) : (s.setAllocs f).pending = s.pending := rfl
@[simp] theorem State.setAllocs_powered (f : Pad → AllocRec) : (s.setAllocs f).powered = s.powered := rfl
@[simp] theorem State.setAllocs_sessions (f : Pad → AllocRec) : (s.setAllocs f).sessions = s.sessions := rfl
@[simp] theorem State.setAllocs_alloc (f : Pad → AllocRec) : (s.setAllocs f).alloc = .tabulate f := rfl
@[simp] theorem State.setAllocs_queue (f : Pad → AllocRec) : (s.setAllocs f).queue = s.queue := rfl
@[simp] theorem State.setAllocs_active (f : Pad → AllocRec) : (s.setAllocs f).active = s.active := rfl
@[simp] theorem State.setAllocs_roundRequest (f : Pad → AllocRec) :
    (s.setAllocs f).roundRequest = s.roundRequest := rfl
@[simp] theorem State.setAllocs_lines (f : Pad → AllocRec) : (s.setAllocs f).lines = s.lines := rfl
@[simp] theorem State.setAllocs_feeder (f : Pad → AllocRec) : (s.setAllocs f).feeder = s.feeder := rfl
@[simp] theorem State.setAllocs_feederMode (f : Pad → AllocRec) : (s.setAllocs f).feederMode = s.feederMode := rfl
@[simp] theorem State.setAllocs_fieldId (f : Pad → AllocRec) : (s.setAllocs f).fieldId = s.fieldId := rfl
@[simp] theorem State.setAllocs_timer (f : Pad → AllocRec) : (s.setAllocs f).timer = s.timer := rfl
@[simp] theorem State.setAllocs_plan (f : Pad → AllocRec) : (s.setAllocs f).plan = s.plan := rfl
@[simp] theorem State.setAllocs_links (f : Pad → AllocRec) : (s.setAllocs f).links = s.links := rfl
@[simp] theorem State.setAllocs_link (f : Pad → AllocRec) : (s.setAllocs f).link = s.link := rfl
@[simp] theorem State.setAllocs_handed (f : Pad → AllocRec) : (s.setAllocs f).handed = s.handed := rfl
@[simp] theorem State.setAllocs_service (f : Pad → AllocRec) : (s.setAllocs f).service = s.service := rfl
@[simp] theorem State.setAllocs_store (f : Pad → AllocRec) : (s.setAllocs f).store = s.store := rfl
@[simp] theorem State.setAllocs_ports (f : Pad → AllocRec) : (s.setAllocs f).ports = s.ports := rfl
@[simp] theorem State.setAllocs_freeDraws (f : Pad → AllocRec) : (s.setAllocs f).freeDraws = s.freeDraws := rfl

/-! ### `State.releaseRaise` -/

@[simp] theorem State.releaseRaise_pending (p : Pad) : (s.releaseRaise p).pending = s.pending := rfl
@[simp] theorem State.releaseRaise_powered (p : Pad) : (s.releaseRaise p).powered = s.powered := rfl
@[simp] theorem State.releaseRaise_sessions (p : Pad) : (s.releaseRaise p).sessions = s.sessions := rfl
@[simp] theorem State.releaseRaise_alloc (p : Pad) :
    (s.releaseRaise p).alloc = s.alloc.set p { s.allocOf p with setpoint := (s.allocOf p).target } := rfl
@[simp] theorem State.releaseRaise_queue (p : Pad) : (s.releaseRaise p).queue = s.queue := rfl
@[simp] theorem State.releaseRaise_active (p : Pad) : (s.releaseRaise p).active = s.active := rfl
@[simp] theorem State.releaseRaise_roundRequest (p : Pad) : (s.releaseRaise p).roundRequest = s.roundRequest := rfl
@[simp] theorem State.releaseRaise_lines (p : Pad) : (s.releaseRaise p).lines = s.lines := rfl
@[simp] theorem State.releaseRaise_feeder (p : Pad) : (s.releaseRaise p).feeder = s.feeder := rfl
@[simp] theorem State.releaseRaise_feederMode (p : Pad) : (s.releaseRaise p).feederMode = s.feederMode := rfl
@[simp] theorem State.releaseRaise_fieldId (p : Pad) : (s.releaseRaise p).fieldId = s.fieldId := rfl
@[simp] theorem State.releaseRaise_timer (p : Pad) : (s.releaseRaise p).timer = s.timer := rfl
@[simp] theorem State.releaseRaise_plan (p : Pad) : (s.releaseRaise p).plan = s.plan := rfl
@[simp] theorem State.releaseRaise_links (p : Pad) : (s.releaseRaise p).links = s.links := rfl
@[simp] theorem State.releaseRaise_link (p : Pad) : (s.releaseRaise p).link = s.link := rfl
@[simp] theorem State.releaseRaise_handed (p : Pad) : (s.releaseRaise p).handed = s.handed := rfl
@[simp] theorem State.releaseRaise_service (p : Pad) : (s.releaseRaise p).service = s.service := rfl
@[simp] theorem State.releaseRaise_store (p : Pad) : (s.releaseRaise p).store = s.store := rfl
@[simp] theorem State.releaseRaise_ports (p : Pad) : (s.releaseRaise p).ports = s.ports := rfl
@[simp] theorem State.releaseRaise_freeDraws (p : Pad) : (s.releaseRaise p).freeDraws = s.freeDraws := rfl

/-! ### `State.startHold` -/

@[simp] theorem State.startHold_pending (p : Pad) (value : Nat) : (s.startHold p value).pending = s.pending := rfl
@[simp] theorem State.startHold_powered (p : Pad) (value : Nat) : (s.startHold p value).powered = s.powered := rfl
@[simp] theorem State.startHold_sessions (p : Pad) (value : Nat) : (s.startHold p value).sessions = s.sessions := rfl
@[simp] theorem State.startHold_alloc (p : Pad) (value : Nat) :
    (s.startHold p value).alloc = s.alloc.set p { s.allocOf p with mode := .hold value 8 } := rfl
@[simp] theorem State.startHold_queue (p : Pad) (value : Nat) : (s.startHold p value).queue = s.queue := rfl
@[simp] theorem State.startHold_active (p : Pad) (value : Nat) : (s.startHold p value).active = s.active := rfl
@[simp] theorem State.startHold_roundRequest (p : Pad) (value : Nat) :
    (s.startHold p value).roundRequest = s.roundRequest := rfl
@[simp] theorem State.startHold_lines (p : Pad) (value : Nat) : (s.startHold p value).lines = s.lines := rfl
@[simp] theorem State.startHold_feeder (p : Pad) (value : Nat) : (s.startHold p value).feeder = s.feeder := rfl
@[simp] theorem State.startHold_feederMode (p : Pad) (value : Nat) :
    (s.startHold p value).feederMode = s.feederMode := rfl
@[simp] theorem State.startHold_fieldId (p : Pad) (value : Nat) : (s.startHold p value).fieldId = s.fieldId := rfl
@[simp] theorem State.startHold_timer (p : Pad) (value : Nat) : (s.startHold p value).timer = s.timer := rfl
@[simp] theorem State.startHold_plan (p : Pad) (value : Nat) : (s.startHold p value).plan = s.plan := rfl
@[simp] theorem State.startHold_links (p : Pad) (value : Nat) : (s.startHold p value).links = s.links := rfl
@[simp] theorem State.startHold_link (p : Pad) (value : Nat) : (s.startHold p value).link = s.link := rfl
@[simp] theorem State.startHold_handed (p : Pad) (value : Nat) : (s.startHold p value).handed = s.handed := rfl
@[simp] theorem State.startHold_service (p : Pad) (value : Nat) : (s.startHold p value).service = s.service := rfl
@[simp] theorem State.startHold_store (p : Pad) (value : Nat) : (s.startHold p value).store = s.store := rfl
@[simp] theorem State.startHold_ports (p : Pad) (value : Nat) : (s.startHold p value).ports = s.ports := rfl
@[simp] theorem State.startHold_freeDraws (p : Pad) (value : Nat) :
    (s.startHold p value).freeDraws = s.freeDraws := rfl

/-! ### `State.setLink` -/

@[simp] theorem State.setLink_pending (p : Pad) (l : LinkRec) : (s.setLink p l).pending = s.pending := rfl
@[simp] theorem State.setLink_powered (p : Pad) (l : LinkRec) : (s.setLink p l).powered = s.powered := rfl
@[simp] theorem State.setLink_sessions (p : Pad) (l : LinkRec) : (s.setLink p l).sessions = s.sessions := rfl
@[simp] theorem State.setLink_alloc (p : Pad) (l : LinkRec) : (s.setLink p l).alloc = s.alloc := rfl
@[simp] theorem State.setLink_queue (p : Pad) (l : LinkRec) : (s.setLink p l).queue = s.queue := rfl
@[simp] theorem State.setLink_active (p : Pad) (l : LinkRec) : (s.setLink p l).active = s.active := rfl
@[simp] theorem State.setLink_roundRequest (p : Pad) (l : LinkRec) :
    (s.setLink p l).roundRequest = s.roundRequest := rfl
@[simp] theorem State.setLink_lines (p : Pad) (l : LinkRec) : (s.setLink p l).lines = s.lines := rfl
@[simp] theorem State.setLink_feeder (p : Pad) (l : LinkRec) : (s.setLink p l).feeder = s.feeder := rfl
@[simp] theorem State.setLink_feederMode (p : Pad) (l : LinkRec) : (s.setLink p l).feederMode = s.feederMode := rfl
@[simp] theorem State.setLink_fieldId (p : Pad) (l : LinkRec) : (s.setLink p l).fieldId = s.fieldId := rfl
@[simp] theorem State.setLink_timer (p : Pad) (l : LinkRec) : (s.setLink p l).timer = s.timer := rfl
@[simp] theorem State.setLink_plan (p : Pad) (l : LinkRec) : (s.setLink p l).plan = s.plan := rfl
@[simp] theorem State.setLink_links (p : Pad) (l : LinkRec) : (s.setLink p l).links = s.links.set p l := rfl
@[simp] theorem State.setLink_link (p : Pad) (l : LinkRec) : (s.setLink p l).link = s.link := rfl
@[simp] theorem State.setLink_handed (p : Pad) (l : LinkRec) : (s.setLink p l).handed = s.handed := rfl
@[simp] theorem State.setLink_service (p : Pad) (l : LinkRec) : (s.setLink p l).service = s.service := rfl
@[simp] theorem State.setLink_store (p : Pad) (l : LinkRec) : (s.setLink p l).store = s.store := rfl
@[simp] theorem State.setLink_ports (p : Pad) (l : LinkRec) : (s.setLink p l).ports = s.ports := rfl
@[simp] theorem State.setLink_freeDraws (p : Pad) (l : LinkRec) : (s.setLink p l).freeDraws = s.freeDraws := rfl

/-! ### `State.requestRound` -/

@[simp] theorem State.requestRound_pending : (s.requestRound).pending = s.pending := rfl
@[simp] theorem State.requestRound_powered : (s.requestRound).powered = s.powered := rfl
@[simp] theorem State.requestRound_sessions : (s.requestRound).sessions = s.sessions := rfl
@[simp] theorem State.requestRound_alloc : (s.requestRound).alloc = s.alloc := rfl
@[simp] theorem State.requestRound_queue : (s.requestRound).queue = s.queue := rfl
@[simp] theorem State.requestRound_active : (s.requestRound).active = s.active := rfl
@[simp] theorem State.requestRound_roundRequest : (s.requestRound).roundRequest = true := rfl
@[simp] theorem State.requestRound_lines : (s.requestRound).lines = s.lines := rfl
@[simp] theorem State.requestRound_feeder : (s.requestRound).feeder = s.feeder := rfl
@[simp] theorem State.requestRound_feederMode : (s.requestRound).feederMode = s.feederMode := rfl
@[simp] theorem State.requestRound_fieldId : (s.requestRound).fieldId = s.fieldId := rfl
@[simp] theorem State.requestRound_timer : (s.requestRound).timer = s.timer := rfl
@[simp] theorem State.requestRound_plan : (s.requestRound).plan = s.plan := rfl
@[simp] theorem State.requestRound_links : (s.requestRound).links = s.links := rfl
@[simp] theorem State.requestRound_link : (s.requestRound).link = s.link := rfl
@[simp] theorem State.requestRound_handed : (s.requestRound).handed = s.handed := rfl
@[simp] theorem State.requestRound_service : (s.requestRound).service = s.service := rfl
@[simp] theorem State.requestRound_store : (s.requestRound).store = s.store := rfl
@[simp] theorem State.requestRound_ports : (s.requestRound).ports = s.ports := rfl
@[simp] theorem State.requestRound_freeDraws : (s.requestRound).freeDraws = s.freeDraws := rfl

/-! ### `State.insertQueue` -/

@[simp] theorem State.insertQueue_pending (p : Pad) : (s.insertQueue p).pending = s.pending := rfl
@[simp] theorem State.insertQueue_powered (p : Pad) : (s.insertQueue p).powered = s.powered := rfl
@[simp] theorem State.insertQueue_sessions (p : Pad) : (s.insertQueue p).sessions = s.sessions := rfl
@[simp] theorem State.insertQueue_alloc (p : Pad) : (s.insertQueue p).alloc = s.alloc := rfl
@[simp] theorem State.insertQueue_queue (p : Pad) :
    (s.insertQueue p).queue = insertBefore (s.standsAfter p) p s.queue := rfl
@[simp] theorem State.insertQueue_active (p : Pad) : (s.insertQueue p).active = s.active := rfl
@[simp] theorem State.insertQueue_roundRequest (p : Pad) : (s.insertQueue p).roundRequest = s.roundRequest := rfl
@[simp] theorem State.insertQueue_lines (p : Pad) : (s.insertQueue p).lines = s.lines := rfl
@[simp] theorem State.insertQueue_feeder (p : Pad) : (s.insertQueue p).feeder = s.feeder := rfl
@[simp] theorem State.insertQueue_feederMode (p : Pad) : (s.insertQueue p).feederMode = s.feederMode := rfl
@[simp] theorem State.insertQueue_fieldId (p : Pad) : (s.insertQueue p).fieldId = s.fieldId := rfl
@[simp] theorem State.insertQueue_timer (p : Pad) : (s.insertQueue p).timer = s.timer := rfl
@[simp] theorem State.insertQueue_plan (p : Pad) : (s.insertQueue p).plan = s.plan := rfl
@[simp] theorem State.insertQueue_links (p : Pad) : (s.insertQueue p).links = s.links := rfl
@[simp] theorem State.insertQueue_link (p : Pad) : (s.insertQueue p).link = s.link := rfl
@[simp] theorem State.insertQueue_handed (p : Pad) : (s.insertQueue p).handed = s.handed := rfl
@[simp] theorem State.insertQueue_service (p : Pad) : (s.insertQueue p).service = s.service := rfl
@[simp] theorem State.insertQueue_store (p : Pad) : (s.insertQueue p).store = s.store := rfl
@[simp] theorem State.insertQueue_ports (p : Pad) : (s.insertQueue p).ports = s.ports := rfl
@[simp] theorem State.insertQueue_freeDraws (p : Pad) : (s.insertQueue p).freeDraws = s.freeDraws := rfl

/-! ### `State.offer` -/

@[simp] theorem State.offer_pending (p : Pad) : (s.offer p).pending = s.pending := rfl
@[simp] theorem State.offer_powered (p : Pad) : (s.offer p).powered = s.powered := rfl
@[simp] theorem State.offer_sessions (p : Pad) : (s.offer p).sessions = s.sessions := rfl
@[simp] theorem State.offer_alloc (p : Pad) : (s.offer p).alloc = s.alloc := rfl
@[simp] theorem State.offer_queue (p : Pad) : (s.offer p).queue = insertBefore (s.standsAfter p) p s.queue := rfl
@[simp] theorem State.offer_active (p : Pad) : (s.offer p).active = s.active := rfl
@[simp] theorem State.offer_roundRequest (p : Pad) : (s.offer p).roundRequest = true := rfl
@[simp] theorem State.offer_lines (p : Pad) : (s.offer p).lines = s.lines := rfl
@[simp] theorem State.offer_feeder (p : Pad) : (s.offer p).feeder = s.feeder := rfl
@[simp] theorem State.offer_feederMode (p : Pad) : (s.offer p).feederMode = s.feederMode := rfl
@[simp] theorem State.offer_fieldId (p : Pad) : (s.offer p).fieldId = s.fieldId := rfl
@[simp] theorem State.offer_timer (p : Pad) : (s.offer p).timer = s.timer := rfl
@[simp] theorem State.offer_plan (p : Pad) : (s.offer p).plan = s.plan := rfl
@[simp] theorem State.offer_links (p : Pad) : (s.offer p).links = s.links := rfl
@[simp] theorem State.offer_link (p : Pad) : (s.offer p).link = s.link := rfl
@[simp] theorem State.offer_handed (p : Pad) : (s.offer p).handed = s.handed := rfl
@[simp] theorem State.offer_service (p : Pad) : (s.offer p).service = s.service := rfl
@[simp] theorem State.offer_store (p : Pad) : (s.offer p).store = s.store := rfl
@[simp] theorem State.offer_ports (p : Pad) : (s.offer p).ports = s.ports := rfl
@[simp] theorem State.offer_freeDraws (p : Pad) : (s.offer p).freeDraws = s.freeDraws := rfl

/-! ### `State.takeLevel` -/

@[simp] theorem State.takeLevel_pending (line : Line) : (s.takeLevel line).pending = s.pending := rfl
@[simp] theorem State.takeLevel_powered (line : Line) : (s.takeLevel line).powered = s.powered := rfl
@[simp] theorem State.takeLevel_sessions (line : Line) : (s.takeLevel line).sessions = s.sessions := rfl
@[simp] theorem State.takeLevel_alloc (line : Line) : (s.takeLevel line).alloc = s.alloc := rfl
@[simp] theorem State.takeLevel_queue (line : Line) : (s.takeLevel line).queue = s.queue := rfl
@[simp] theorem State.takeLevel_active (line : Line) : (s.takeLevel line).active = s.active := rfl
@[simp] theorem State.takeLevel_roundRequest (line : Line) : (s.takeLevel line).roundRequest = s.roundRequest := rfl
@[simp] theorem State.takeLevel_lines (line : Line) :
    (s.takeLevel line).lines = s.lines.set line { s.lines.get line with taken := some (s.lines.get line).raw } := rfl
@[simp] theorem State.takeLevel_feeder (line : Line) : (s.takeLevel line).feeder = s.feeder := rfl
@[simp] theorem State.takeLevel_feederMode (line : Line) : (s.takeLevel line).feederMode = s.feederMode := rfl
@[simp] theorem State.takeLevel_fieldId (line : Line) : (s.takeLevel line).fieldId = s.fieldId := rfl
@[simp] theorem State.takeLevel_timer (line : Line) : (s.takeLevel line).timer = s.timer := rfl
@[simp] theorem State.takeLevel_plan (line : Line) : (s.takeLevel line).plan = s.plan := rfl
@[simp] theorem State.takeLevel_links (line : Line) : (s.takeLevel line).links = s.links := rfl
@[simp] theorem State.takeLevel_link (line : Line) : (s.takeLevel line).link = s.link := rfl
@[simp] theorem State.takeLevel_handed (line : Line) : (s.takeLevel line).handed = s.handed := rfl
@[simp] theorem State.takeLevel_service (line : Line) : (s.takeLevel line).service = s.service := rfl
@[simp] theorem State.takeLevel_store (line : Line) : (s.takeLevel line).store = s.store := rfl
@[simp] theorem State.takeLevel_ports (line : Line) : (s.takeLevel line).ports = s.ports := rfl
@[simp] theorem State.takeLevel_freeDraws (line : Line) : (s.takeLevel line).freeDraws = s.freeDraws := rfl

/-! ### `State.changeRecord` -/

@[simp] theorem State.changeRecord_pending (pad : Pad) (c : Content) :
    (s.changeRecord pad c).pending = s.pending := rfl
@[simp] theorem State.changeRecord_powered (pad : Pad) (c : Content) :
    (s.changeRecord pad c).powered = s.powered := rfl
@[simp] theorem State.changeRecord_sessions (pad : Pad) (c : Content) :
    (s.changeRecord pad c).sessions = s.sessions := rfl
@[simp] theorem State.changeRecord_alloc (pad : Pad) (c : Content) : (s.changeRecord pad c).alloc = s.alloc := rfl
@[simp] theorem State.changeRecord_queue (pad : Pad) (c : Content) : (s.changeRecord pad c).queue = s.queue := rfl
@[simp] theorem State.changeRecord_active (pad : Pad) (c : Content) : (s.changeRecord pad c).active = s.active := rfl
@[simp] theorem State.changeRecord_roundRequest (pad : Pad) (c : Content) :
    (s.changeRecord pad c).roundRequest = s.roundRequest := rfl
@[simp] theorem State.changeRecord_lines (pad : Pad) (c : Content) : (s.changeRecord pad c).lines = s.lines := rfl
@[simp] theorem State.changeRecord_feeder (pad : Pad) (c : Content) : (s.changeRecord pad c).feeder = s.feeder := rfl
@[simp] theorem State.changeRecord_feederMode (pad : Pad) (c : Content) :
    (s.changeRecord pad c).feederMode = s.feederMode := rfl
@[simp] theorem State.changeRecord_fieldId (pad : Pad) (c : Content) :
    (s.changeRecord pad c).fieldId = s.fieldId := rfl
@[simp] theorem State.changeRecord_timer (pad : Pad) (c : Content) : (s.changeRecord pad c).timer = s.timer := rfl
@[simp] theorem State.changeRecord_plan (pad : Pad) (c : Content) : (s.changeRecord pad c).plan = s.plan := rfl
@[simp] theorem State.changeRecord_links (pad : Pad) (c : Content) : (s.changeRecord pad c).links = s.links := rfl
@[simp] theorem State.changeRecord_link (pad : Pad) (c : Content) : (s.changeRecord pad c).link = s.link := rfl
@[simp] theorem State.changeRecord_handed (pad : Pad) (c : Content) : (s.changeRecord pad c).handed = s.handed := rfl
@[simp] theorem State.changeRecord_service (pad : Pad) (c : Content) :
    (s.changeRecord pad c).service = s.service := rfl
@[simp] theorem State.changeRecord_store (pad : Pad) (c : Content) :
    (s.changeRecord pad c).store = s.store.change pad c := rfl
@[simp] theorem State.changeRecord_ports (pad : Pad) (c : Content) : (s.changeRecord pad c).ports = s.ports := rfl
@[simp] theorem State.changeRecord_freeDraws (pad : Pad) (c : Content) :
    (s.changeRecord pad c).freeDraws = s.freeDraws := rfl

/-! ### `State.beginWrite` -/

@[simp] theorem State.beginWrite_pending : (s.beginWrite).pending = s.pending := rfl
@[simp] theorem State.beginWrite_powered : (s.beginWrite).powered = s.powered := rfl
@[simp] theorem State.beginWrite_sessions : (s.beginWrite).sessions = s.sessions := rfl
@[simp] theorem State.beginWrite_alloc : (s.beginWrite).alloc = s.alloc := rfl
@[simp] theorem State.beginWrite_queue : (s.beginWrite).queue = s.queue := rfl
@[simp] theorem State.beginWrite_active : (s.beginWrite).active = s.active := rfl
@[simp] theorem State.beginWrite_roundRequest : (s.beginWrite).roundRequest = s.roundRequest := rfl
@[simp] theorem State.beginWrite_lines : (s.beginWrite).lines = s.lines := rfl
@[simp] theorem State.beginWrite_feeder : (s.beginWrite).feeder = s.feeder := rfl
@[simp] theorem State.beginWrite_feederMode : (s.beginWrite).feederMode = s.feederMode := rfl
@[simp] theorem State.beginWrite_fieldId : (s.beginWrite).fieldId = s.fieldId := rfl
@[simp] theorem State.beginWrite_timer : (s.beginWrite).timer = s.timer := rfl
@[simp] theorem State.beginWrite_plan : (s.beginWrite).plan = s.plan := rfl
@[simp] theorem State.beginWrite_links : (s.beginWrite).links = s.links := rfl
@[simp] theorem State.beginWrite_link : (s.beginWrite).link = s.link := rfl
@[simp] theorem State.beginWrite_handed : (s.beginWrite).handed = s.handed := rfl
@[simp] theorem State.beginWrite_service : (s.beginWrite).service = s.service := rfl
@[simp] theorem State.beginWrite_store : (s.beginWrite).store = s.store.beginWrite := rfl
@[simp] theorem State.beginWrite_ports : (s.beginWrite).ports = s.ports := rfl
@[simp] theorem State.beginWrite_freeDraws : (s.beginWrite).freeDraws = s.freeDraws := rfl

/-! ### `LinkCtl.endExchange` and `LinkCtl.receive` -/

@[simp] theorem LinkCtl.endExchange_stopRequest (l : LinkCtl) : l.endExchange.stopRequest = l.stopRequest := rfl
@[simp] theorem LinkCtl.endExchange_nextPad (l : LinkCtl) : l.endExchange.nextPad = l.nextPad := rfl
@[simp] theorem LinkCtl.endExchange_exchange (l : LinkCtl) : l.endExchange.exchange = none := rfl
@[simp] theorem LinkCtl.endExchange_received (l : LinkCtl) : l.endExchange.received = [] := rfl
@[simp] theorem LinkCtl.endExchange_tx (l : LinkCtl) : l.endExchange.tx = l.tx := rfl

/-- The reply window holds at most the sixteen bytes of a reply. -/
theorem LinkCtl.receive_length_le (l : LinkCtl) (bytes : List Byte) : (l.receive bytes).length ≤ 16 :=
  List.length_take_le ..

/-- Bytes that arrive after the sixteenth are discarded. -/
theorem LinkCtl.receive_of_full (l : LinkCtl) (bytes : List Byte) (h : l.received.length = 16) :
    l.receive bytes = l.received := by
  rw [LinkCtl.receive, List.take_append_of_le_length h.ge, ← h, List.take_length]

/-- Only the first sixteen bytes of a reply count. -/
theorem decodeReply_receive (p : Pad) (l : LinkCtl) (bytes : List Byte) :
    decodeReply p (l.receive bytes) = decodeReply p (l.received ++ bytes) := by
  rw [decodeReply, LinkCtl.receive, List.take_take, Nat.min_self]; rfl

end Sys2Proof.Machine
end

