-- ==== Sys2Proof/Laws/Views.lean ====
section
/-! SUPPORT. What each named update of State leaves of the views of Machine/Ops.lean, Flags.lean and Alloc.lean, and what it
makes of the record it replaces. -/

namespace Sys2Proof.Machine

variable (s : State)

/-! ### `State.session` -/

@[simp] theorem State.session_setPort (port : Port) (x : PortRec) (q : Pad) :
    (s.setPort port x).session q = s.session q := rfl
@[simp] theorem State.session_onPort (port : Port) (f : PortRec → PortRec) (q : Pad) :
    (s.onPort port f).session q = s.session q := rfl
@[simp] theorem State.session_enterPads (pads : Pad → Bool) (q : Pad) :
    (s.enterPads pads).session q = s.session q := rfl
@[simp] theorem State.session_enterPad (p : Pad) (q : Pad) : (s.enterPad p).session q = s.session q := rfl
@[simp] theorem State.session_enterField (q : Pad) : (s.enterField).session q = s.session q := rfl
@[simp] theorem State.session_setAlloc (p : Pad) (a : AllocRec) (q : Pad) :
    (s.setAlloc p a).session q = s.session q := rfl
@[simp] theorem State.session_setAllocs (f : Pad → AllocRec) (q : Pad) :
    (s.setAllocs f).session q = s.session q := rfl
@[simp] theorem State.session_releaseRaise (p : Pad) (q : Pad) : (s.releaseRaise p).session q = s.session q := rfl
@[simp] theorem State.session_startHold (p : Pad) (value : Nat) (q : Pad) :
    (s.startHold p value).session q = s.session q := rfl
@[simp] theorem State.session_setLink (p : Pad) (x : LinkRec) (q : Pad) :
    (s.setLink p x).session q = s.session q := rfl
@[simp] theorem State.session_requestRound (q : Pad) : (s.requestRound).session q = s.session q := rfl
@[simp] theorem State.session_insertQueue (p : Pad) (q : Pad) : (s.insertQueue p).session q = s.session q := rfl
@[simp] theorem State.session_offer (p : Pad) (q : Pad) : (s.offer p).session q = s.session q := rfl
@[simp] theorem State.session_takeLevel (line : Line) (q : Pad) : (s.takeLevel line).session q = s.session q := rfl
@[simp] theorem State.session_changeRecord (pad : Pad) (c : Content) (q : Pad) :
    (s.changeRecord pad c).session q = s.session q := rfl
@[simp] theorem State.session_beginWrite (q : Pad) : (s.beginWrite).session q = s.session q := rfl

/-! ### `State.padState` -/

@[simp] theorem State.padState_setPort (port : Port) (x : PortRec) (q : Pad) :
    (s.setPort port x).padState q = s.padState q := rfl
@[simp] theorem State.padState_onPort (port : Port) (f : PortRec → PortRec) (q : Pad) :
    (s.onPort port f).padState q = s.padState q := rfl
@[simp] theorem State.padState_enterPads (pads : Pad → Bool) (q : Pad) :
    (s.enterPads pads).padState q = s.padState q := rfl
@[simp] theorem State.padState_enterPad (p : Pad) (q : Pad) : (s.enterPad p).padState q = s.padState q := rfl
@[simp] theorem State.padState_enterField (q : Pad) : (s.enterField).padState q = s.padState q := rfl
@[simp] theorem State.padState_setAlloc (p : Pad) (a : AllocRec) (q : Pad) :
    (s.setAlloc p a).padState q = s.padState q := rfl
@[simp] theorem State.padState_setAllocs (f : Pad → AllocRec) (q : Pad) :
    (s.setAllocs f).padState q = s.padState q := rfl
@[simp] theorem State.padState_releaseRaise (p : Pad) (q : Pad) : (s.releaseRaise p).padState q = s.padState q := rfl
@[simp] theorem State.padState_startHold (p : Pad) (value : Nat) (q : Pad) :
    (s.startHold p value).padState q = s.padState q := rfl
@[simp] theorem State.padState_setLink (p : Pad) (x : LinkRec) (q : Pad) :
    (s.setLink p x).padState q = s.padState q := rfl
@[simp] theorem State.padState_requestRound (q : Pad) : (s.requestRound).padState q = s.padState q := rfl
@[simp] theorem State.padState_insertQueue (p : Pad) (q : Pad) : (s.insertQueue p).padState q = s.padState q := rfl
@[simp] theorem State.padState_offer (p : Pad) (q : Pad) : (s.offer p).padState q = s.padState q := rfl
@[simp] theorem State.padState_takeLevel (line : Line) (q : Pad) : (s.takeLevel line).padState q = s.padState q := rfl
@[simp] theorem State.padState_changeRecord (pad : Pad) (c : Content) (q : Pad) :
    (s.changeRecord pad c).padState q = s.padState q := rfl
@[simp] theorem State.padState_beginWrite (q : Pad) : (s.beginWrite).padState q = s.padState q := rfl

/-! ### `State.classOf` -/

@[simp] theorem State.classOf_setPort (port : Port) (x : PortRec) (q : Pad) :
    (s.setPort port x).classOf q = s.classOf q := rfl
@[simp] theorem State.classOf_onPort (port : Port) (f : PortRec → PortRec) (q : Pad) :
    (s.onPort port f).classOf q = s.classOf q := rfl
@[simp] theorem State.classOf_enterPads (pads : Pad → Bool) (q : Pad) :
    (s.enterPads pads).classOf q = s.classOf q := rfl
@[simp] theorem State.classOf_enterPad (p : Pad) (q : Pad) : (s.enterPad p).classOf q = s.classOf q := rfl
@[simp] theorem State.classOf_enterField (q : Pad) : (s.enterField).classOf q = s.classOf q := rfl
@[simp] theorem State.classOf_setAlloc (p : Pad) (a : AllocRec) (q : Pad) :
    (s.setAlloc p a).classOf q = s.classOf q := rfl
@[simp] theorem State.classOf_setAllocs (f : Pad → AllocRec) (q : Pad) :
    (s.setAllocs f).classOf q = s.classOf q := rfl
@[simp] theorem State.classOf_releaseRaise (p : Pad) (q : Pad) : (s.releaseRaise p).classOf q = s.classOf q := rfl
@[simp] theorem State.classOf_startHold (p : Pad) (value : Nat) (q : Pad) :
    (s.startHold p value).classOf q = s.classOf q := rfl
@[simp] theorem State.classOf_setLink (p : Pad) (x : LinkRec) (q : Pad) :
    (s.setLink p x).classOf q = s.classOf q := rfl
@[simp] theorem State.classOf_requestRound (q : Pad) : (s.requestRound).classOf q = s.classOf q := rfl
@[simp] theorem State.classOf_insertQueue (p : Pad) (q : Pad) : (s.insertQueue p).classOf q = s.classOf q := rfl
@[simp] theorem State.classOf_offer (p : Pad) (q : Pad) : (s.offer p).classOf q = s.classOf q := rfl
@[simp] theorem State.classOf_takeLevel (line : Line) (q : Pad) : (s.takeLevel line).classOf q = s.classOf q := rfl
@[simp] theorem State.classOf_changeRecord (pad : Pad) (c : Content) (q : Pad) :
    (s.changeRecord pad c).classOf q = s.classOf q := rfl
@[simp] theorem State.classOf_beginWrite (q : Pad) : (s.beginWrite).classOf q = s.classOf q := rfl

/-! ### `State.distanceOf` -/

@[simp] theorem State.distanceOf_setPort (port : Port) (x : PortRec) (q : Pad) :
    (s.setPort port x).distanceOf q = s.distanceOf q := rfl
@[simp] theorem State.distanceOf_onPort (port : Port) (f : PortRec → PortRec) (q : Pad) :
    (s.onPort port f).distanceOf q = s.distanceOf q := rfl
@[simp] theorem State.distanceOf_enterPads (pads : Pad → Bool) (q : Pad) :
    (s.enterPads pads).distanceOf q = s.distanceOf q := rfl
@[simp] theorem State.distanceOf_enterPad (p : Pad) (q : Pad) : (s.enterPad p).distanceOf q = s.distanceOf q := rfl
@[simp] theorem State.distanceOf_enterField (q : Pad) : (s.enterField).distanceOf q = s.distanceOf q := rfl
@[simp] theorem State.distanceOf_setAlloc (p : Pad) (a : AllocRec) (q : Pad) :
    (s.setAlloc p a).distanceOf q = s.distanceOf q := rfl
@[simp] theorem State.distanceOf_setAllocs (f : Pad → AllocRec) (q : Pad) :
    (s.setAllocs f).distanceOf q = s.distanceOf q := rfl
@[simp] theorem State.distanceOf_releaseRaise (p : Pad) (q : Pad) :
    (s.releaseRaise p).distanceOf q = s.distanceOf q := rfl
@[simp] theorem State.distanceOf_startHold (p : Pad) (value : Nat) (q : Pad) :
    (s.startHold p value).distanceOf q = s.distanceOf q := rfl
@[simp] theorem State.distanceOf_setLink (p : Pad) (x : LinkRec) (q : Pad) :
    (s.setLink p x).distanceOf q = s.distanceOf q := rfl
@[simp] theorem State.distanceOf_requestRound (q : Pad) : (s.requestRound).distanceOf q = s.distanceOf q := rfl
@[simp] theorem State.distanceOf_insertQueue (p : Pad) (q : Pad) :
    (s.insertQueue p).distanceOf q = s.distanceOf q := rfl
@[simp] theorem State.distanceOf_offer (p : Pad) (q : Pad) : (s.offer p).distanceOf q = s.distanceOf q := rfl
@[simp] theorem State.distanceOf_takeLevel (line : Line) (q : Pad) :
    (s.takeLevel line).distanceOf q = s.distanceOf q := rfl
@[simp] theorem State.distanceOf_changeRecord (pad : Pad) (c : Content) (q : Pad) :
    (s.changeRecord pad c).distanceOf q = s.distanceOf q := rfl
@[simp] theorem State.distanceOf_beginWrite (q : Pad) : (s.beginWrite).distanceOf q = s.distanceOf q := rfl

/-! ### `State.allocOf` -/

@[simp] theorem State.allocOf_setPort (port : Port) (x : PortRec) (q : Pad) :
    (s.setPort port x).allocOf q = s.allocOf q := rfl
@[simp] theorem State.allocOf_onPort (port : Port) (f : PortRec → PortRec) (q : Pad) :
    (s.onPort port f).allocOf q = s.allocOf q := rfl
@[simp] theorem State.allocOf_enterPads (pads : Pad → Bool) (q : Pad) :
    (s.enterPads pads).allocOf q = s.allocOf q := rfl
@[simp] theorem State.allocOf_enterPad (p : Pad) (q : Pad) : (s.enterPad p).allocOf q = s.allocOf q := rfl
@[simp] theorem State.allocOf_enterField (q : Pad) : (s.enterField).allocOf q = s.allocOf q := rfl
@[simp] theorem State.allocOf_setSessions (new : Table 24 SessionRec) (q : Pad) :
    (s.setSessions new).allocOf q = s.allocOf q := rfl
@[simp] theorem State.allocOf_setSession (p : Pad) (r : SessionRec) (q : Pad) :
    (s.setSession p r).allocOf q = s.allocOf q := rfl
@[simp] theorem State.allocOf_setBody (p : Pad) (b : PadBody) (q : Pad) :
    (s.setBody p b).allocOf q = s.allocOf q := rfl
@[simp] theorem State.allocOf_setLink (p : Pad) (x : LinkRec) (q : Pad) :
    (s.setLink p x).allocOf q = s.allocOf q := rfl
@[simp] theorem State.allocOf_requestRound (q : Pad) : (s.requestRound).allocOf q = s.allocOf q := rfl
@[simp] theorem State.allocOf_insertQueue (p : Pad) (q : Pad) : (s.insertQueue p).allocOf q = s.allocOf q := rfl
@[simp] theorem State.allocOf_offer (p : Pad) (q : Pad) : (s.offer p).allocOf q = s.allocOf q := rfl
@[simp] theorem State.allocOf_takeLevel (line : Line) (q : Pad) : (s.takeLevel line).allocOf q = s.allocOf q := rfl
@[simp] theorem State.allocOf_changeRecord (pad : Pad) (c : Content) (q : Pad) :
    (s.changeRecord pad c).allocOf q = s.allocOf q := rfl
@[simp] theorem State.allocOf_beginWrite (q : Pad) : (s.beginWrite).allocOf q = s.allocOf q := rfl

/-! ### `State.linkOf` -/

@[simp] theorem State.linkOf_setPort (port : Port) (x : PortRec) (q : Pad) :
    (s.setPort port x).linkOf q = s.linkOf q := rfl
@[simp] theorem State.linkOf_onPort (port : Port) (f : PortRec → PortRec) (q : Pad) :
    (s.onPort port f).linkOf q = s.linkOf q := rfl
@[simp] theorem State.linkOf_enterPads (pads : Pad → Bool) (q : Pad) : (s.enterPads pads).linkOf q = s.linkOf q := rfl
@[simp] theorem State.linkOf_enterPad (p : Pad) (q : Pad) : (s.enterPad p).linkOf q = s.linkOf q := rfl
@[simp] theorem State.linkOf_enterField (q : Pad) : (s.enterField).linkOf q = s.linkOf q := rfl
@[simp] theorem State.linkOf_setSessions (new : Table 24 SessionRec) (q : Pad) :
    (s.setSessions new).linkOf q = s.linkOf q := rfl
@[simp] theorem State.linkOf_setSession (p : Pad) (r : SessionRec) (q : Pad) :
    (s.setSession p r).linkOf q = s.linkOf q := rfl
@[simp] theorem State.linkOf_setBody (p : Pad) (b : PadBody) (q : Pad) : (s.setBody p b).linkOf q = s.linkOf q := rfl
@[simp] theorem State.linkOf_setAlloc (p : Pad) (a : AllocRec) (q : Pad) :
    (s.setAlloc p a).linkOf q = s.linkOf q := rfl
@[simp] theorem State.linkOf_setAllocs (f : Pad → AllocRec) (q : Pad) : (s.setAllocs f).linkOf q = s.linkOf q := rfl
@[simp] theorem State.linkOf_releaseRaise (p : Pad) (q : Pad) : (s.releaseRaise p).linkOf q = s.linkOf q := rfl
@[simp] theorem State.linkOf_startHold (p : Pad) (value : Nat) (q : Pad) :
    (s.startHold p value).linkOf q = s.linkOf q := rfl
@[simp] theorem State.linkOf_requestRound (q : Pad) : (s.requestRound).linkOf q = s.linkOf q := rfl
@[simp] theorem State.linkOf_insertQueue (p : Pad) (q : Pad) : (s.insertQueue p).linkOf q = s.linkOf q := rfl
@[simp] theorem State.linkOf_offer (p : Pad) (q : Pad) : (s.offer p).linkOf q = s.linkOf q := rfl
@[simp] theorem State.linkOf_takeLevel (line : Line) (q : Pad) : (s.takeLevel line).linkOf q = s.linkOf q := rfl
@[simp] theorem State.linkOf_changeRecord (pad : Pad) (c : Content) (q : Pad) :
    (s.changeRecord pad c).linkOf q = s.linkOf q := rfl
@[simp] theorem State.linkOf_beginWrite (q : Pad) : (s.beginWrite).linkOf q = s.linkOf q := rfl

/-! ### `State.rating` -/

@[simp] theorem State.rating_setPort (port : Port) (x : PortRec) (q : Pad) :
    (s.setPort port x).rating q = s.rating q := rfl
@[simp] theorem State.rating_onPort (port : Port) (f : PortRec → PortRec) (q : Pad) :
    (s.onPort port f).rating q = s.rating q := rfl
@[simp] theorem State.rating_enterPads (pads : Pad → Bool) (q : Pad) : (s.enterPads pads).rating q = s.rating q := rfl
@[simp] theorem State.rating_enterPad (p : Pad) (q : Pad) : (s.enterPad p).rating q = s.rating q := rfl
@[simp] theorem State.rating_enterField (q : Pad) : (s.enterField).rating q = s.rating q := rfl
@[simp] theorem State.rating_setSessions (new : Table 24 SessionRec) (q : Pad) :
    (s.setSessions new).rating q = s.rating q := rfl
@[simp] theorem State.rating_setSession (p : Pad) (r : SessionRec) (q : Pad) :
    (s.setSession p r).rating q = s.rating q := rfl
@[simp] theorem State.rating_setBody (p : Pad) (b : PadBody) (q : Pad) : (s.setBody p b).rating q = s.rating q := rfl
@[simp] theorem State.rating_setAlloc (p : Pad) (a : AllocRec) (q : Pad) :
    (s.setAlloc p a).rating q = s.rating q := rfl
@[simp] theorem State.rating_setAllocs (f : Pad → AllocRec) (q : Pad) : (s.setAllocs f).rating q = s.rating q := rfl
@[simp] theorem State.rating_releaseRaise (p : Pad) (q : Pad) : (s.releaseRaise p).rating q = s.rating q := rfl
@[simp] theorem State.rating_startHold (p : Pad) (value : Nat) (q : Pad) :
    (s.startHold p value).rating q = s.rating q := rfl
@[simp] theorem State.rating_setLink (p : Pad) (x : LinkRec) (q : Pad) : (s.setLink p x).rating q = s.rating q := rfl
@[simp] theorem State.rating_requestRound (q : Pad) : (s.requestRound).rating q = s.rating q := rfl
@[simp] theorem State.rating_insertQueue (p : Pad) (q : Pad) : (s.insertQueue p).rating q = s.rating q := rfl
@[simp] theorem State.rating_offer (p : Pad) (q : Pad) : (s.offer p).rating q = s.rating q := rfl
@[simp] theorem State.rating_takeLevel (line : Line) (q : Pad) : (s.takeLevel line).rating q = s.rating q := rfl

/-! ### `State.faultOf` -/

@[simp] theorem State.faultOf_setPort (port : Port) (x : PortRec) (q : Pad) :
    (s.setPort port x).faultOf q = s.faultOf q := rfl
@[simp] theorem State.faultOf_onPort (port : Port) (f : PortRec → PortRec) (q : Pad) :
    (s.onPort port f).faultOf q = s.faultOf q := rfl
@[simp] theorem State.faultOf_enterPads (pads : Pad → Bool) (q : Pad) :
    (s.enterPads pads).faultOf q = s.faultOf q := rfl
@[simp] theorem State.faultOf_enterPad (p : Pad) (q : Pad) : (s.enterPad p).faultOf q = s.faultOf q := rfl
@[simp] theorem State.faultOf_enterField (q : Pad) : (s.enterField).faultOf q = s.faultOf q := rfl
@[simp] theorem State.faultOf_setSessions (new : Table 24 SessionRec) (q : Pad) :
    (s.setSessions new).faultOf q = s.faultOf q := rfl
@[simp] theorem State.faultOf_setSession (p : Pad) (r : SessionRec) (q : Pad) :
    (s.setSession p r).faultOf q = s.faultOf q := rfl
@[simp] theorem State.faultOf_setBody (p : Pad) (b : PadBody) (q : Pad) :
    (s.setBody p b).faultOf q = s.faultOf q := rfl
@[simp] theorem State.faultOf_setAlloc (p : Pad) (a : AllocRec) (q : Pad) :
    (s.setAlloc p a).faultOf q = s.faultOf q := rfl
@[simp] theorem State.faultOf_setAllocs (f : Pad → AllocRec) (q : Pad) :
    (s.setAllocs f).faultOf q = s.faultOf q := rfl
@[simp] theorem State.faultOf_releaseRaise (p : Pad) (q : Pad) : (s.releaseRaise p).faultOf q = s.faultOf q := rfl
@[simp] theorem State.faultOf_startHold (p : Pad) (value : Nat) (q : Pad) :
    (s.startHold p value).faultOf q = s.faultOf q := rfl
@[simp] theorem State.faultOf_setLink (p : Pad) (x : LinkRec) (q : Pad) :
    (s.setLink p x).faultOf q = s.faultOf q := rfl
@[simp] theorem State.faultOf_requestRound (q : Pad) : (s.requestRound).faultOf q = s.faultOf q := rfl
@[simp] theorem State.faultOf_insertQueue (p : Pad) (q : Pad) : (s.insertQueue p).faultOf q = s.faultOf q := rfl
@[simp] theorem State.faultOf_offer (p : Pad) (q : Pad) : (s.offer p).faultOf q = s.faultOf q := rfl
@[simp] theorem State.faultOf_takeLevel (line : Line) (q : Pad) : (s.takeLevel line).faultOf q = s.faultOf q := rfl

/-! ### `State.lockout` -/

@[simp] theorem State.lockout_setPort (port : Port) (x : PortRec) (q : Pad) :
    (s.setPort port x).lockout q = s.lockout q := rfl
@[simp] theorem State.lockout_onPort (port : Port) (f : PortRec → PortRec) (q : Pad) :
    (s.onPort port f).lockout q = s.lockout q := rfl
@[simp] theorem State.lockout_enterPads (pads : Pad → Bool) (q : Pad) :
    (s.enterPads pads).lockout q = s.lockout q := rfl
@[simp] theorem State.lockout_enterPad (p : Pad) (q : Pad) : (s.enterPad p).lockout q = s.lockout q := rfl
@[simp] theorem State.lockout_enterField (q : Pad) : (s.enterField).lockout q = s.lockout q := rfl
@[simp] theorem State.lockout_setSessions (new : Table 24 SessionRec) (q : Pad) :
    (s.setSessions new).lockout q = s.lockout q := rfl
@[simp] theorem State.lockout_setSession (p : Pad) (r : SessionRec) (q : Pad) :
    (s.setSession p r).lockout q = s.lockout q := rfl
@[simp] theorem State.lockout_setBody (p : Pad) (b : PadBody) (q : Pad) :
    (s.setBody p b).lockout q = s.lockout q := rfl
@[simp] theorem State.lockout_setAlloc (p : Pad) (a : AllocRec) (q : Pad) :
    (s.setAlloc p a).lockout q = s.lockout q := rfl
@[simp] theorem State.lockout_setAllocs (f : Pad → AllocRec) (q : Pad) :
    (s.setAllocs f).lockout q = s.lockout q := rfl
@[simp] theorem State.lockout_releaseRaise (p : Pad) (q : Pad) : (s.releaseRaise p).lockout q = s.lockout q := rfl
@[simp] theorem State.lockout_startHold (p : Pad) (value : Nat) (q : Pad) :
    (s.startHold p value).lockout q = s.lockout q := rfl
@[simp] theorem State.lockout_setLink (p : Pad) (x : LinkRec) (q : Pad) :
    (s.setLink p x).lockout q = s.lockout q := rfl
@[simp] theorem State.lockout_requestRound (q : Pad) : (s.requestRound).lockout q = s.lockout q := rfl
@[simp] theorem State.lockout_insertQueue (p : Pad) (q : Pad) : (s.insertQueue p).lockout q = s.lockout q := rfl
@[simp] theorem State.lockout_offer (p : Pad) (q : Pad) : (s.offer p).lockout q = s.lockout q := rfl
@[simp] theorem State.lockout_takeLevel (line : Line) (q : Pad) : (s.takeLevel line).lockout q = s.lockout q := rfl

/-! ### `State.exposure` -/

@[simp] theorem State.exposure_setPort (port : Port) (x : PortRec) (q : Pad) :
    (s.setPort port x).exposure q = s.exposure q := rfl
@[simp] theorem State.exposure_onPort (port : Port) (f : PortRec → PortRec) (q : Pad) :
    (s.onPort port f).exposure q = s.exposure q := rfl
@[simp] theorem State.exposure_enterPads (pads : Pad → Bool) (q : Pad) :
    (s.enterPads pads).exposure q = s.exposure q := rfl
@[simp] theorem State.exposure_enterPad (p : Pad) (q : Pad) : (s.enterPad p).exposure q = s.exposure q := rfl
@[simp] theorem State.exposure_enterField (q : Pad) : (s.enterField).exposure q = s.exposure q := rfl
@[simp] theorem State.exposure_setSessions (new : Table 24 SessionRec) (q : Pad) :
    (s.setSessions new).exposure q = s.exposure q := rfl
@[simp] theorem State.exposure_setSession (p : Pad) (r : SessionRec) (q : Pad) :
    (s.setSession p r).exposure q = s.exposure q := rfl
@[simp] theorem State.exposure_setBody (p : Pad) (b : PadBody) (q : Pad) :
    (s.setBody p b).exposure q = s.exposure q := rfl
@[simp] theorem State.exposure_setLink (p : Pad) (x : LinkRec) (q : Pad) :
    (s.setLink p x).exposure q = s.exposure q := rfl
@[simp] theorem State.exposure_requestRound (q : Pad) : (s.requestRound).exposure q = s.exposure q := rfl
@[simp] theorem State.exposure_insertQueue (p : Pad) (q : Pad) : (s.insertQueue p).exposure q = s.exposure q := rfl
@[simp] theorem State.exposure_offer (p : Pad) (q : Pad) : (s.offer p).exposure q = s.exposure q := rfl
@[simp] theorem State.exposure_takeLevel (line : Line) (q : Pad) : (s.takeLevel line).exposure q = s.exposure q := rfl

/-! ### `State.capOf` -/

@[simp] theorem State.capOf_setPort (port : Port) (x : PortRec) (q : Pad) :
    (s.setPort port x).capOf q = s.capOf q := rfl
@[simp] theorem State.capOf_onPort (port : Port) (f : PortRec → PortRec) (q : Pad) :
    (s.onPort port f).capOf q = s.capOf q := rfl
@[simp] theorem State.capOf_enterPads (pads : Pad → Bool) (q : Pad) : (s.enterPads pads).capOf q = s.capOf q := rfl
@[simp] theorem State.capOf_enterPad (p : Pad) (q : Pad) : (s.enterPad p).capOf q = s.capOf q := rfl
@[simp] theorem State.capOf_enterField (q : Pad) : (s.enterField).capOf q = s.capOf q := rfl
@[simp] theorem State.capOf_setSessions (new : Table 24 SessionRec) (q : Pad) :
    (s.setSessions new).capOf q = s.capOf q := rfl
@[simp] theorem State.capOf_setSession (p : Pad) (r : SessionRec) (q : Pad) :
    (s.setSession p r).capOf q = s.capOf q := rfl
@[simp] theorem State.capOf_setBody (p : Pad) (b : PadBody) (q : Pad) : (s.setBody p b).capOf q = s.capOf q := rfl
@[simp] theorem State.capOf_setLink (p : Pad) (x : LinkRec) (q : Pad) : (s.setLink p x).capOf q = s.capOf q := rfl
@[simp] theorem State.capOf_requestRound (q : Pad) : (s.requestRound).capOf q = s.capOf q := rfl
@[simp] theorem State.capOf_insertQueue (p : Pad) (q : Pad) : (s.insertQueue p).capOf q = s.capOf q := rfl
@[simp] theorem State.capOf_offer (p : Pad) (q : Pad) : (s.offer p).capOf q = s.capOf q := rfl
@[simp] theorem State.capOf_takeLevel (line : Line) (q : Pad) : (s.takeLevel line).capOf q = s.capOf q := rfl

/-! ### `State.level` -/

@[simp] theorem State.level_setPort (port : Port) (x : PortRec) (l : Line) :
    (s.setPort port x).level l = s.level l := rfl
@[simp] theorem State.level_onPort (port : Port) (f : PortRec → PortRec) (l : Line) :
    (s.onPort port f).level l = s.level l := rfl
@[simp] theorem State.level_enterPads (pads : Pad → Bool) (l : Line) : (s.enterPads pads).level l = s.level l := rfl
@[simp] theorem State.level_enterPad (p : Pad) (l : Line) : (s.enterPad p).level l = s.level l := rfl
@[simp] theorem State.level_enterField (l : Line) : (s.enterField).level l = s.level l := rfl
@[simp] theorem State.level_setSessions (new : Table 24 SessionRec) (l : Line) :
    (s.setSessions new).level l = s.level l := rfl
@[simp] theorem State.level_setSession (p : Pad) (r : SessionRec) (l : Line) :
    (s.setSession p r).level l = s.level l := rfl
@[simp] theorem State.level_setBody (p : Pad) (b : PadBody) (l : Line) : (s.setBody p b).level l = s.level l := rfl
@[simp] theorem State.level_setAlloc (p : Pad) (a : AllocRec) (l : Line) : (s.setAlloc p a).level l = s.level l := rfl
@[simp] theorem State.level_setAllocs (f : Pad → AllocRec) (l : Line) : (s.setAllocs f).level l = s.level l := rfl
@[simp] theorem State.level_releaseRaise (p : Pad) (l : Line) : (s.releaseRaise p).level l = s.level l := rfl
@[simp] theorem State.level_startHold (p : Pad) (value : Nat) (l : Line) :
    (s.startHold p value).level l = s.level l := rfl
@[simp] theorem State.level_setLink (p : Pad) (x : LinkRec) (l : Line) : (s.setLink p x).level l = s.level l := rfl
@[simp] theorem State.level_requestRound (l : Line) : (s.requestRound).level l = s.level l := rfl
@[simp] theorem State.level_insertQueue (p : Pad) (l : Line) : (s.insertQueue p).level l = s.level l := rfl
@[simp] theorem State.level_offer (p : Pad) (l : Line) : (s.offer p).level l = s.level l := rfl
@[simp] theorem State.level_changeRecord (pad : Pad) (c : Content) (l : Line) :
    (s.changeRecord pad c).level l = s.level l := rfl
@[simp] theorem State.level_beginWrite (l : Line) : (s.beginWrite).level l = s.level l := rfl

/-! ### `State.port` -/

@[simp] theorem State.port_setAlloc (p : Pad) (a : AllocRec) (r : Port) : (s.setAlloc p a).port r = s.port r := rfl
@[simp] theorem State.port_setAllocs (f : Pad → AllocRec) (r : Port) : (s.setAllocs f).port r = s.port r := rfl
@[simp] theorem State.port_releaseRaise (p : Pad) (r : Port) : (s.releaseRaise p).port r = s.port r := rfl
@[simp] theorem State.port_startHold (p : Pad) (value : Nat) (r : Port) :
    (s.startHold p value).port r = s.port r := rfl
@[simp] theorem State.port_setLink (p : Pad) (x : LinkRec) (r : Port) : (s.setLink p x).port r = s.port r := rfl
@[simp] theorem State.port_requestRound (r : Port) : (s.requestRound).port r = s.port r := rfl
@[simp] theorem State.port_insertQueue (p : Pad) (r : Port) : (s.insertQueue p).port r = s.port r := rfl
@[simp] theorem State.port_offer (p : Pad) (r : Port) : (s.offer p).port r = s.port r := rfl
@[simp] theorem State.port_takeLevel (line : Line) (r : Port) : (s.takeLevel line).port r = s.port r := rfl
@[simp] theorem State.port_changeRecord (pad : Pad) (c : Content) (r : Port) :
    (s.changeRecord pad c).port r = s.port r := rfl
@[simp] theorem State.port_beginWrite (r : Port) : (s.beginWrite).port r = s.port r := rfl

/-! ### The record an update replaces -/

@[simp] theorem State.session_setSessions (new : Table 24 SessionRec) (q : Pad) :
    (s.setSessions new).session q = new.get q := rfl

@[simp] theorem State.session_setSession_self (p : Pad) (r : SessionRec) : (s.setSession p r).session p = r :=
  Table.get_set_self ..

@[simp] theorem State.session_setSession_ne (p : Pad) (r : SessionRec) {q : Pad} (h : q ≠ p) :
    (s.setSession p r).session q = s.session q :=
  Table.get_set_ne _ _ h

@[simp] theorem State.session_setBody_self (p : Pad) (b : PadBody) :
    (s.setBody p b).session p = { s.session p with body := b } :=
  Table.get_set_self ..

@[simp] theorem State.session_setBody_ne (p : Pad) (b : PadBody) {q : Pad} (h : q ≠ p) :
    (s.setBody p b).session q = s.session q :=
  Table.get_set_ne _ _ h

@[simp] theorem State.allocOf_setAlloc_self (p : Pad) (a : AllocRec) : (s.setAlloc p a).allocOf p = a :=
  Table.get_set_self ..

@[simp] theorem State.allocOf_setAlloc_ne (p : Pad) (a : AllocRec) {q : Pad} (h : q ≠ p) :
    (s.setAlloc p a).allocOf q = s.allocOf q :=
  Table.get_set_ne _ _ h

@[simp] theorem State.allocOf_setAllocs (f : Pad → AllocRec) (q : Pad) : (s.setAllocs f).allocOf q = f q :=
  Table.get_tabulate ..

@[simp] theorem State.allocOf_releaseRaise_self (p : Pad) :
    (s.releaseRaise p).allocOf p = { s.allocOf p with setpoint := (s.allocOf p).target } :=
  Table.get_set_self ..

@[simp] theorem State.allocOf_releaseRaise_ne (p : Pad) {q : Pad} (h : q ≠ p) :
    (s.releaseRaise p).allocOf q = s.allocOf q :=
  Table.get_set_ne _ _ h

@[simp] theorem State.allocOf_startHold_self (p : Pad) (value : Nat) :
    (s.startHold p value).allocOf p = { s.allocOf p with mode := .hold value 8 } :=
  Table.get_set_self ..

@[simp] theorem State.allocOf_startHold_ne (p : Pad) (value : Nat) {q : Pad} (h : q ≠ p) :
    (s.startHold p value).allocOf q = s.allocOf q :=
  Table.get_set_ne _ _ h

@[simp] theorem State.linkOf_setLink_self (p : Pad) (l : LinkRec) : (s.setLink p l).linkOf p = l :=
  Table.get_set_self ..

@[simp] theorem State.linkOf_setLink_ne (p : Pad) (l : LinkRec) {q : Pad} (h : q ≠ p) :
    (s.setLink p l).linkOf q = s.linkOf q :=
  Table.get_set_ne _ _ h

@[simp] theorem Ports.get_set_self (ports : Ports) (port : Port) (r : PortRec) : (ports.set port r).get port = r := by
  cases port <;> rfl

@[simp] theorem Ports.get_set_ne (ports : Ports) (port : Port) (r : PortRec) {q : Port} (h : q ≠ port) :
    (ports.set port r).get q = ports.get q := by
  cases port <;> cases q <;> first | rfl | exact absurd rfl h

@[simp] theorem Ports.get_enter (ports : Ports) (pads : Pad → Bool) (field : Bool) (q : Port) :
    (ports.enter pads field).get q = (ports.get q).enter pads field := by
  cases q <;> rfl

@[simp] theorem Ports.set_get (ports : Ports) (port : Port) : ports.set port (ports.get port) = ports := by
  cases port <;> rfl

@[simp] theorem State.port_setPort_self (port : Port) (r : PortRec) : (s.setPort port r).port port = r :=
  Ports.get_set_self ..

@[simp] theorem State.port_setPort_ne (port : Port) (r : PortRec) {q : Port} (h : q ≠ port) :
    (s.setPort port r).port q = s.port q :=
  Ports.get_set_ne _ _ _ h

@[simp] theorem State.port_onPort_self (port : Port) (f : PortRec → PortRec) :
    (s.onPort port f).port port = f (s.port port) :=
  Ports.get_set_self ..

@[simp] theorem State.port_onPort_ne (port : Port) (f : PortRec → PortRec) {q : Port} (h : q ≠ port) :
    (s.onPort port f).port q = s.port q :=
  Ports.get_set_ne _ _ _ h

@[simp] theorem State.port_enterPads (pads : Pad → Bool) (q : Port) :
    (s.enterPads pads).port q = (s.port q).enter pads false :=
  Ports.get_enter ..

@[simp] theorem State.port_enterField (q : Port) :
    s.enterField.port q = (s.port q).enter (fun _ => false) true :=
  Ports.get_enter ..

@[simp] theorem State.port_setSessions (new : Table 24 SessionRec) (q : Port) :
    (s.setSessions new).port q =
      (s.port q).enter (fun p => decide ((s.sessions.get p).reported ≠ (new.get p).reported)) false :=
  Ports.get_enter ..

@[simp] theorem Lines.get_set_self (ls : Lines) (line : Line) (r : LineRec) : (ls.set line r).get line = r := by
  cases line <;> rfl

@[simp] theorem Lines.get_set_ne (ls : Lines) (line : Line) (r : LineRec) {l : Line} (h : l ≠ line) :
    (ls.set line r).get l = ls.get l := by
  cases line <;> cases l <;> first | rfl | exact absurd rfl h

@[simp] theorem State.level_takeLevel_self (line : Line) : (s.takeLevel line).level line = (s.lines.get line).raw := by
  simp [State.level, LineRec.level]

@[simp] theorem State.level_takeLevel_ne (line : Line) {l : Line} (h : l ≠ line) :
    (s.takeLevel line).level l = s.level l := by
  simp [State.level, h]

end Sys2Proof.Machine
end

