-- ==== Sys2Proof/Laws/Alloc.lean ====
section
/-! SUPPORT. What the allocator's and the supervisor's shared operations can do, once for each: which fields they may change,
and what they leave of the record they act on. -/

namespace Sys2Proof.Machine

/-! ## The end of an event (R79, R80) -/

/-- A raise release attempt over a list changes allocator records only. -/
theorem State.releaseFrom_frame (s : State) (pads : List Pad) :
    s.releaseFrom pads = { s with alloc := (s.releaseFrom pads).alloc } := by
  induction pads generalizing s with
  | nil => rfl
  | cons p rest ih =>
    rw [State.releaseFrom]
    split
    · exact ih _
    · rfl

/-- Each record a raise release attempt leaves is the one it found, or that one with its setpoint at its target. -/
theorem State.allocOf_releaseFrom (s : State) (pads : List Pad) (q : Pad) :
    (s.releaseFrom pads).allocOf q = s.allocOf q ∨
      q ∈ pads ∧ (s.releaseFrom pads).allocOf q = { s.allocOf q with setpoint := (s.allocOf q).target } := by
  induction pads generalizing s with
  | nil => exact .inl rfl
  | cons p rest ih =>
    rw [State.releaseFrom]
    split
    · by_cases h : q = p
      · subst h
        obtain h | ⟨-, h⟩ := ih (s.releaseRaise q) <;> exact .inr ⟨List.mem_cons_self, by rw [h]; simp⟩
      · obtain h' | ⟨hq, h'⟩ := ih (s.releaseRaise p)
        · exact .inl (by rw [h', State.allocOf_releaseRaise_ne _ _ h])
        · exact .inr ⟨.tail _ hq, by rw [h', State.allocOf_releaseRaise_ne _ _ h]⟩
    · exact .inl rfl

/-- The pads with a pending raise are those of the raise order (R79). -/
theorem State.pendingRaise_of_mem_raiseOrder {s : State} {p : Pad} (h : p ∈ s.raiseOrder) :
    (s.allocOf p).setpoint < (s.allocOf p).target := by
  simpa [State.raiseOrder, AllocRec.pendingRaise] using h

/-- A raise release attempt changes allocator records only. -/
theorem State.releaseAttempt_frame (s : State) :
    s.releaseAttempt = { s with alloc := s.releaseAttempt.alloc } := by
  rw [State.releaseAttempt]
  split
  · exact s.releaseFrom_frame _
  · rfl

/-- A raise release attempt leaves each record or releases its pending raise. -/
theorem State.allocOf_releaseAttempt (s : State) (q : Pad) :
    s.releaseAttempt.allocOf q = s.allocOf q ∨
      (s.allocOf q).setpoint < (s.allocOf q).target ∧
        s.releaseAttempt.allocOf q = { s.allocOf q with setpoint := (s.allocOf q).target } := by
  rw [State.releaseAttempt]
  split
  · obtain h | ⟨hq, h⟩ := s.allocOf_releaseFrom s.raiseOrder q
    · exact .inl h
    · exact .inr ⟨State.pendingRaise_of_mem_raiseOrder hq, h⟩
  · exact .inl rfl

/-- An attempt with no pending raise changes nothing. -/
theorem State.releaseAttempt_eq_self {s : State} (h : ∀ p, (s.allocOf p).target ≤ (s.allocOf p).setpoint) :
    s.releaseAttempt = s := by
  have : s.raiseOrder = [] := List.eq_nil_iff_forall_not_mem.mpr fun p hp =>
    Nat.not_lt.mpr (h p) (State.pendingRaise_of_mem_raiseOrder hp)
  simp [State.releaseAttempt, this, State.releaseFrom]

/-- The end of an event changes allocator records and the store only. -/
theorem finishEvent_frame (before after : State) :
    finishEvent before after =
      { after with alloc := (finishEvent before after).alloc, store := after.store.beginWrite } := by
  rw [finishEvent]
  split
  · rw [after.releaseAttempt_frame]; rfl
  · rfl

/-- The end of an event leaves each allocator record or releases its pending raise. -/
theorem allocOf_finishEvent (before after : State) (q : Pad) :
    (finishEvent before after).allocOf q = after.allocOf q ∨
      (after.allocOf q).setpoint < (after.allocOf q).target ∧
        (finishEvent before after).allocOf q = { after.allocOf q with setpoint := (after.allocOf q).target } := by
  rw [finishEvent]
  split
  · exact after.allocOf_releaseAttempt q
  · exact .inl rfl

/-- No exposure falls between two states with the same allocator records and ratings. -/
theorem exposureFell_eq_false {before after : State} (halloc : after.alloc = before.alloc)
    (hrating : after.store.image.rating = before.store.image.rating) : exposureFell before after = false := by
  simp [exposureFell, State.exposure, State.allocOf, State.rating, halloc, hrating]

/-- An event that keeps allocator records, ratings and ceiling ends with no more than a store write's beginning. -/
theorem finishEvent_of_same {before after : State} (halloc : after.alloc = before.alloc)
    (hrating : after.store.image.rating = before.store.image.rating)
    (hceiling : after.feeder.ceiling = before.feeder.ceiling) : finishEvent before after = after.beginWrite := by
  simp [finishEvent, exposureFell_eq_false halloc hrating, hceiling]

/-! ## Curtailment and clamps (R84, R86, R87) -/

theorem State.curtail_frame (s : State) : s.curtail = { s with alloc := s.curtail.alloc } := by
  rw [State.curtail]
  split <;> rfl

/-- Curtailment leaves a pad off the active list as it is. -/
theorem State.allocOf_curtail_of_not_mem {s : State} {p : Pad} (h : p ∉ s.active) :
    s.curtail.allocOf p = s.allocOf p := by
  rw [State.curtail]
  split
  · simp [h]
  · rfl

/-- Curtailment leaves an active pad's record, when the setpoints fit, or sets its setpoint and target to its share. -/
theorem State.allocOf_curtail_of_mem {s : State} {p : Pad} (h : p ∈ s.active) :
    s.curtail.allocOf p = s.allocOf p ∨
      ∃ x, x = curtailed (s.allocOf p).setpoint (s.feeder.ceiling - s.offListExposure)
          (sumOver s.activePads fun q => (s.allocOf q).setpoint) s.feeder.pmin ∧
        s.curtail.allocOf p = { s.allocOf p with setpoint := x, target := x } := by
  rw [State.curtail]
  split
  · exact .inr ⟨_, rfl, by simp [h]⟩
  · exact .inl rfl

/-- A share of a smaller budget is at most what is shared, when the total is not 0. -/
theorem curtailed_le {setpoint budget total pmin : Nat} (h : budget ≤ total) :
    curtailed setpoint budget total pmin ≤ setpoint := by
  rw [curtailed]
  split
  · exact Nat.zero_le _
  · obtain rfl | hpos := Nat.eq_zero_or_pos total
    · simp
    · exact Nat.div_le_of_le_mul (by rw [Nat.mul_comm]; exact Nat.mul_le_mul_right _ h)

/-- A curtailed setpoint is 0 or at least P_min. -/
theorem curtailed_eq_zero_or (setpoint budget total pmin : Nat) :
    curtailed setpoint budget total pmin = 0 ∨ pmin ≤ curtailed setpoint budget total pmin := by
  rw [curtailed]
  split <;> omega

theorem State.clampPad_frame (s : State) (p : Pad) :
    s.clampPad p = { s with alloc := (s.clampPad p).alloc, roundRequest := (s.clampPad p).roundRequest } := by
  rw [State.clampPad]
  split <;> rfl

/-- The clamp lowers setpoint and target of its pad to the limit. -/
theorem State.allocOf_clampPad_self (s : State) (p : Pad) :
    (s.clampPad p).allocOf p =
      { s.allocOf p with
        target := min (s.allocOf p).target (clampLimit (s.capOf p) s.feeder.pmin)
        setpoint := min (s.allocOf p).setpoint (clampLimit (s.capOf p) s.feeder.pmin) } := by
  rw [State.clampPad]
  dsimp only
  split <;> simp

theorem State.allocOf_clampPad_ne (s : State) (p : Pad) {q : Pad} (h : q ≠ p) :
    (s.clampPad p).allocOf q = s.allocOf q := by
  rw [State.clampPad]
  split <;> simp [h]

theorem clampLimit_le (cap pmin : Nat) : clampLimit cap pmin ≤ cap := by
  rw [clampLimit]; split <;> omega

theorem clampLimit_eq_zero_or (cap pmin : Nat) : clampLimit cap pmin = 0 ∨ pmin ≤ clampLimit cap pmin := by
  rw [clampLimit]; split <;> omega

theorem dropSmall_le (pmin kw : Nat) : dropSmall pmin kw ≤ kw := by
  rw [dropSmall]; split <;> omega

theorem dropSmall_eq_zero_or (pmin kw : Nat) : dropSmall pmin kw = 0 ∨ pmin ≤ dropSmall pmin kw := by
  rw [dropSmall]; split <;> omega

/-! ## Into and out of the collections (R33, R39, R41) -/

theorem State.leaveEligibility_frame (s : State) (p : Pad) :
    s.leaveEligibility p =
      { s with
        alloc := s.alloc.set p (s.allocOf p).idle
        queue := s.queue.erase p
        active := s.active.erase p
        roundRequest := s.roundRequest || decide (p ∈ s.active) } := by
  rw [State.leaveEligibility]
  split <;> simp_all [State.setAlloc, State.requestRound]

theorem State.toQueue_frame (s : State) (p : Pad) :
    s.toQueue p =
      { s with
        alloc := s.alloc.set p (s.allocOf p).idle
        queue := insertBefore (s.standsAfter p) p s.queue
        active := s.active.erase p } := rfl

/-- A session that goes back to the queue leaves the two collections together as they were. -/
theorem State.toQueue_perm {s : State} {p : Pad} (h : p ∈ s.active) :
    ((s.toQueue p).queue ++ (s.toQueue p).active).Perm (s.queue ++ s.active) := by
  rw [s.toQueue_frame p]
  have h1 := (insertBefore_perm (s.standsAfter p) p s.queue).append_right (s.active.erase p)
  have h2 : (p :: (s.queue ++ s.active.erase p)).Perm (s.queue ++ p :: s.active.erase p) := List.perm_middle.symm
  exact h1.trans (h2.trans ((List.perm_cons_erase h).symm.append_left _))

/-! ## The effective ceiling (R106, R112) -/

/-- The ceiling takes its new value and cause, FIELD enters the change sets, and a fall to 0 requests the STOP. -/
theorem State.setCeiling_frame (s : State) (t : Term) :
    s.setCeiling t =
      { s with
        feeder := { s.feeder with ceiling := t.value, cause := t.cause }
        ports := s.ports.enter (fun _ => false) true
        link :=
          { s.link with stopRequest := s.link.stopRequest || (decide (0 < s.feeder.ceiling) && t.value == 0) } } := by
  rw [State.setCeiling]
  split
  · rename_i h; simp [State.enterField, Bool.and_eq_true _ _ ▸ h]
  · rename_i h; simp [State.enterField, Bool.eq_false_iff.mpr h]

/-- Forming the ceiling again at a boundary changes ceiling, cause, change sets and the STOP request only. -/
theorem State.reformAtBoundary_frame (s : State) :
    s.reformAtBoundary =
      { s with
        feeder := { s.feeder with ceiling := s.formCeiling.value, cause := s.formCeiling.cause }
        ports := s.reformAtBoundary.ports
        link := s.reformAtBoundary.link } := by
  rw [State.reformAtBoundary]
  split
  · rename_i h; rw [h]
  · rw [s.setCeiling_frame]

/-- Forming the ceiling again inside a slot may change allocator records and the round request besides. -/
theorem State.reformInSlot_frame (s : State) :
    s.reformInSlot =
      { s with
        feeder := { s.feeder with ceiling := s.formCeiling.value, cause := s.formCeiling.cause }
        alloc := s.reformInSlot.alloc
        roundRequest := s.reformInSlot.roundRequest
        ports := s.reformInSlot.ports
        link := s.reformInSlot.link } := by
  rw [State.reformInSlot]
  split
  · rename_i h; rw [h]
  · dsimp only
    rw [s.setCeiling_frame]
    split
    · rw [State.curtail_frame]; rfl
    · rfl

end Sys2Proof.Machine
end

