-- ==== Sys2Proof/Laws/Events.lean ====
section
/-! SUPPORT. The shape of an event and of an answer: what an event leaves, when nothing is left to do at its end, what a
report does to a distrust hold, and that every command answers a next state. -/

namespace Sys2Proof.Machine

/-! ## Events -/

/-- An event of a powered part leaves what its own changes and its end leave. -/
theorem State.event_of_powered {s : State} (h : s.powered = true) (after : State) :
    s.event after = .next (finishEvent s after) := by
  simp [State.event, h]

/-- Without power an event changes nothing (R165; notes/assumptions/17.md). -/
theorem State.event_of_unpowered {s : State} (h : s.powered = false) (after : State) : s.event after = .next s := by
  simp [State.event, h]

/-- With the write queue empty or a write in progress, no write begins (R163). -/
theorem Store.beginWrite_eq_self {st : Store} (h : st.writing = none → st.writes = []) : st.beginWrite = st := by
  rw [Store.beginWrite]
  split
  · rename_i h1 h2
    rw [h h1] at h2
    cases h2
  · rfl

theorem State.beginWrite_eq_self {s : State} (h : s.store.writing = none → s.store.writes = []) :
    s.beginWrite = s := by
  rw [State.beginWrite, Store.beginWrite_eq_self h]

/-- An event that leaves allocator records, ratings, ceiling and store as they were ends with its own changes, when no write
waits to begin. -/
theorem State.event_of_same {s after : State} (hp : s.powered = true)
    (hs : s.store.writing = none → s.store.writes = []) (halloc : after.alloc = s.alloc)
    (hstore : after.store = s.store) (hceiling : after.feeder.ceiling = s.feeder.ceiling) :
    s.event after = .next after := by
  rw [State.event_of_powered hp, finishEvent_of_same halloc (by rw [hstore]) hceiling,
    State.beginWrite_eq_self (by rw [hstore]; exact hs)]

/-! ## Answers (R164, R171) -/

/-- An answer changes the port's pending request and the answers to send. -/
theorem State.answer_of_some {s : State} {port : Port} {q : Pending} (h : (s.port port).pending = some q)
    (status : Status) (body : List Byte) :
    s.answer port status body =
      s.setPort port
        { s.port port with
          pending := some { q with stage := .answered }
          tx := (s.port port).tx ++ [⟨true, ⟨q.code, q.tag, status, body⟩⟩] } := by
  rw [State.answer]; simp only [h]

theorem State.answer_of_none {s : State} {port : Port} (h : (s.port port).pending = none) (status : Status)
    (body : List Byte) : s.answer port status body = s := by
  rw [State.answer]; simp only [h]

/-- An answer changes its port's record only. -/
theorem State.answer_frame (s : State) (port : Port) (status : Status) (body : List Byte) :
    s.answer port status body = { s with ports := (s.answer port status body).ports } := by
  cases h : (s.port port).pending with
  | none => rw [State.answer_of_none h]
  | some q => rw [State.answer_of_some h]; rfl

/-- A held answer, or one made at once, changes its port's record only. -/
theorem State.answerAfter_frame (s : State) (port : Port) (waits : List StoreWait) (status : Status)
    (body : List Byte) :
    s.answerAfter port waits status body = { s with ports := (s.answerAfter port waits status body).ports } := by
  rw [State.answerAfter]
  split
  · exact s.answer_frame ..
  · dsimp only; split <;> rfl

/-- A handed request is a pending one. -/
theorem State.handedRequest_eq_some {s : State} {port : Port} {r : Request} (h : s.handedRequest port = some r) :
    ∃ code tag, (s.port port).pending = some ⟨code, tag, .handed r⟩ := by
  unfold State.handedRequest at h
  split at h
  · rename_i code tag q hq
    cases h
    exact ⟨code, tag, hq⟩
  · cases h

/-- A change of service mode changes the service state and the change sets (R154). -/
theorem State.setService_frame (s : State) (v : ServiceState) :
    s.setService v = { s with service := v, ports := (s.setService v).ports } := by
  rw [State.setService]
  split
  · rename_i h; rw [← h]
  · rfl

/-! ## A report and the distrust hold (R74, R141) -/

@[simp] theorem Handed.loseLink_report (p : Pad) (h : Handed) : (h.loseLink p).report = h.report := by
  unfold Handed.loseLink; split <;> rfl

@[simp] theorem Handed.loseLink_pad (p : Pad) (h : Handed) : (h.loseLink p).pad = h.pad := by
  unfold Handed.loseLink; split <;> rfl

/-- On a LOST link no report ends a hold. -/
@[simp] theorem Handed.endsHold_lost (h : Handed) : h.endsHold .lost = false := rfl

/-- A report from before a loss of its pad's link ends no hold, whatever the link is when it is taken. -/
@[simp] theorem Handed.endsHold_loseLink (h : Handed) (link : LinkState) :
    (h.loseLink h.pad).endsHold link = false := by
  simp [Handed.loseLink, Handed.endsHold]

/-- A report that counts a hold could end it. -/
theorem Handed.endsHold_of_countsHold {h : Handed} {link : LinkState} (hc : h.countsHold link = true) :
    h.endsHold link = true := by
  simp only [Handed.countsHold, Bool.and_eq_true] at hc
  exact hc.1

/-- The mode after the taking of a report: NORMAL after START, and a hold ends, counts down or stays. -/
theorem AllocRec.takeMode_mode (a : AllocRec) (r : Report) (ends counts : Bool) :
    (a.takeMode r ends counts).mode =
      match a.mode with
      | .start => .normal
      | .normal => .normal
      | .hold v k =>
        if ends ∧ r.measured ≤ 3 then .normal
        else if counts then (if k ≤ 1 then .normal else .hold v (k - 1))
        else .hold v k := by
  unfold AllocRec.takeMode AllocRec.countHold
  cases h : a.mode with
  | start => rfl
  | normal => exact h
  | hold v k =>
    dsimp only
    split
    · rfl
    · split
      · split <;> rfl
      · exact h

/-- The taking of a report by way of the mode changes the mode only. -/
theorem AllocRec.takeMode_frame (a : AllocRec) (r : Report) (ends counts : Bool) :
    a.takeMode r ends counts = { a with mode := (a.takeMode r ends counts).mode } := by
  obtain ⟨_, _, _, mode, _, _, _, _, _⟩ := a
  cases mode with
  | start => rfl
  | normal => rfl
  | hold v k =>
    simp only [AllocRec.takeMode, AllocRec.countHold, AllocRec.endHold, reduceCtorEq, if_false]
    repeat' split
    all_goals rfl

/-! ## Every command completes -/

/-- Every event answers a next state. -/
theorem State.event_next (s after : State) : ∃ t, s.event after = .next t := ⟨_, rfl⟩

/-- Every command answers a next state. -/
theorem exec_next (c : Instr) (s : State) : ∃ t, exec c s = .next t := by
  cases c <;> exact ⟨_, rfl⟩

end Sys2Proof.Machine
end

