-- ==== Sys2Proof/Laws/Frames.lean ====
section
/-! SUPPORT. The framing of the request link: stuffing and check undo each other, and stuffed content holds no marker (R182). -/

namespace Sys2Proof.Machine

/-! ## The check -/

@[simp] theorem length_checkBytes (bytes : List Byte) : (checkBytes bytes).length = 2 := rfl

@[simp] theorem length_withCheck (bytes : List Byte) : (withCheck bytes).length = bytes.length + 2 := by
  simp [withCheck]

/-- A check holds of the bytes it was made from. -/
@[simp] theorem stripCheck_withCheck (bytes : List Byte) : stripCheck (withCheck bytes) = some bytes := by
  have h : (withCheck bytes).take ((withCheck bytes).length - 2) = bytes := by
    rw [length_withCheck, Nat.add_sub_cancel, withCheck, List.take_left]
  rw [stripCheck, h, if_pos rfl]

/-- What a check holds of is the bytes before it. -/
theorem stripCheck_eq_some {content bytes : List Byte} (h : stripCheck content = some bytes) :
    content = withCheck bytes := by
  rw [stripCheck] at h
  split at h
  · rename_i hc
    rw [← Option.some.inj h]; exact hc
  · cases h

/-! ## Stuffing -/

theorem unstuff_cons {x : Byte} (h : x ≠ 0xF2#8) (l : List Byte) :
    unstuff (x :: l) = (unstuff l).map (x :: ·) := by
  cases l <;> simp [unstuff, h]

theorem unstuff_stuffByte (x : Byte) (l : List Byte) :
    unstuff (stuffByte x ++ l) = (unstuff l).map (x :: ·) := by
  rw [stuffByte]
  split
  · rename_i h
    obtain rfl | rfl | rfl := h <;> simp [unstuff]
  · rename_i h
    exact unstuff_cons (fun e => h (.inr (.inr e))) l

/-- Stuffing is undone by the receiver. -/
@[simp] theorem unstuff_stuff (content : List Byte) : unstuff (stuff content) = some content := by
  induction content with
  | nil => rfl
  | cons x rest ih =>
    rw [stuff, List.flatMap_cons, unstuff_stuffByte, ← stuff, ih]; rfl

/-- Stuffed content holds neither marker. -/
theorem not_marker_of_mem_stuff {content : List Byte} {x : Byte} (h : x ∈ stuff content) :
    x ≠ 0xF0#8 ∧ x ≠ 0xF1#8 := by
  obtain ⟨y, -, hy⟩ := List.mem_flatMap.mp h
  rw [stuffByte] at hy
  split at hy
  · rename_i hc
    obtain rfl | rfl | rfl := hc <;> obtain rfl | hy := List.mem_cons.mp hy <;>
      first | decide | (rw [List.mem_singleton.mp hy]; decide)
  · rename_i hc
    rw [List.mem_singleton] at hy
    subst hy
    exact ⟨fun e => hc (.inl e), fun e => hc (.inr (.inl e))⟩

/-- Stuffing at most doubles the content. -/
theorem length_stuff_le (content : List Byte) : (stuff content).length ≤ 2 * content.length := by
  induction content with
  | nil => exact Nat.le_refl _
  | cons x rest ih =>
    have h : (stuffByte x).length ≤ 2 := by rw [stuffByte]; split <;> simp
    rw [stuff, List.flatMap_cons, List.length_append, ← stuff, List.length_cons]
    omega

/-! ## Bytes and words -/

/-- The two bytes of a word make the word (R181). -/
@[simp] theorem wordOf_wordBytes (w : Word16) : wordOf (w.extractLsb' 8 8) (w.extractLsb' 0 8) = w := by
  unfold wordOf
  ext i hi
  simp only [BitVec.getElem_append, BitVec.getElem_extractLsb']
  split
  · simp only [Nat.zero_add]
    exact BitVec.getLsbD_eq_getElem (by omega)
  · rename_i h
    rw [show 8 + (i - 8) = i by omega, BitVec.getLsbD_eq_getElem]

@[simp] theorem length_wordBytes (w : Word16) : (wordBytes w).length = 2 := rfl

@[simp] theorem length_word (n : Nat) : (word n).length = 2 := rfl

end Sys2Proof.Machine
end

