-- ==== Sys2Proof/Laws/Round.lean ====
section
/-! SUPPORT. What the parts of a round can do: an amount shared out, the admission step, and the targets. -/

namespace Sys2Proof.Machine

/-! ## Sharing out (R58, R60) -/

@[simp] theorem weightSum_nil : weightSum [] = 0 := rfl

@[simp] theorem weightSum_cons (w : Pad × Nat) (ws : List (Pad × Nat)) :
    weightSum (w :: ws) = w.2 + weightSum ws := by
  simp [weightSum]

@[simp] theorem weightSum_append (us ws : List (Pad × Nat)) :
    weightSum (us ++ ws) = weightSum us + weightSum ws := by
  simp [weightSum]

@[simp] theorem map_fst_handOut (left : Nat) (l : List (Pad × Nat × Nat)) :
    (handOut left l).map (·.1) = l.map (·.1) := by
  induction l generalizing left with
  | nil => rfl
  | cons x rest ih =>
    obtain ⟨p, w, share⟩ := x
    rw [handOut]
    split <;> simp [ih]

/-- What is handed out comes to the shares and no more than what is left. -/
theorem weightSum_handOut_le (left : Nat) (l : List (Pad × Nat × Nat)) :
    weightSum (handOut left l) ≤ (l.map (·.2.2)).sum + left := by
  induction l generalizing left with
  | nil => exact Nat.zero_le _
  | cons x rest ih =>
    obtain ⟨p, w, share⟩ := x
    rw [handOut]
    split
    · have := ih (left - 1); simp only [weightSum_cons, List.map_cons, List.sum_cons]; omega
    · have := ih left; simp only [weightSum_cons, List.map_cons, List.sum_cons]; omega

theorem sum_shares_le (amount : Nat) (ws : List (Pad × Nat)) (total : Nat) :
    ((ws.map fun w => (w.1, w.2, amount * w.2 / total)).map (·.2.2)).sum ≤ amount * weightSum ws / total := by
  induction ws with
  | nil => simp
  | cons w rest ih =>
    simp only [List.map_cons, List.sum_cons, weightSum_cons, Nat.mul_add]
    exact Nat.le_trans (Nat.add_le_add_left ih _) Nat.div_add_div_le_add_div

/-- No more is shared out than there is. -/
theorem weightSum_portion_le (amount : Nat) (ws : List (Pad × Nat)) : weightSum (portion amount ws) ≤ amount := by
  unfold portion
  dsimp only
  split
  · assumption
  · rename_i h
    refine Nat.le_trans (weightSum_handOut_le _ _) ?_
    have h1 := sum_shares_le amount ws (weightSum ws)
    have h2 : amount * weightSum ws / weightSum ws ≤ amount := Nat.div_le_of_le_mul (by rw [Nat.mul_comm])
    omega

@[simp] theorem map_fst_portion (amount : Nat) (ws : List (Pad × Nat)) :
    (portion amount ws).map (·.1) = ws.map (·.1) := by
  unfold portion
  dsimp only
  split <;> simp

/-- Each share of an amount is at most its weight. -/
theorem portion_le_weight {amount : Nat} {ws : List (Pad × Nat)} {x : Pad × Nat} (hx : x ∈ portion amount ws) :
    ∃ w ∈ ws, w.1 = x.1 ∧ x.2 ≤ w.2 := by
  unfold portion at hx
  dsimp only at hx
  split at hx
  · exact ⟨x, hx, rfl, Nat.le_refl _⟩
  · rename_i htotal
    have key : ∀ (l : List (Pad × Nat)) (left : Nat), (∀ w ∈ l, w ∈ ws) →
        x ∈ handOut left (l.map fun w => (w.1, w.2, amount * w.2 / weightSum ws)) →
        ∃ w ∈ ws, w.1 = x.1 ∧ x.2 ≤ w.2 := by
      intro l
      induction l with
      | nil => intro left _ h; simp [handOut] at h
      | cons w rest ih =>
        intro left hsub h
        have hlt : 0 < w.2 → amount * w.2 / weightSum ws < w.2 := fun hw =>
          Nat.div_lt_of_lt_mul (Nat.mul_lt_mul_of_pos_right (by omega) hw)
        have hle : amount * w.2 / weightSum ws ≤ w.2 := by
          obtain h0 | h0 := Nat.eq_zero_or_pos w.2
          · simp [h0]
          · exact Nat.le_of_lt (hlt h0)
        rw [List.map_cons, handOut] at h
        split at h
        · rename_i hc
          obtain rfl | h := List.mem_cons.mp h
          · exact ⟨w, hsub w List.mem_cons_self, rfl, hlt hc.1⟩
          · exact ih _ (fun v hv => hsub v (.tail _ hv)) h
        · obtain rfl | h := List.mem_cons.mp h
          · exact ⟨w, hsub w List.mem_cons_self, rfl, hle⟩
          · exact ih _ (fun v hv => hsub v (.tail _ hv)) h
    exact key ws _ (fun _ h => h) hx

/-- What the hand-out of a leftover gives a pad of a list in ascending pad number (R58, R60). -/
theorem grantOf_handOut (w share : Pad → Nat) (p : Pad) :
    ∀ (pads : List Pad) (left : Nat), pads.Pairwise (· < ·) → p ∈ pads →
      grantOf (handOut left (pads.map fun q => (q, w q, share q))) p =
        share p + if 0 < w p ∧ pads.countP (fun q => decide (q < p) && decide (0 < w q)) < left then 1 else 0 := by
  intro pads
  induction pads with
  | nil => intro _ _ h; simp at h
  | cons q rest ih =>
    intro left hs hp
    obtain ⟨hq, hr⟩ := List.pairwise_cons.mp hs
    rcases List.mem_cons.mp hp with rfl | hp'
    · have h0 : (p :: rest).countP (fun q => decide (q < p) && decide (0 < w q)) = 0 := by
        rw [List.countP_eq_zero]
        intro x hx
        rcases List.mem_cons.mp hx with rfl | hx
        · simp
        · simp [not_lt.mpr (hq x hx).le]
      rw [h0]
      simp only [List.map_cons, handOut]
      split <;> simp [grantOf]
    · have hlt := hq p hp'
      have hne : q ≠ p := hlt.ne
      rw [List.countP_cons]
      simp only [List.map_cons, handOut]
      by_cases hw : 0 < w q
      · by_cases hl : 0 < left
        · rw [if_pos ⟨hw, hl⟩]
          have := ih (left - 1) hr hp'
          simp only [grantOf, List.find?_cons, hne, decide_false] at this ⊢
          rw [this]
          simp only [hlt, hw, decide_true, Bool.and_self, if_true]
          congr 2
          exact propext (and_congr_right fun _ => by omega)
        · rw [if_neg fun h => hl h.2]
          have := ih left hr hp'
          simp only [grantOf, List.find?_cons, hne, decide_false] at this ⊢
          rw [this]
          simp only [hlt, hw, decide_true, Bool.and_self, if_true]
          congr 2
          exact propext (and_congr_right fun _ => by omega)
      · rw [if_neg fun h => hw h.1]
        have := ih left hr hp'
        simp only [grantOf, List.find?_cons, hne, decide_false] at this ⊢
        rw [this]
        simp [hw]

/-- A weight of a list of pads, found under its pad. -/
theorem grantOf_map (w : Pad → Nat) (p : Pad) : ∀ pads : List Pad, p ∈ pads → grantOf (pads.map fun q => (q, w q)) p = w p := by
  intro pads
  induction pads with
  | nil => intro h; simp at h
  | cons q rest ih =>
    intro h
    by_cases hq : q = p
    · subst hq; simp [grantOf]
    · have := ih ((List.mem_cons.mp h).resolve_left (Ne.symm hq))
      simpa [grantOf, List.find?_cons, hq] using this

/-- An amount shared over the weights of a list of pads in ascending pad number gives each pad its share (R58, R60). -/
theorem grantOf_portion (amount : Nat) (w : Pad → Nat) (pads : List Pad) (hs : pads.Pairwise (· < ·)) (p : Pad)
    (hp : p ∈ pads) : grantOf (portion amount (pads.map fun q => (q, w q))) p = shareOf amount pads w p := by
  have hsum : weightSum (pads.map fun q => (q, w q)) = sumOver pads w := by
    simp [weightSum, sumOver, List.map_map, Function.comp_def]
  simp only [portion, shareOf, hsum]
  split
  · exact grantOf_map w p pads hp
  · simp only [List.map_map, Function.comp_def]
    exact grantOf_handOut w _ p pads _ hs hp

/-! ## Admission (R34 to R40) -/

/-- What an admission step may change: allocator records and the two collections. -/
theorem State.admission_frame (s : State) (budget : Nat) :
    s.admission budget =
      { s with
        alloc := (s.admission budget).alloc
        queue := (s.admission budget).queue
        active := (s.admission budget).active } := by
  have suspendUntil : ∀ (vs : List Pad) (a : Admission) (b d : Nat),
      (a.suspendUntil b d vs).state =
        { a.state with
          alloc := (a.suspendUntil b d vs).state.alloc
          queue := (a.suspendUntil b d vs).state.queue
          active := (a.suspendUntil b d vs).state.active } := by
    intro vs
    induction vs with
    | nil => intro a b d; rfl
    | cons v rest ih =>
      intro a b d
      rw [Admission.suspendUntil]
      split
      · rfl
      · exact ih _ _ _
  have consider : ∀ (fuel : Nat) (a : Admission),
      (Admission.consider budget fuel a).state =
        { a.state with
          alloc := (Admission.consider budget fuel a).state.alloc
          queue := (Admission.consider budget fuel a).state.queue
          active := (Admission.consider budget fuel a).state.active } := by
    intro fuel
    induction fuel with
    | zero => intro a; rfl
    | succ fuel ih =>
      intro a
      rw [Admission.consider]
      split
      · rfl
      · dsimp only
        split
        · exact ih _
        · split
          · exact ih _
          · split
            · rename_i c _ _ _ _
              rw [ih]
              have h := suspendUntil a.state.suspensionOrder a budget (a.state.admissionDemand c)
              simp only [Admission.enlist, State.setAlloc]
              rw [h]
            · rfl
  exact consider _ _

/-- A candidate that is admitted leaves the two collections together as they were. -/
theorem Admission.admit_perm {a : Admission} {c : Pad} {d : Nat} (h : c ∈ a.state.queue) :
    ((a.enlist c d).state.queue ++ (a.enlist c d).state.active).Perm (a.state.queue ++ a.state.active) := by
  change (a.state.queue.erase c ++ (a.state.active ++ [c])).Perm _
  rw [← List.append_assoc]
  exact List.perm_append_comm.trans (((List.perm_cons_erase h).symm.append_right _))

/-- The demands that count after suspensions are those of the sessions not suspended. -/
theorem Admission.counted_suspend_foldl (gone : List Pad) (a : Admission) :
    (gone.foldl Admission.suspend a).counted = a.counted.filter fun w => decide (w.1 ∉ gone) := by
  induction gone generalizing a with
  | nil => simp
  | cons v rest ih =>
    rw [List.foldl_cons, ih]
    simp only [Admission.suspend, List.filter_filter]
    congr 1
    funext w
    simp only [List.mem_cons, not_or, Bool.decide_and]
    exact Bool.and_comm _ _

/-- Suspension takes a first part of the list, one session at a time, up to the first at which the candidate fits, or the
whole list (R37). -/
theorem Admission.suspendUntil_spec (budget d : Nat) (vs : List Pad) (a : Admission) :
    ∃ gone rest, vs = gone ++ rest ∧ a.suspendUntil budget d vs = gone.foldl Admission.suspend a ∧
      (rest = [] ∨ d + weightSum (gone.foldl Admission.suspend a).counted ≤ budget) ∧
      ∀ j, j < gone.length → budget < d + weightSum ((gone.take j).foldl Admission.suspend a).counted := by
  induction vs generalizing a with
  | nil => exact ⟨[], [], rfl, rfl, .inl rfl, fun j h => absurd h (Nat.not_lt_zero j)⟩
  | cons v vs ih =>
    rw [Admission.suspendUntil]
    split
    · rename_i hfit
      exact ⟨[], v :: vs, rfl, rfl, .inr hfit, fun j h => absurd h (Nat.not_lt_zero j)⟩
    · rename_i hno
      obtain ⟨gone, rest, hvs, heq, hend, hmin⟩ := ih (a.suspend v)
      refine ⟨v :: gone, rest, by rw [hvs, List.cons_append], heq, hend, ?_⟩
      rintro (_ | j) hj
      · exact Nat.lt_of_not_le hno
      · exact hmin j (Nat.lt_of_succ_lt_succ hj)

/-! ## Targets and starvation (R63, R66) -/

/-- The targets change allocator records only. -/
theorem State.applyTargets_frame (s : State) (gs : List (Pad × Nat)) :
    s.applyTargets gs = { s with alloc := (s.applyTargets gs).alloc } := rfl

theorem State.allocOf_applyTargets (s : State) (gs : List (Pad × Nat)) (p : Pad) :
    (s.applyTargets gs).allocOf p =
      if p ∈ s.active then
        { s.allocOf p with target := grantOf gs p, setpoint := min (s.allocOf p).setpoint (grantOf gs p) }
      else { s.allocOf p with target := 0 } := by
  rw [State.applyTargets, State.allocOf_setAllocs]

/-- Setting the ramp bases changes the ramp bases of active pads only. -/
theorem State.allocOf_setRampBases (s : State) (p : Pad) :
    s.setRampBases.allocOf p =
      if p ∈ s.active then { s.allocOf p with rampBase := (s.allocOf p).setpoint } else s.allocOf p := by
  rw [State.setRampBases, State.allocOf_setAllocs]

/-- The need is at most the cap. -/
theorem needOf_le_cap (remaining slotsLeft cap : Nat) : needOf remaining slotsLeft cap ≤ cap := by
  unfold needOf
  split
  · exact Nat.zero_le _
  · split
    · exact Nat.le_refl _
    · exact Nat.min_le_right _ _

/-- The reach is at most the cap and at most a ramp step above the ramp base. -/
theorem State.reachOf_le (s : State) (p : Pad) :
    s.reachOf p ≤ s.capOf p ∧ s.reachOf p ≤ (s.allocOf p).rampBase + s.feeder.ramp := by
  unfold State.reachOf
  split <;> omega

/-- The demand is at most the reach. -/
theorem State.demandOf_le_reachOf (s : State) (p : Pad) : s.demandOf p ≤ s.reachOf p := by
  unfold State.demandOf
  split
  · exact Nat.zero_le _
  · exact Nat.min_le_right _ _

end Sys2Proof.Machine
end

