-- ==== Sys2Proof/Laws/Session.lean ====
section
/-! SUPPORT. What the session controller's shared operations can do: endings, latches, accounting, and a report's taking. -/

namespace Sys2Proof.Machine

/-! ## Endings (R22) and latches (R23, R153) -/

/-- Closing a pad changes the session table and the change sets, and for an ELIGIBLE pad what leaving eligibility
changes. -/
theorem State.closePad_frame (s : State) (p : Pad) (ending : Ending) (body : PadBody) :
    s.closePad p ending body =
      { s with
        sessions := (s.closePad p ending body).sessions
        alloc := (s.closePad p ending body).alloc
        queue := (s.closePad p ending body).queue
        active := (s.closePad p ending body).active
        roundRequest := (s.closePad p ending body).roundRequest
        ports := (s.closePad p ending body).ports } := by
  rw [State.closePad]
  split
  · rw [s.leaveEligibility_frame]; rfl
  · rfl

/-- The record of a closed pad: the new body, the token sequence it had, and the outcome of a session that was open. -/
theorem State.session_closePad_self (s : State) (p : Pad) (ending : Ending) (body : PadBody) :
    (s.closePad p ending body).session p =
      { s.session p with
        body := body
        last := match outcomeOf (s.session p).body ending s.timer.slot with
          | some o => some o
          | none => (s.session p).last } := by
  exact State.session_setSession_self _ _ _

theorem State.session_closePad_ne (s : State) (p : Pad) (ending : Ending) (body : PadBody) {q : Pad} (h : q ≠ p) :
    (s.closePad p ending body).session q = s.session q := by
  rw [State.closePad, State.session_setSession_ne _ _ _ h]
  split
  · rw [s.leaveEligibility_frame]; rfl
  · rfl

theorem State.closePad_store (s : State) (p : Pad) (ending : Ending) (body : PadBody) :
    (s.closePad p ending body).store = s.store := by
  rw [s.closePad_frame]

/-- What a latch does to the session table it does by closing the pad, or not at all. -/
theorem State.faultPad_eq (s : State) (p : Pad) :
    s.faultPad p = s.closePad p .fault .faulted ∨
      s.faultPad p = s ∧ ((s.session p).body = .faulted ∨ (s.session p).body = .locked) := by
  rw [State.faultPad]
  split
  · rename_i h; exact .inr ⟨rfl, .inl h⟩
  · rename_i h; exact .inr ⟨rfl, .inr h⟩
  · exact .inl rfl

theorem State.loseLink_eq (s : State) (p : Pad) :
    s.loseLink p = s.closePad p .linkLost .offline ∨
      s.loseLink p = s ∧
        ((s.session p).body = .faulted ∨ (s.session p).body = .locked ∨ (s.session p).body = .offline) := by
  rw [State.loseLink]
  split
  · rename_i h; exact .inr ⟨rfl, .inl h⟩
  · rename_i h; exact .inr ⟨rfl, .inr (.inl h)⟩
  · rename_i h; exact .inr ⟨rfl, .inr (.inr h)⟩
  · exact .inl rfl

theorem State.faultPad_store (s : State) (p : Pad) : (s.faultPad p).store = s.store := by
  obtain h | ⟨h, -⟩ := s.faultPad_eq p
  · rw [h, s.closePad_store]
  · rw [h]

/-- The record after a latch: the first fault's record, or the one held with its repeat count up by one to at most 15. -/
theorem State.faultOf_latch_self (s : State) (p : Pad) (cause : FaultCause) (code tag : Option Nat) (holdValue : Nat) :
    (s.latch p cause code tag holdValue).faultOf p =
      some (latchedRecord (s.faultOf p) cause code s.timer.slot tag) := by
  rw [State.latch]
  split
  · rename_i h
    rw [← h, State.faultOf, State.faultPad_store]; rfl
  · simp [State.faultOf, Store.change, Store.enqueue, StoreImage.put]
    split <;> simp

/-- A record that is latched stays so, with its cause, code, slot and tag (R153). -/
theorem latchedRecord_of_some (r : FaultRec) (cause : FaultCause) (code tag : Option Nat) (slot : Word16) :
    latchedRecord (some r) cause code slot tag = { r with repeats := min 15 (r.repeats + 1) } := rfl

/-! ## Accounting (R14) -/

/-- Delivered never falls. -/
theorem Meter.delivered_le_account (m : Meter) (v : Option Word16) (h : m.delivered ≤ 65535) :
    m.delivered ≤ (m.account v).delivered := by
  unfold Meter.account
  split
  · exact Nat.le_refl _
  · split
    · exact Nat.le_refl _
    · dsimp only; split <;> dsimp only <;> omega

/-- Accounting leaves the soft-fault run. -/
@[simp] theorem Meter.account_softRun (m : Meter) (v : Option Word16) : (m.account v).softRun = m.softRun := by
  unfold Meter.account
  split
  · rfl
  · split
    · rfl
    · dsimp only; split <;> rfl

/-- Delivered and jumps stay in their ranges. -/
theorem Meter.account_inRange {m : Meter} (v : Option Word16) (hd : m.delivered ≤ 65535) (hj : m.jumps ≤ 255) :
    (m.account v).delivered ≤ 65535 ∧ (m.account v).jumps ≤ 255 := by
  unfold Meter.account
  split
  · exact ⟨hd, hj⟩
  · split
    · exact ⟨hd, hj⟩
    · dsimp only; split <;> exact ⟨by dsimp only; omega, by dsimp only; omega⟩

/-- Accounting keeps the name, the token, the tag and the terms of a body. -/
@[simp] theorem PadBody.account_name (b : PadBody) (v : Option Word16) : (b.account v).name = b.name := by
  cases b with
  | matched phase => cases phase <;> rfl
  | _ => rfl

@[simp] theorem PadBody.account_token (b : PadBody) (v : Option Word16) : (b.account v).token = b.token := by
  unfold PadBody.account; split <;> rfl

@[simp] theorem PadBody.account_tag (b : PadBody) (v : Option Word16) : (b.account v).tag = b.tag := by
  unfold PadBody.account; split <;> rfl

@[simp] theorem PadBody.account_terms (b : PadBody) (v : Option Word16) : (b.account v).terms = b.terms := by
  unfold PadBody.account; split <;> rfl

/-- A report from before the link loss makes no transition on an OFFLINE pad (R25, R139). -/
theorem State.reportTransition_offline_lostSince {s : State} {p : Pad} (h : (s.session p).body = .offline) (r : Report) :
    s.reportTransition p r true = s := by
  simp [State.reportTransition, h]

/-- The hold value of a latch counts the exposure as it stands, and the report once the allocator has taken it, unless the
report ended START (R73, R75). -/
theorem State.le_latchHoldValue {s : State} {h : Handed} {before : Before} (hs : before.wasStart = false) :
    s.exposure h.pad ≤ s.latchHoldValue h before ∧
      (h.byAllocator = true → h.report.measured ≤ s.latchHoldValue h before) := by
  refine ⟨?_, fun ha => ?_⟩
  · simp only [State.latchHoldValue, hs]; simp only [Bool.false_eq_true, if_false]; omega
  · simp only [State.latchHoldValue, hs, ha]; simp only [Bool.false_eq_true, if_false, if_true]; omega

end Sys2Proof.Machine
end

