-- ==== Sys2Proof/Laws/Store.lean ====
section
/-! SUPPORT. What the retained store's operations can do: the image, the write queue, and the write in progress (R163). -/

namespace Sys2Proof.Machine

/-! ## Records of an image -/

@[simp] theorem StoreImage.content_put_self (img : StoreImage) (pad : Pad) (c : Content) :
    (img.put pad c).content ⟨c.kind, pad⟩ = c := by
  cases c <;> simp [StoreImage.put, StoreImage.content, Content.kind]

/-- Putting one record leaves every other one. -/
theorem StoreImage.content_put_ne (img : StoreImage) (pad : Pad) (c : Content) {id : RecordId}
    (h : id ≠ ⟨c.kind, pad⟩) : (img.put pad c).content id = img.content id := by
  obtain ⟨kind, p⟩ := id
  have hp : kind = c.kind → p ≠ pad := fun hk hp => h (by rw [hk, hp])
  cases c <;> cases kind <;>
    first | rfl | simp [StoreImage.put, StoreImage.content, Table.get_set_ne _ _ (hp rfl)]

/-! ## The write queue (R163) -/

theorem Store.enqueue_nodup {st : Store} (h : st.writes.Nodup) (id : RecordId) : (st.enqueue id).writes.Nodup := by
  rw [Store.enqueue]
  split
  · exact h
  · rename_i hid
    exact List.nodup_append.mpr ⟨h, List.nodup_singleton _, fun a ha b hb hab => hid (by
      rw [List.mem_singleton] at hb; rwa [hab, hb] at ha)⟩

@[simp] theorem Store.mem_enqueue {st : Store} {id x : RecordId} :
    x ∈ (st.enqueue id).writes ↔ x ∈ st.writes ∨ x = id := by
  rw [Store.enqueue]
  split
  · rename_i h
    exact ⟨.inl, fun hx => hx.elim (fun hx => hx) fun hx => hx ▸ h⟩
  · simp

/-- Queueing a write changes the write queue only. -/
theorem Store.enqueue_frame (st : Store) (id : RecordId) :
    st.enqueue id = { st with writes := (st.enqueue id).writes } := by
  rw [Store.enqueue]
  split <;> rfl

/-- A change of a record changes the image and queues the record's write. -/
theorem Store.change_frame (st : Store) (pad : Pad) (c : Content) :
    st.change pad c = { st with image := st.image.put pad c, writes := (st.change pad c).writes } := by
  rw [Store.change, Store.enqueue_frame]

@[simp] theorem Store.mem_change {st : Store} {pad : Pad} {c : Content} {x : RecordId} :
    x ∈ (st.change pad c).writes ↔ x ∈ st.writes ∨ x = ⟨c.kind, pad⟩ := by
  rw [Store.change, Store.mem_enqueue]

/-- The beginning of a write keeps image and cells, and afterwards the queue is empty while no write is in progress. -/
theorem Store.beginWrite_frame (st : Store) :
    st.beginWrite.image = st.image ∧ st.beginWrite.cells = st.cells ∧
      (st.beginWrite.writing = none → st.beginWrite.writes = []) := by
  rw [Store.beginWrite]
  split
  · exact ⟨rfl, rfl, fun h => by cases h⟩
  · rename_i hn
    refine ⟨rfl, rfl, fun h => ?_⟩
    cases hw : st.writes with
    | nil => rfl
    | cons id rest => exact absurd hw (hn id rest h)

/-- A record whose write is queued or in progress stays so when a write begins. -/
theorem Store.pending_beginWrite {st : Store} {id : RecordId}
    (h : id ∈ st.writes ∨ st.writing.map (·.id) = some id) :
    id ∈ st.beginWrite.writes ∨ st.beginWrite.writing.map (·.id) = some id := by
  rw [Store.beginWrite]
  split
  · rename_i x rest hn hw
    rw [hn, hw] at h
    obtain h | h := h
    · obtain rfl | h := List.mem_cons.mp h
      · exact .inr rfl
      · exact .inl h
    · cases h
  · exact h

/-- The completion of a write brings what it took to the cells and keeps image and queue. -/
theorem Store.completeWrite_of_some {st : Store} {w : Writing} (h : st.writing = some w) :
    st.completeWrite = { st with cells := st.cells.put w.id.pad w.content, writing := none } := by
  rw [Store.completeWrite]; simp only [h]

end Sys2Proof.Machine
end

