-- ==== Sys2Proof/WellFormed.lean ====
section
/-! DEFINITION. Which commands can come from outside: the shape of the bytes that FRAME_RECEIVED and POLL_REPORT carry. -/

namespace Sys2Proof

/-- A string of RX bytes that ends a frame: it holds one closing marker F1h, its last byte (R182). -/
def endsOneFrame (bytes : List Byte) : Bool :=
  (bytes.getLast? == some 0xF1#8) && (bytes.count 0xF1#8 == 1)

/-- A command with operands the outside world can produce. The longest request frame has 76 bytes with its markers
(R182), and an arrival in a reply window brings at least one byte (R186). -/
def Instr.wellFormed : Instr → Bool
  | .frameReceived _ bytes => endsOneFrame bytes && decide (bytes.length ≤ 76)
  | .pollReport reply => !reply.isEmpty
  | _ => true

end Sys2Proof
end

