-- ==== Sys2Proof/Tests/Slice0.lean ====
section
/-! SUPPORT. The model's own tests: ill-formed commands, single events with the results that the manual's worked examples give,
and, for every obligation with hypotheses, a concrete state and operands that meet them all. -/

namespace Sys2Proof.Tests

open Sys2Proof.Machine

/-! ## Building states -/

/-- What a command leaves. -/
def after (c : Instr) (s : State) : State :=
  match exec c s with
  | .next t => t
  | _ => s

/-- What a step leaves. -/
def stepped (s : State) : State :=
  match step s with
  | .next t => t
  | _ => s

/-- A field with every pad rated 200 kW and past its START, in dedicated mode under the fallback ceiling of 1,000 kW. -/
def field : State :=
  let on : LineRec := ⟨true, some true⟩
  { State.reset with
    store := .loaded { StoreImage.factory with rating := .fill 24 200 }
    alloc := .fill 24 { AllocRec.reset with mode := .normal }
    lines := { Lines.inactive with fldEnable := on, srcALive := on, srcATaken := on }
    feeder := { Feeder.reset with fallback := 1000, ceiling := 1000, cause := .fallback }
    link := { LinkCtl.reset with stopRequest := false } }

/-- A pad takes a body. -/
def withBody (p : Pad) (b : PadBody) (s : State) : State :=
  { s with sessions := s.sessions.set p { s.session p with body := b } }

/-- An ELIGIBLE body with class, energy left, deadline and soft-fault run. -/
def eligible (cls : Sys2Proof.Class) (left : Nat) (deadline : Word16) : PadBody :=
  .matched .eligible 7 100 ⟨cls, left, deadline⟩ ⟨0, none, 0, 0⟩

/-- A pad is ELIGIBLE and at the tail of the admission queue. -/
def queued (p : Pad) (cls : Sys2Proof.Class) (left : Nat) (deadline : Word16) (s : State) : State :=
  { withBody p (eligible cls left deadline) s with queue := s.queue ++ [p] }

/-- A pad is ELIGIBLE and at the tail of the active list, with a setpoint, a target and a measured power. -/
def active (p : Pad) (cls : Sys2Proof.Class) (left : Nat) (deadline : Word16) (setpoint target measured : Nat) (s : State) :
    State :=
  let t := withBody p (eligible cls left deadline) s
  { t with
    active := s.active ++ [p]
    alloc := s.alloc.set p { s.allocOf p with setpoint := setpoint, target := target, measured := measured } }

/-- A pad takes a rating. -/
def rated (p : Pad) (kw : Nat) (s : State) : State :=
  { s with store := { s.store with image := { s.store.image with rating := s.store.image.rating.set p kw } } }

/-- A pad is LOCKED, with its flag set, or FAULTED, with a record. -/
def locked (p : Pad) (s : State) : State :=
  { withBody p .locked s with
    store := { s.store with image := { s.store.image with lockout := s.store.image.lockout.set p true } } }

def faulted (p : Pad) (s : State) : State :=
  { withBody p .faulted s with
    store :=
      { s.store with
        image := { s.store.image with fault := s.store.image.fault.set p (some ⟨.chargerHard, some 17, 5, none, 0⟩) } } }

/-- A port holds a request that it has handed on. -/
def asks (port : Port) (r : Request) (s : State) : State :=
  s.setPort port { s.port port with pending := some ⟨r.kind.code, 7, .handed r⟩ }

/-- A slot number and a phase. -/
def clock (slot : Word16) (phase : Nat) (s : State) : State := { s with timer := ⟨slot, phase, .running⟩ }

/-- An effective ceiling from the fallback, with a ramp step. -/
def under (ceiling ramp : Nat) (s : State) : State :=
  { s with feeder := { s.feeder with fallback := ceiling, ceiling := ceiling, ramp := ramp } }

/-- An exchange in progress. -/
def polling (p : Pad) (s : State) : State := { s with link := { s.link with exchange := some p } }

/-- A service state with SVC_KEY active. -/
def service (v : ServiceState) (s : State) : State :=
  { s with service := v, lines := { s.lines with svcKey := ⟨true, some true⟩ } }

/-- A report of a pad, in transit. -/
def report (state : ChargerState) (echo measured : Nat) (meter : Option Word16) (tag : Option Nat) : Report :=
  ⟨state, echo, measured, meter, tag, none, none⟩

def transit (h : Handed) (s : State) : State := { s with handed := [h] }

def fresh (p : Pad) (r : Report) : Handed := ⟨p, r, false, false, none, false, false, false, false⟩

/-! ## Ill-formed commands -/

theorem test_frame_without_closing_marker : (Instr.frameReceived .d [0xF0#8, 1, 5]).wellFormed = false := by decide

theorem test_frame_with_two_closing_markers :
    (Instr.frameReceived .d [0xF0#8, 1, 0xF1#8, 5, 0xF1#8]).wellFormed = false := by decide

theorem test_frame_of_77_bytes :
    (Instr.frameReceived .d (List.replicate 76 0#8 ++ [0xF1#8])).wellFormed = false := by decide

theorem test_arrival_of_no_bytes : (Instr.pollReport []).wellFormed = false := by decide

theorem test_ping_frame_wellFormed :
    (Instr.frameReceived .f [0xF0#8, 1, 5, 0, 6, 0x0D#8, 0xF1#8]).wellFormed = true := by decide

theorem test_no_word_spells_a_command : decodeTableWord 16 0 = none := by decide

/-! ## Worked examples of the manual, one event each -/

/-- Example 11.1: the PING frame, and the answer on the F-port of field 6. -/
theorem test_ping_received :
    ((after (.frameReceived .f [0xF0#8, 1, 5, 0, 6, 0x0D#8, 0xF1#8]) field).port .f).pending =
      some ⟨1, 5, .handed .ping⟩ := by decide

theorem test_ping_answer :
    ((after (.ping .f) { asks .f .ping field with fieldId := 6 }).port .f).tx =
      [⟨true, ⟨1, 7, .ok, [2, 6]⟩⟩] := by decide

theorem test_ping_answer_frame :
    (Answer.mk 1 5 .ok [2, 6]).frame = [0xF0#8, 1, 5, 0, 2, 6, 0x0E#8, 0x23#8, 0xF1#8] := by decide

/-- Example 11.2: pad 14's reply. -/
theorem test_reply_decoded :
    decodeReply 14 (withCheck [2, 0x0E#8, 3, 0x35#8, 0, 0x78#8, 0xFF#8, 0xFC#8, 4, 0xC2#8, 0, 0x96#8, 0, 0]) =
      some ⟨.delivering, 53, 120, some 65532#16, some 1218, some 150, none⟩ := by decide

/-- R134, R186: a reply whose check fails leaves the poll open, and a valid reply after it in the window is discarded. -/
theorem test_reply_after_invalid_reply :
    let good := withCheck [2, 3, 0, 0, 0, 0, 0, 0, 0, 0, 0, 0, 0, 0]
    let t := after (.pollReport (List.replicate 16 0xAA#8)) (polling 3 field)
    (after (.pollReport good) t).link.exchange = some 3 ∧ (after (.pollReport good) t).handed = [] ∧
      (after (.pollReport good) (polling 3 field)).link.exchange = none := by decide

/-- R186: sixteen bytes that arrive in two parts within the window are one reply. -/
theorem test_reply_in_two_parts :
    let good := withCheck [2, 3, 0, 0, 0, 0, 0, 0, 0, 0, 0, 0, 0, 0]
    let t := after (.pollReport (good.take 9)) (polling 3 field)
    t.link.exchange = some 3 ∧ (after (.pollReport (good.drop 9)) t).link.exchange = none := by decide

/-- Example 1.2: a step across the meter's wrap, and a step back. -/
theorem test_account_across_wrap :
    (Meter.mk 293 (some 65535#16) 0 0).account (some 3#16) = ⟨297, some 3#16, 0, 0⟩ := by decide

theorem test_account_jump :
    (Meter.mk 297 (some 3#16) 0 0).account (some 0#16) = ⟨297, some 0#16, 1, 0⟩ := by decide

/-- Example 2.1: pad 22 is inserted at slot 1,021. -/
def example21 : State :=
  clock 1021 0 <| queued 1 2 300 1010 <| queued 15 1 300 1060 <| queued 19 1 300 1040 <| queued 6 1 300 1040 <|
    queued 8 1 300 1020 <| queued 4 0 300 1030 <| field

theorem test_insertion :
    (({ withBody 22 (eligible 1 300 1025) example21 with queue := [4, 8, 6, 19, 15, 1] } : State).insertQueue 22).queue =
      [4, 8, 22, 6, 19, 15, 1] := by decide

/-- Example 2.2: a passed-over head, two preemptions and a block. -/
def example22 : State :=
  { rated 17 400 <| rated 14 400 <| rated 10 400 <| rated 2 400 <| rated 21 200 <| rated 13 400 <| rated 9 350 <|
      rated 5 8 <|
      active 17 3 2700 130 90 90 90 <| active 14 1 1500 115 100 100 100 <| active 10 3 10800 190 120 120 120 <|
      active 2 2 7500 150 150 150 150 <| queued 21 2 7200 140 <| queued 13 0 6250 125 <| queued 9 0 6000 120 <|
      queued 5 0 8 112 <| clock 100 50 <| under 600 200 <| field with
    active := [2, 10, 14, 17], queue := [5, 9, 13, 21], roundRequest := true }

theorem test_admission : (after .midSlotRound example22).queue = [5, 21, 2, 17, 10] ∧
    (after .midSlotRound example22).active = [14, 9, 13] := by decide

/-- Example 3.1: the boundary of slot 2,400 under a ceiling of 457. -/
def example31 : State :=
  let s :=
    rated 9 150 <| rated 7 200 <| rated 3 250 <| rated 20 300 <| rated 12 180 <|
      active 9 1 2000 2408 0 80 0 <| active 7 1 1500 2410 120 120 120 <| active 3 0 3000 2412 150 150 150 <|
      active 20 3 5000 2390 60 60 61 <| active 12 2 900 2430 180 180 178 <| clock 2399 3599 <| under 600 100 <| field
  { s with feeder := { s.feeder with fallback := 457 } }

theorem test_boundary_targets :
    ([3, 7, 9, 12, 20] : List Pad).map (fun p => ((after .slotBoundary example31).allocOf p).target) =
      [250, 125, 82, 0, 0] := by decide +kernel

theorem test_boundary_setpoints :
    ([3, 7, 9, 12, 20] : List Pad).map (fun p => ((after .slotPhaseRise example31).allocOf p).setpoint) =
      [150, 120, 0, 0, 0] := by decide +kernel

/-- Example 4.2: the shed of 300 kW curtails, and the mid-slot round shares it out. -/
def example42 : State :=
  rated 9 150 <| rated 7 200 <| rated 3 250 <|
    active 9 1 2000 2408 82 82 82 <| active 7 1 1500 2410 125 125 125 <| active 3 0 2880 2412 250 250 250 <|
    clock 2400 1000 <| under 457 100 <| field

theorem test_shed_curtails :
    ([3, 7, 9] : List Pad).map (fun p =>
        ((after .shed (asks .f (.shed 300 5) example42)).allocOf p).setpoint) = [164, 82, 53] := by decide +kernel

theorem test_shed_answer :
    ((after .shed (asks .f (.shed 300 5) example42)).port .f).tx = [⟨true, ⟨0x24#8, 7, .ok, [1, 0x2C#8, 5]⟩⟩] := by
  decide

/-- R141: a report from before a link loss, taken by the allocator after it, leaves the loss's hold at its 8 polls, also when
the link has returned. -/
theorem test_report_from_before_loss :
    let s := (active 3 1 300 9 150 150 170 field).setLink 3 ⟨.up, 2, none⟩
    let t := after .pollMiss (polling 3 (transit (fresh 3 (report .empty 7 0 none none)) s))
    ((after .allocatorReport t).allocOf 3).mode = .hold 170 8 ∧
      ((after .allocatorReport (t.setLink 3 ⟨.up, 0, none⟩)).allocOf 3).mode = .hold 170 8 ∧
      ((after .allocatorReport (transit (fresh 3 (report .empty 0 0 none none)) (t.setLink 3 ⟨.up, 0, none⟩))).allocOf
        3).mode = .normal := by decide

/-- R77: the NONCOMPLIANT latch that waited for the session controller holds the overdrawing report's 300 kW, also when the
allocator has taken a later report of 0 kW. -/
theorem test_late_latch_holds_report :
    let late : Handed := { fresh 3 (report .delivering 7 300 none (some 100)) with
      byAllocator := true, before := some ⟨150, 170, false⟩, noncompliant := true }
    let t := after .sessionReport (transit late (active 3 1 300 9 150 150 0 field))
    (t.allocOf 3).mode = .hold 300 8 ∧ t.padState 3 = .faulted := by decide

/-- R25, R139: on a returned link a report from before the loss leaves the pad OFFLINE, and the report that brought the link
back is then taken as a VACANT pad takes it. -/
theorem test_return_report_lifts_offline :
    let old : Handed := { fresh 3 (report .coupling 0 0 none (some 5)) with lostSince := true, byAllocator := true }
    let s := (withBody 3 .offline field).setLink 3 ⟨.up, 0, none⟩
    let t := after .sessionReport { s with handed := [old, fresh 3 (report .softFault 0 0 none none)] }
    t.padState 3 = .offline ∧ (after .sessionReport t).padState 3 = .vacant := by decide

/-- Example 4.2: the last report lets pad 3's raise go. -/
theorem test_raise_released :
    let s := active 9 1 2000 2408 24 24 24 <| active 7 1 1500 2410 36 36 40 <| active 3 0 2880 2412 164 240 164 <|
      clock 2400 1000 <| under 300 100 <| field
    ((after .allocatorReport (transit (fresh 7 (report .delivering 7 36 none (some 100))) s)).allocOf 3).setpoint =
      240 := by decide

/-- Example 7.2: a write to the live column clamps pad 4, and the lower ceiling curtails nothing. -/
def example72 : State :=
  let s :=
    rated 10 250 <| rated 4 300 <| active 10 1 5000 1300 150 180 150 <| active 4 1 5000 1300 200 200 200 <|
      clock 1234 100 <| under 100 100 <| field
  { s with
    plan := { s.plan.setCell 0 2 (some 400) with window := ⟨0, 5, 2, 2, .lineFirst, 0, 2⟩ }
    feeder := { s.feeder with ceiling := 400, cause := .plan } }

theorem test_writeCells_clamps :
    ([4, 10] : List Pad).map (fun p =>
        (((after .writeCells (asks .f (.writeCells [300, 0xFFFF#16, 0xFFFF#16, 0xFFFF#16, 0xFFFF#16, 120])
          example72)).allocOf p).setpoint)) = [120, 150] := by decide +kernel

theorem test_writeCells_answer :
    ((after .writeCells (asks .f (.writeCells [300, 0xFFFF#16, 0xFFFF#16, 0xFFFF#16, 0xFFFF#16, 120])
      example72)).port .f).tx = [⟨true, ⟨0x21#8, 7, .ok, [6, 0, 2]⟩⟩] := by decide +kernel

/-- Example 7.1: COLUMN_FIRST reads across the wrap of the columns. -/
theorem test_readCells_pointer :
    let s := { field with plan := { field.plan with window := ⟨0, 2, 14, 1, .columnFirst, 0, 14⟩ } }
    ((after .readCells (asks .f (.readCells 5) s)).plan.window) = ⟨0, 2, 14, 1, .columnFirst, 1, 15⟩ := by decide

/-- Example 5.1: alignment at phase 2,450 takes a boundary, at phase 900 it does not. -/
def example51 (phase : Nat) : State :=
  let s := withBody 6 (.binding 7 100 ⟨1, 300, 800⟩ 3) <| clock 700 phase <| field
  { s with
    lines := { s.lines with slotAlign := ⟨true, some false⟩ }
    feeder := { s.feeder with shed := some ⟨4095, 2⟩ } }

theorem test_align_second_half :
    let t := after .slotAlignActive (example51 2450)
    t.timer = ⟨701, 0, .held⟩ ∧ (t.session 6).body.elapsed = some 4 ∧ t.feeder.shed = some ⟨4095, 1⟩ := by decide

theorem test_align_first_half :
    let t := after .slotAlignActive (example51 900)
    t.timer = ⟨700, 0, .held⟩ ∧ (t.session 6).body.elapsed = some 3 ∧ t.feeder.shed = some ⟨4095, 2⟩ := by decide

/-- Example 9.1: a HARD_FAULT with code 17 in slot 4,800. -/
theorem test_hard_fault_latched :
    let r := { report .hardFault 7 150 none none with code := some 17 }
    let t := after .sessionReport (transit (fresh 9 r) (active 9 1 3000 4900 150 150 150 (clock 4800 5 field)))
    t.faultOf 9 = some ⟨.chargerHard, some 17, 4800, some 100, 0⟩ ∧ t.padState 9 = .faulted := by decide

/-- Example 9.1: UNLOCK PADS releases pad 9 and clears its record. -/
theorem test_unlock :
    let t := after .unlockPads (asks .s (.unlockPads 9 0) (service .opened (locked 9 (faulted 9 field))))
    t.padState 9 = .vacant ∧ t.faultOf 9 = none ∧ t.lockout 9 = false := by decide

/-! ## Further single events -/

/-- R2: the token after 255 is 1. -/
theorem test_bind_token_wraps :
    let s := { field with sessions := field.sessions.set 5 ⟨.vacant, 255, none⟩ }
    ((after .bind (asks .d (.bind 5 812 300 10 1) s)).session 5).tokenSeq = 1 := by decide

/-- R7: a deadline 4,001 slots ahead is out of range. -/
theorem test_bind_deadline_out_of_range :
    ((after .bind (asks .d (.bind 5 812 300 4001 1) field)).port .d).tx =
      [⟨true, ⟨0x10#8, 7, .range, []⟩⟩] := by decide

/-- R17: an ACTIVE pad's release empties its place and its setpoint. -/
theorem test_release_active :
    let t := after .release (asks .d (.release 3) (active 3 1 300 9 150 150 150 field))
    t.padState 3 = .releasing ∧ t.active = [] ∧ (t.allocOf 3).setpoint = 0 := by decide

/-- R110: R below the new P_min is raised to it. -/
theorem test_setLimits_raises_ramp :
    (after .setLimits (asks .f (.setLimits 5 200 5000 900) field)).feeder.ramp = 63 := by decide

/-- R138: the third miss. -/
theorem test_third_miss :
    let t := after .pollMiss (polling 3 ((active 3 1 300 9 150 150 170 field).setLink 3 ⟨.up, 2, none⟩))
    (t.linkOf 3).state = .lost ∧ t.padState 3 = .offline ∧ (t.allocOf 3).mode = .hold 170 8 := by decide

/-- R143, R186: the STOP and the setpoint frame of a VACANT pad. -/
theorem test_poll_slot_frames :
    (after .pollSlotStart { field with link := ⟨true, 2, none, [], []⟩ }).link.tx =
      [[3, 0xFF#8, 3, 6], [1, 2, 0, 0, 0, 0, 3, 0x10#8]] := by decide

/-- R174: READ CHANGES empties the set of its port and no other. -/
theorem test_readChanges :
    let t := after (.readChanges .f) (asks .f .readChanges field)
    t.attn .f = false ∧ t.attn .d = true := by decide

/-- R163: the next write begins when one completes. -/
theorem test_store_write_completes :
    let s := { field with store := (field.store.change 2 (.rating 90)).beginWrite.change 3 (.lockout true) }
    let t := after .storeWriteComplete s
    t.store.cells.rating.get 2 = 90 ∧ t.store.writing = some ⟨⟨.lockout, 3⟩, .lockout true⟩ := by decide

/-! ## Witnesses: the hypotheses of each obligation, clause by clause, hold of a state and operands -/

/-- Pad 3 is ACTIVE, one overdraw short of its limit. -/
def atLimit : State :=
  let s := active 3 1 300 9 150 150 170 field
  s.setAlloc 3 { s.allocOf 3 with compliance := 5 }

/-- A pad in a distrust hold. -/
def holding (p : Pad) (value polls : Nat) (s : State) : State :=
  s.setAlloc p { s.allocOf p with mode := .hold value polls }

/-- Pad 3 starves under a ceiling of 0 and has been refused power at two boundaries. -/
def starving : State :=
  let s := clock 7 3599 (active 3 1 300 9 0 0 0 (under 0 100 field))
  s.setAlloc 3 { s.allocOf 3 with starvation := 2 }

/-- Codes to write to the current column, the last of them a cap of 100 kW for pad 3. -/
def writingCells : State :=
  asks .f (.writeCells [500, 300, 300, 300, 100]) (active 3 1 300 9 150 150 170 field)

/-- The cells written, and pad 3 clamped to its new cap. -/
def clampedCells : State :=
  { writingCells with
    plan := writingCells.plan.writeCodes [500, 300, 300, 300, 100]
    alloc := writingCells.alloc.set 3 { writingCells.allocOf 3 with setpoint := 100, target := 100 } }

/-- A rating's write is in progress and a lockout flag's is queued. -/
def writing (s : State) : State :=
  { s with store := (s.store.change 2 (.rating 90)).beginWrite.change 3 (.lockout true) }

/-- The S-port holds an answer for writes, with a rating's write in progress and its next one queued. -/
def waitingFor (waits : List StoreWait) : State :=
  let s := writing (field.setPort .s { field.port .s with pending := some ⟨0x36#8, 7, .held waits .ok []⟩ })
  { s with store := s.store.change 2 (.rating 91) }

theorem witness_StepTakesFront :
    (∃ (c : Instr) (rest : List Instr) (s : State), s.pending = c :: rest) ∧
    (∃ (s : State), s.pending = []) :=
  ⟨⟨(.ping .d), [.midSlotRound], { field with pending := [.ping .d, .midSlotRound] }, by decide⟩,
   ⟨field, by decide⟩⟩

theorem witness_MembershipKept :
    ∃ (s t : State), s.MembershipLaw ∧ step s = .next t :=
  ⟨{ queued 5 2 300 9 (active 3 1 300 9 150 150 170 field) with pending := [.midSlotRound], roundRequest := true },
    stepped
    ({ queued 5 2 300 9 (active 3 1 300 9 150 150 170 field) with pending := [.midSlotRound], roundRequest := true }),
    by decide, rfl⟩

theorem witness_QueueClassOrderKept :
    ∃ (s t : State), s.MembershipLaw ∧ s.QueueClassOrder ∧ step s = .next t :=
  ⟨{ queued 5 2 300 9 (active 3 1 300 9 150 150 170 field) with pending := [.midSlotRound], roundRequest := true },
    stepped
    ({ queued 5 2 300 9 (active 3 1 300 9 150 150 170 field) with pending := [.midSlotRound], roundRequest := true }),
    by decide, by decide, rfl⟩

theorem witness_IdleOffListKept :
    ∃ (s t : State), s.IdleOffList ∧ s.PausedAtZero ∧ step s = .next t :=
  ⟨{ queued 5 2 300 9 (active 3 1 300 9 150 150 170 field) with pending := [.midSlotRound], roundRequest := true },
    stepped
    ({ queued 5 2 300 9 (active 3 1 300 9 150 150 170 field) with pending := [.midSlotRound], roundRequest := true }),
    by decide, by decide, rfl⟩

theorem witness_SetpointsInCapsKept :
    ∃ (s t : State), s.MembershipLaw ∧ s.HeldStatesLaw ∧ s.IdleOffList ∧ s.SetpointsInCaps ∧ step s = .next t :=
  ⟨{ queued 5 2 300 9 (active 3 1 300 9 150 150 170 field) with pending := [.midSlotRound], roundRequest := true },
    stepped
    ({ queued 5 2 300 9 (active 3 1 300 9 150 150 170 field) with pending := [.midSlotRound], roundRequest := true }),
    by decide, by decide, by decide, by decide, rfl⟩

theorem witness_SetpointsUnderCeilingKept :
    ∃ (s t : State), s.MembershipLaw ∧ s.IdleOffList ∧ s.SetpointsUnderCeiling ∧ step s = .next t :=
  ⟨{ queued 5 2 300 9 (active 3 1 300 9 150 150 170 field) with pending := [.midSlotRound], roundRequest := true },
    stepped
    ({ queued 5 2 300 9 (active 3 1 300 9 150 150 170 field) with pending := [.midSlotRound], roundRequest := true }),
    by decide, by decide, by decide, rfl⟩

theorem witness_PowersInRangeKept :
    (∃ (s t : State), s.PowersInRange ∧ step s = .next t) ∧
    (∃ (s : State), s.PowersInRange) :=
  ⟨⟨{ queued 5 2 300 9 (active 3 1 300 9 150 150 170 field) with pending := [.midSlotRound], roundRequest := true },
     stepped ({ queued 5 2 300 9 (active 3 1 300 9 150 150 170 field) with
                pending := [.midSlotRound], roundRequest := true }), by decide, rfl⟩,
   ⟨active 3 1 300 9 150 150 170 field, by decide⟩⟩

theorem witness_CeilingFormedKept :
    ∃ (s t : State), s.CeilingFormed ∧ step s = .next t :=
  ⟨{ field with pending := [.fldEnableChange] }, stepped ({ field with pending := [.fldEnableChange] }), by decide,
    rfl⟩

theorem witness_LimitsTimerPlanKept :
    ∃ (s t : State), s.LimitsInRange ∧ s.TimerLaw ∧ s.PlanLaw ∧ step s = .next t :=
  ⟨{ clock 7 3599 field with pending := [.slotPhaseRise] }, stepped
    ({ clock 7 3599 field with pending := [.slotPhaseRise] }), by decide, by decide, by decide, rfl⟩

theorem witness_HeldStatesKept :
    ∃ (s t : State), s.HeldStatesLaw ∧ step s = .next t :=
  ⟨{ queued 5 2 300 9 (active 3 1 300 9 150 150 170 field) with pending := [.midSlotRound], roundRequest := true },
    stepped
    ({ queued 5 2 300 9 (active 3 1 300 9 150 150 170 field) with pending := [.midSlotRound], roundRequest := true }),
    by decide, rfl⟩

theorem witness_TokenLawKept :
    ∃ (s t : State), s.TokenLaw ∧ s.SessionCounts ∧ step s = .next t :=
  ⟨{ field with sessions := field.sessions.set 3 ⟨eligible 1 300 9, 7, none⟩, pending := [.midSlotRound] }, stepped
    ({ field with sessions := field.sessions.set 3 ⟨eligible 1 300 9, 7, none⟩, pending := [.midSlotRound] }), by
    decide, by decide, rfl⟩

theorem witness_ServiceKeyKept :
    ∃ (s t : State), s.ServiceLaw ∧ step s = .next t :=
  ⟨{ service .opened field with pending := [.svcKeyChange] }, stepped
    ({ service .opened field with pending := [.svcKeyChange] }), by decide, rfl⟩

theorem witness_StoreKept :
    ∃ (s t : State), s.PortLaw ∧ s.StoreLaw ∧ s.HeldAnswerLaw ∧ step s = .next t :=
  ⟨{ field.setPort .s { field.port .s with pending := some ⟨0x36#8, 7, .held [⟨⟨.rating, 2⟩, false⟩] .ok []⟩ } with
     store := (field.store.change 2 (.rating 90)).beginWrite, pending := [.storeWriteComplete] }, stepped
    ({ field.setPort .s { field.port .s with pending := some ⟨0x36#8, 7, .held [⟨⟨.rating, 2⟩, false⟩] .ok []⟩ } with
       store := (field.store.change 2 (.rating 90)).beginWrite, pending := [.storeWriteComplete] }), by decide, by
    decide, by decide, rfl⟩

theorem witness_LinkKept :
    ∃ (s t : State), s.LinkLaw ∧ step s = .next t :=
  ⟨{ queued 5 2 300 9 (active 3 1 300 9 150 150 170 field) with pending := [.midSlotRound], roundRequest := true },
    stepped
    ({ queued 5 2 300 9 (active 3 1 300 9 150 150 170 field) with pending := [.midSlotRound], roundRequest := true }),
    by decide, rfl⟩

theorem witness_PortsKept :
    ∃ (s t : State), s.PortLaw ∧ step s = .next t :=
  ⟨{ asks .f .ping field with pending := [.ping .f] }, stepped ({ asks .f .ping field with pending := [.ping .f] }),
    by decide, rfl⟩

theorem witness_OnlyNamedEventsMove :
    ∃ (c : Instr) (s t : State), exec c s = .next t :=
  ⟨.midSlotRound, { queued 5 2 300 9 (active 3 1 300 9 150 150 170 field) with roundRequest := true }, after
    .midSlotRound { queued 5 2 300 9 (active 3 1 300 9 150 150 170 field) with roundRequest := true }, rfl⟩

theorem witness_RequestFrameRoundTrip :
    ∃ (r : Request) (port : Port) (s : State), s.Ready ∧ r.encodable = true ∧ r.kind.permittedOn port = true ∧
      (s.port port).inBreak = false ∧ (s.port port).pending = none :=
  ⟨.writeCells (List.replicate 16 0xF0F1#16), .f, field, by decide, by decide, by decide, by decide, by decide⟩

theorem witness_FramesNotTaken :
    (∃ (r : Request) (port : Port) (s : State) (q : Pending), s.Ready ∧ r.encodable = true ∧ (s.port port).inBreak =
      false ∧ (s.port port).pending = some q) ∧
    (∃ (c : FrameContent) (port : Port) (s : State) (q : Pending), s.Ready ∧ (s.port port).inBreak = false ∧
      (s.port port).pending = some q ∧ (lineFrame (requestContent c)).length ≤ 76) ∧
    (∃ (c : FrameContent) (status : Status) (port : Port) (s : State), s.Ready ∧ (s.port port).inBreak = false ∧
      (s.port port).pending = none ∧ (lineFrame (requestContent c)).length ≤ 76 ∧ c.refusal port = some status) :=
  ⟨⟨.bind 23 1 65535 4000 3, .d, asks .d .ping field, ⟨1, 7, .handed .ping⟩, by decide, by decide, by decide, by
     decide⟩,
   ⟨⟨0x77#8, 7, [0, 24, 0, 15]⟩, .d, asks .d .ping field, ⟨1, 7, .handed .ping⟩, by decide, by decide, by decide, by
     decide⟩,
   ⟨⟨0x20#8, 7, [0, 24, 0, 15]⟩, .malformed, .f, field, by decide, by decide, by decide, by decide, by decide⟩⟩

theorem witness_FramesDropped :
    (∃ (s : State), s.Ready) ∧
    (∃ (s : State), s.Ready) ∧
    (∃ (port : Port) (s : State), s.Ready ∧ (s.port port).inBreak = false) ∧
    (∃ (port : Port) (s : State), s.Ready ∧ (s.port port).inBreak = true) ∧
    (∃ (port : Port) (mid : List Byte) (s : State), s.Ready ∧ (s.port port).inBreak = false ∧
      (∀ x ∈ mid, x ≠ 0xF0#8 ∧ x ≠ 0xF1#8) ∧ mid.length ≤ 74 ∧ parseFrame mid = none) :=
  ⟨⟨{ field with ports := { field.ports with d := { field.ports.d with part := some [1] } } }, by decide⟩,
   ⟨field, by decide⟩,
   ⟨.d, field, by decide, by decide⟩,
   ⟨.d, field.setPort .d { field.port .d with inBreak := true }, by decide, by decide⟩,
   ⟨.d, [1, 5, 0, 6, 0x0E#8], field, by decide, by decide, by decide, by decide, by decide⟩⟩

theorem witness_PortBreakTaken :
    (∃ (port : Port) (s : State), s.Ready ∧ (s.port port).inBreak = false ∧ (port ≠ .s ∨ s.service = .closed)) ∧
    (∃ (s : State), s.Ready ∧ (s.port .s).inBreak = false ∧ s.service ≠ .closed) ∧
    (∃ (port : Port) (s : State), s.Ready ∧ (s.port port).inBreak = true) ∧
    (∃ (s : State), s.Ready) :=
  ⟨⟨.s, field, by decide, by decide, by decide⟩,
   ⟨service .opened field, by decide, by decide, by decide⟩,
   ⟨.f, field.setPort .f { field.port .f with inBreak := true }, by decide, by decide⟩,
   ⟨field.setPort .f { field.port .f with inBreak := true }, by decide⟩⟩

theorem witness_AnswersSent :
    (∃ (port : Port) (a : Answer) (rest : List TxItem) (s : State), s.Ready ∧ (s.port port).tx = ⟨true, a⟩ :: rest) ∧
    (∃ (port : Port) (a : Answer) (rest : List TxItem) (s : State), s.Ready ∧ (s.port port).tx = ⟨false, a⟩ :: rest) ∧
    (∃ (port : Port) (s : State), s.Ready ∧ (∀ item ∈ (s.port port).tx.head?, item.own = false)) ∧
    (∃ (port : Port) (s : State), s.Ready ∧ (∀ item ∈ (s.port port).tx.head?, item.own = true)) :=
  ⟨⟨.d, ⟨1, 7, .ok, [1, 0]⟩, [], field.setPort .d { field.port .d with tx := [⟨true, ⟨1, 7, .ok, [1, 0]⟩⟩] }, by
     decide, by decide⟩,
   ⟨.d, ⟨1, 7, .busy, []⟩, [], field.setPort .d { field.port .d with tx := [⟨false, ⟨1, 7, .busy, []⟩⟩] }, by decide,
     by decide⟩,
   ⟨.d, field.setPort .d { field.port .d with tx := [⟨false, ⟨1, 7, .busy, []⟩⟩] }, by decide, by decide⟩,
   ⟨.d, field.setPort .d { field.port .d with tx := [⟨true, ⟨1, 7, .ok, []⟩⟩] }, by decide, by decide⟩⟩

theorem witness_PingAnswers :
    ∃ (port : Port) (s : State), s.Ready ∧ s.handedRequest port = some .ping ∧ (port ≠ .s ∨ s.service ≠ .opening) :=
  ⟨.s, asks .s .ping field, by decide, by decide, by decide⟩

theorem witness_ReadChangesAnswers :
    ∃ (port : Port) (s : State), s.Ready ∧ s.handedRequest port = some .readChanges ∧
      (port ≠ .s ∨ s.service ≠ .opening) :=
  ⟨.f, asks .f .readChanges field, by decide, by decide, by decide⟩

theorem witness_QueriesAnswer :
    (∃ (port : Port) (pad : Byte) (s : State), s.Ready ∧ s.handedRequest port = some (.queryPad pad) ∧
      (port ≠ .s ∨ s.service ≠ .opening) ∧ 24 ≤ pad.toNat) ∧
    (∃ (port : Port) (pad : Byte) (p : Pad) (s : State), s.Ready ∧ s.handedRequest port = some (.queryPad pad) ∧
      (port ≠ .s ∨ s.service ≠ .opening) ∧ pad.toNat = p.val) ∧
    (∃ (port : Port) (s : State), s.Ready ∧ s.handedRequest port = some .queryField ∧
      (port ≠ .s ∨ s.service ≠ .opening)) :=
  ⟨⟨.d, 24, asks .d (.queryPad 24) field, by decide, by decide, by decide, by decide⟩,
   ⟨.s, 23, 23, asks .s (.queryPad 23) field, by decide, by decide, by decide, by decide⟩,
   ⟨.f, asks .f .queryField (queued 5 2 300 9 (active 3 1 300 9 150 150 170 field)), by decide, by decide, by decide⟩⟩

theorem witness_ServiceGates :
    (∃ (r : Request) (s : State), s.Ready ∧ s.service = .opening ∧ s.handedRequest .s = some r ∧ r.kind.permittedOn .s
      = true ∧ r.kind ≠ .confirmService ∧ r.kind ≠ .closeService) ∧
    (∃ (r : Request) (s : State), s.Ready ∧ s.service = .closed ∧ s.handedRequest .s = some r ∧
      (r.kind = .unlockPads ∨ r.kind = .clearFault ∨ r.kind = .setRating)) ∧
    (∃ (r : Request) (s : State), s.Ready ∧ s.handedRequest .s = some r ∧
      ((s.service = .closed ∧ r.kind = .confirmService) ∨
      (s.service = .opened ∧ (r.kind = .openService ∨ r.kind = .confirmService)))) :=
  ⟨⟨.ping, asks .s .ping (service .opening field), by decide, by decide, by decide, by decide, by decide, by decide⟩,
   ⟨.setRating 3 100, asks .s (.setRating 3 100) field, by decide, by decide, by decide, by decide⟩,
   ⟨.openService 0, asks .s (.openService 0) (service .opened field), by decide, by decide, by decide⟩⟩

theorem witness_BindTaken :
    (∃ (pad : Byte) (tag target deadline : Word16) (cls : Byte) (p : Pad) (k : Sys2Proof.Class) (s : State), s.Ready ∧
      s.handedRequest .d = some (.bind pad tag target deadline cls) ∧ pad.toNat = p.val ∧ cls.toNat = k.val ∧ tag ≠
      0#16 ∧ tag ≠ 0xFFFF#16 ∧ target ≠ 0#16 ∧ (deadline - s.timer.slot).toNat ≤ 4000 ∧ s.rating p ≠ 0 ∧
      (s.session p).body = .vacant) ∧
    (∃ (pad : Byte) (tag target deadline : Word16) (cls : Byte) (p : Pad) (k : Sys2Proof.Class) (s : State), s.Ready ∧
      s.handedRequest .d = some (.bind pad tag target deadline cls) ∧ pad.toNat = p.val ∧ cls.toNat = k.val ∧ tag ≠
      0#16 ∧ tag ≠ 0xFFFF#16 ∧ target ≠ 0#16 ∧ (deadline - s.timer.slot).toNat ≤ 4000 ∧ s.rating p ≠ 0 ∧
      (s.session p).body = .seen tag.toNat) :=
  ⟨⟨23, 65534, 1, 4000, 3, 23, 3, asks .d (.bind 23 65534 1 4000 3) field, by decide, by decide, by decide, by decide,
     by decide, by decide, by decide, by decide, by decide, by decide⟩,
   ⟨23, 65534, 1, 4000, 3, 23, 3, asks .d (.bind 23 65534 1 4000 3) (withBody 23 (.seen 65534) field), by decide, by
     decide, by decide, by decide, by decide, by decide, by decide, by decide, by decide, by decide⟩⟩

theorem witness_DispatchRefused :
    (∃ (pad : Byte) (tag target deadline : Word16) (cls : Byte) (s : State), s.Ready ∧ s.handedRequest .d = some
      (.bind pad tag target deadline cls) ∧ (24 ≤ pad.toNat ∨ tag = 0#16 ∨ tag = 0xFFFF#16 ∨ target = 0#16 ∨ 4 ≤
      cls.toNat ∨ 4000 < (deadline - s.timer.slot).toNat)) ∧
    (∃ (pad : Byte) (tag target deadline : Word16) (cls : Byte) (p : Pad) (k : Sys2Proof.Class) (s : State), s.Ready ∧
      s.handedRequest .d = some (.bind pad tag target deadline cls) ∧ pad.toNat = p.val ∧ cls.toNat = k.val ∧ tag ≠
      0#16 ∧ tag ≠ 0xFFFF#16 ∧ target ≠ 0#16 ∧ (deadline - s.timer.slot).toNat ≤ 4000 ∧ s.rating p = 0) ∧
    (∃ (pad : Byte) (tag target deadline : Word16) (cls : Byte) (p : Pad) (k : Sys2Proof.Class) (s : State)
      (seen : Nat), s.Ready ∧ s.handedRequest .d = some (.bind pad tag target deadline cls) ∧ pad.toNat = p.val ∧
      cls.toNat = k.val ∧ tag ≠ 0#16 ∧ tag ≠ 0xFFFF#16 ∧ target ≠ 0#16 ∧ (deadline - s.timer.slot).toNat ≤ 4000 ∧
      s.rating p ≠ 0 ∧ (s.session p).body = .seen seen ∧ tag.toNat ≠ seen) ∧
    (∃ (pad : Byte) (tag target deadline : Word16) (cls : Byte) (p : Pad) (k : Sys2Proof.Class) (s : State), s.Ready ∧
      s.handedRequest .d = some (.bind pad tag target deadline cls) ∧ pad.toNat = p.val ∧ cls.toNat = k.val ∧ tag ≠
      0#16 ∧ tag ≠ 0xFFFF#16 ∧ target ≠ 0#16 ∧ (deadline - s.timer.slot).toNat ≤ 4000 ∧ s.rating p ≠ 0 ∧ s.padState p
      ≠ .vacant ∧ s.padState p ≠ .seen) ∧
    (∃ (pad : Byte) (target deadline : Word16) (cls : Byte) (s : State), s.Ready ∧ s.handedRequest .d = some
      (.amend pad target deadline cls) ∧
      (24 ≤ pad.toNat ∨ target = 0#16 ∨ 4 ≤ cls.toNat ∨ 4000 < (deadline - s.timer.slot).toNat)) ∧
    (∃ (pad : Byte) (target deadline : Word16) (cls : Byte) (p : Pad) (s : State), s.Ready ∧ s.handedRequest .d = some
      (.amend pad target deadline cls) ∧ pad.toNat = p.val ∧ target ≠ 0#16 ∧ cls.toNat < 4 ∧
      (deadline - s.timer.slot).toNat ≤ 4000 ∧ s.padState p ≠ .eligible ∧ s.padState p ≠ .topped) ∧
    (∃ (pad : Byte) (s : State), s.Ready ∧ s.handedRequest .d = some (.release pad) ∧ 24 ≤ pad.toNat) ∧
    (∃ (pad : Byte) (p : Pad) (s : State), s.Ready ∧ s.handedRequest .d = some (.release pad) ∧ pad.toNat = p.val ∧
      (s.padState p = .vacant ∨ s.padState p = .seen ∨ s.padState p = .faulted ∨ s.padState p = .locked ∨ s.padState p
      = .offline)) :=
  ⟨⟨24, 1, 1, 0, 0, asks .d (.bind 24 1 1 0 0) field, by decide, by decide, by decide⟩,
   ⟨23, 65534, 1, 4000, 3, 23, 3, asks .d (.bind 23 65534 1 4000 3) (rated 23 0 field), by decide, by decide, by
     decide, by decide, by decide, by decide, by decide, by decide, by decide⟩,
   ⟨23, 65534, 1, 4000, 3, 23, 3, asks .d (.bind 23 65534 1 4000 3) (withBody 23 (.seen 5) field), 5, by decide, by
     decide, by decide, by decide, by decide, by decide, by decide, by decide, by decide, by decide, by decide⟩,
   ⟨23, 65534, 1, 4000, 3, 23, 3, asks .d (.bind 23 65534 1 4000 3) (locked 23 field), by decide, by decide, by
     decide, by decide, by decide, by decide, by decide, by decide, by decide, by decide, by decide⟩,
   ⟨3, 1, 4001, 0, asks .d (.amend 3 1 4001 0) field, by decide, by decide, by decide⟩,
   ⟨3, 1, 4000, 3, 3, asks .d (.amend 3 1 4000 3) field, by decide, by decide, by decide, by decide, by decide, by
     decide, by decide, by decide⟩,
   ⟨24, asks .d (.release 24) field, by decide, by decide, by decide⟩,
   ⟨3, 3, asks .d (.release 3) field, by decide, by decide, by decide, by decide⟩⟩

theorem witness_AmendTaken :
    (∃ (pad : Byte) (target deadline : Word16) (cls : Byte) (p : Pad) (k : Sys2Proof.Class) (token tag : Nat)
      (old : Terms) (m : Meter) (s : State), s.Ready ∧ s.handedRequest .d = some (.amend pad target deadline cls) ∧
      pad.toNat = p.val ∧ cls.toNat = k.val ∧ target ≠ 0#16 ∧ (deadline - s.timer.slot).toNat ≤ 4000 ∧
      (s.session p).body = .matched .eligible token tag old m ∧ target.toNat ≤ m.delivered ∧ s.MembershipLaw) ∧
    (∃ (pad : Byte) (target deadline : Word16) (cls : Byte) (p : Pad) (k : Sys2Proof.Class) (token tag : Nat)
      (old : Terms) (m : Meter) (s : State), s.Ready ∧ s.handedRequest .d = some (.amend pad target deadline cls) ∧
      pad.toNat = p.val ∧ cls.toNat = k.val ∧ target ≠ 0#16 ∧ (deadline - s.timer.slot).toNat ≤ 4000 ∧
      (s.session p).body = .matched .eligible token tag old m ∧ m.delivered < target.toNat) ∧
    (∃ (pad : Byte) (target deadline : Word16) (cls : Byte) (p : Pad) (k : Sys2Proof.Class) (token tag : Nat)
      (old : Terms) (m : Meter) (s : State), s.Ready ∧ s.handedRequest .d = some (.amend pad target deadline cls) ∧
      pad.toNat = p.val ∧ cls.toNat = k.val ∧ target ≠ 0#16 ∧ (deadline - s.timer.slot).toNat ≤ 4000 ∧
      (s.session p).body = .matched .topped token tag old m ∧ m.delivered < target.toNat) ∧
    (∃ (pad : Byte) (target deadline : Word16) (cls : Byte) (p : Pad) (k : Sys2Proof.Class) (token tag : Nat)
      (old : Terms) (m : Meter) (s : State), s.Ready ∧ s.handedRequest .d = some (.amend pad target deadline cls) ∧
      pad.toNat = p.val ∧ cls.toNat = k.val ∧ target ≠ 0#16 ∧ (deadline - s.timer.slot).toNat ≤ 4000 ∧
      (s.session p).body = .matched .topped token tag old m ∧ target.toNat ≤ m.delivered) :=
  ⟨⟨3, 50, 20, 2, 3, 2, 7, 100, ⟨1, 300, 9⟩, ⟨50, none, 0, 0⟩, asks .d (.amend 3 50 20 2)
     (withBody 3 (.matched .eligible 7 100 ⟨1, 300, 9⟩ ⟨50, none, 0, 0⟩) (active 3 1 300 9 150 150 170 field)), by
     decide, by decide, by decide, by decide, by decide, by decide, by decide, by decide, by decide⟩,
   ⟨3, 50, 20, 2, 3, 2, 7, 100, ⟨1, 300, 9⟩, ⟨49, none, 0, 0⟩, asks .d (.amend 3 50 20 2)
     (withBody 3 (.matched .eligible 7 100 ⟨1, 300, 9⟩ ⟨49, none, 0, 0⟩) (queued 3 1 300 9 field)), by decide, by
     decide, by decide, by decide, by decide, by decide, by decide, by decide⟩,
   ⟨3, 50, 20, 2, 3, 2, 7, 100, ⟨1, 300, 9⟩, ⟨49, none, 0, 0⟩, asks .d (.amend 3 50 20 2)
     (withBody 3 (.matched .topped 7 100 ⟨1, 300, 9⟩ ⟨49, none, 0, 0⟩) (field)), by decide, by decide, by decide, by
     decide, by decide, by decide, by decide, by decide⟩,
   ⟨3, 50, 20, 2, 3, 2, 7, 100, ⟨1, 300, 9⟩, ⟨50, none, 0, 0⟩, asks .d (.amend 3 50 20 2)
     (withBody 3 (.matched .topped 7 100 ⟨1, 300, 9⟩ ⟨50, none, 0, 0⟩) (field)), by decide, by decide, by decide, by
     decide, by decide, by decide, by decide, by decide⟩⟩

theorem witness_ReleaseTaken :
    (∃ (pad : Byte) (p : Pad) (token tag : Nat) (terms : Terms) (m : Meter) (s : State), s.Ready ∧ s.handedRequest .d
      = some (.release pad) ∧ pad.toNat = p.val ∧ (s.session p).body = .matched .eligible token tag terms m ∧
      s.MembershipLaw) ∧
    (∃ (pad : Byte) (p : Pad) (token tag : Nat) (terms : Terms) (m : Meter) (s : State), s.Ready ∧ s.handedRequest .d
      = some (.release pad) ∧ pad.toNat = p.val ∧ (s.session p).body = .matched .topped token tag terms m) ∧
    (∃ (pad : Byte) (p : Pad) (token tag : Nat) (terms : Terms) (e : Nat) (s : State), s.Ready ∧ s.handedRequest .d =
      some (.release pad) ∧ pad.toNat = p.val ∧ (s.session p).body = .binding token tag terms e) ∧
    (∃ (pad : Byte) (p : Pad) (s : State), s.Ready ∧ s.handedRequest .d = some (.release pad) ∧ pad.toNat = p.val ∧
      (s.padState p = .releasing ∨ s.padState p = .clearing)) :=
  ⟨⟨3, 3, 7, 100, ⟨1, 300, 9⟩, ⟨0, none, 0, 0⟩, asks .d (.release 3)
     (queued 5 2 300 9 (active 3 1 300 9 150 150 170 field)), by decide, by decide, by decide, by decide, by decide⟩,
   ⟨3, 3, 7, 100, ⟨1, 300, 9⟩, ⟨0, none, 0, 0⟩, asks .d (.release 3)
     (withBody 3 (.matched .topped 7 100 ⟨1, 300, 9⟩ ⟨0, none, 0, 0⟩) (field)), by decide, by decide, by decide, by
     decide⟩,
   ⟨3, 3, 7, 100, ⟨1, 300, 9⟩, 4, asks .d (.release 3) (withBody 3 (.binding 7 100 ⟨1, 300, 9⟩ 4) field), by decide,
     by decide, by decide, by decide⟩,
   ⟨3, 3, asks .d (.release 3) (withBody 3 (.clearing 100) field), by decide, by decide, by decide, by decide⟩⟩

theorem witness_ReportOnVacant :
    (∃ (h : Handed) (rest : List Handed) (s : State), s.Ready ∧ s.SessionNext h rest ∧ (s.session h.pad).body =
      .vacant ∧ h.report.state ≠ .hardFault) ∧
    (∃ (h : Handed) (rest : List Handed) (s : State), s.Ready ∧ s.SessionNext h rest ∧ (s.session h.pad).body =
      .vacant ∧ h.report.state = .hardFault) ∧
    (∃ (h : Handed) (rest : List Handed) (s : State) (seen : Nat), s.Ready ∧ s.SessionNext h rest ∧
      (s.session h.pad).body = .seen seen ∧ h.report.state ≠ .hardFault) ∧
    (∃ (h : Handed) (rest : List Handed) (s : State) (seen : Nat), s.Ready ∧ s.SessionNext h rest ∧
      (s.session h.pad).body = .clearing seen ∧ h.report.state ≠ .hardFault) ∧
    (∃ (h : Handed) (rest : List Handed) (s : State), s.Ready ∧ s.SessionNext h rest ∧ (s.session h.pad).body =
      .offline ∧ (s.linkOf h.pad).state ≠ .lost ∧ h.lostSince = false ∧ h.report.state ≠ .hardFault) ∧
    (∃ (h : Handed) (rest : List Handed) (s : State), s.Ready ∧ s.SessionNext h rest ∧
      (((s.session h.pad).body = .offline ∧ ((s.linkOf h.pad).state = .lost ∨ h.lostSince = true)) ∨
      (s.session h.pad).body = .faulted ∨ (s.session h.pad).body = .locked) ∧ h.report.state ≠ .hardFault) :=
  ⟨⟨fresh 3 (report .coupling 9 0 (some 5) (some 100)), [], transit
     (fresh 3 (report .coupling 9 0 (some 5) (some 100))) (field), by decide, by decide, by decide, by decide⟩,
   ⟨fresh 3 (report .hardFault 9 0 none none), [], transit (fresh 3 (report .hardFault 9 0 none none)) (field), by
     decide, by decide, by decide, by decide⟩,
   ⟨fresh 3 (report .empty 9 0 none none), [], transit (fresh 3 (report .empty 9 0 none none))
     (withBody 3 (.seen 65534) field), 65534, by decide, by decide, by decide, by decide⟩,
   ⟨fresh 3 (report .coupling 9 0 (some 5) (some 65534)), [], transit
     (fresh 3 (report .coupling 9 0 (some 5) (some 65534))) (withBody 3 (.clearing 1) field), 1, by decide, by decide,
     by decide, by decide⟩,
   ⟨fresh 3 (report .ready 9 0 (some 5) (some 100)), [], transit (fresh 3 (report .ready 9 0 (some 5) (some 100)))
     ((withBody 3 .offline field).setLink 3 ⟨.up, 0, none⟩), by decide, by decide, by decide, by decide, by decide, by
     decide⟩,
   ⟨fresh 3 (report .softFault 9 0 none none), [], transit (fresh 3 (report .softFault 9 0 none none))
     (locked 3 field), by decide, by decide, by decide, by decide⟩⟩

theorem witness_ReportSettlesBind :
    (∃ (h : Handed) (rest : List Handed) (s : State) (token tag e : Nat) (terms : Terms), s.Ready ∧ s.SessionNext h
      rest ∧ (s.session h.pad).body = .binding token tag terms e ∧ h.report.echo = token ∧
      (h.report.state = .coupling ∨ h.report.state = .ready) ∧ h.report.tag = some tag) ∧
    (∃ (h : Handed) (rest : List Handed) (s : State) (token tag e other : Nat) (terms : Terms), s.Ready ∧
      s.SessionNext h rest ∧ (s.session h.pad).body = .binding token tag terms e ∧ h.report.echo = token ∧
      (h.report.state = .coupling ∨ h.report.state = .ready) ∧ h.report.tag = some other ∧ other ≠ tag) ∧
    (∃ (h : Handed) (rest : List Handed) (s : State) (token tag e : Nat) (terms : Terms), s.Ready ∧ s.SessionNext h
      rest ∧ (s.session h.pad).body = .binding token tag terms e ∧ token ≠ 0 ∧
      (h.report.echo ≠ token ∨ h.report.state ∈ [.empty, .delivering, .decoupling, .softFault, .disabled])) :=
  ⟨⟨fresh 3 (report .ready 7 0 (some 5) (some 100)), [], transit (fresh 3 (report .ready 7 0 (some 5) (some 100)))
     (withBody 3 (.binding 7 100 ⟨1, 300, 9⟩ 4) field), 7, 100, 4, ⟨1, 300, 9⟩, by decide, by decide, by decide, by
     decide, by decide, by decide⟩,
   ⟨fresh 3 (report .coupling 7 0 (some 5) (some 101)), [], transit
     (fresh 3 (report .coupling 7 0 (some 5) (some 101))) (withBody 3 (.binding 7 100 ⟨1, 300, 9⟩ 4) field), 7, 100,
     4, 101, ⟨1, 300, 9⟩, by decide, by decide, by decide, by decide, by decide, by decide, by decide⟩,
   ⟨fresh 3 (report .ready 6 0 (some 5) (some 100)), [], transit (fresh 3 (report .ready 6 0 (some 5) (some 100)))
     (withBody 3 (.binding 7 100 ⟨1, 300, 9⟩ 4) field), 7, 100, 4, ⟨1, 300, 9⟩, by decide, by decide, by decide, by
     decide, by decide⟩⟩

theorem witness_EnergyAccounting :
    (∃ (m : Meter), m.ref = none) ∧
    (∃ (m : Meter) (u v : Word16), m.ref = some u ∧ (v - u).toNat ≤ 64) ∧
    (∃ (m : Meter) (u v : Word16), m.ref = some u ∧ 64 < (v - u).toNat) ∧
    (∃ (h : Handed) (rest : List Handed) (s : State) (phase : Matched) (token tag : Nat) (terms : Terms) (m : Meter),
      s.Ready ∧ s.SessionNext h rest ∧ (s.session h.pad).body = .matched phase token tag terms m) ∧
    (∃ (h : Handed) (rest : List Handed) (s : State) (phase : Matched) (token tag : Nat) (terms : Terms) (m : Meter),
      s.Ready ∧ s.SessionNext h rest ∧ (s.session h.pad).body = .matched phase token tag terms m ∧ token ≠ 0 ∧
      h.report.echo ≠ token) :=
  ⟨⟨⟨0, none, 0, 0⟩, by decide⟩,
   ⟨⟨65535, some 65530, 0, 0⟩, 65530, 58, by decide, by decide⟩,
   ⟨⟨0, some 65530, 255, 0⟩, 65530, 59, by decide, by decide⟩,
   ⟨fresh 3 (report .empty 7 0 (some 5) none), [], transit (fresh 3 (report .empty 7 0 (some 5) none))
     (active 3 1 300 9 150 150 170 field), .eligible, 7, 100, ⟨1, 300, 9⟩, ⟨0, none, 0, 0⟩, by decide, by decide, by
     decide⟩,
   ⟨fresh 3 (report .empty 6 0 (some 5) none), [], transit (fresh 3 (report .empty 6 0 (some 5) none))
     (active 3 1 300 9 150 150 170 field), .eligible, 7, 100, ⟨1, 300, 9⟩, ⟨0, none, 0, 0⟩, by decide, by decide, by
     decide, by decide, by decide⟩⟩

theorem witness_SessionEndsOrTops :
    (∃ (h : Handed) (rest : List Handed) (s : State) (token tag : Nat) (terms : Terms) (m : Meter), s.Ready ∧
      s.SessionNext h rest ∧ s.MembershipLaw ∧ (s.session h.pad).body = .matched .eligible token tag terms m ∧
      h.report.echo = token ∧ h.report.state ≠ .hardFault ∧ (h.report.tag = none ∨ h.report.tag = some tag) ∧
      (h.report.state = .softFault → m.softRun < 119) ∧ h.report.state = .empty) ∧
    (∃ (h : Handed) (rest : List Handed) (s : State) (token tag : Nat) (terms : Terms) (m : Meter), s.Ready ∧
      s.SessionNext h rest ∧ s.MembershipLaw ∧ (s.session h.pad).body = .matched .eligible token tag terms m ∧
      h.report.echo = token ∧ h.report.state ≠ .hardFault ∧ (h.report.tag = none ∨ h.report.tag = some tag) ∧
      (h.report.state = .softFault → m.softRun < 119) ∧ h.report.state ≠ .empty ∧ terms.target ≤
      (m.account h.report.meter).delivered) ∧
    (∃ (h : Handed) (rest : List Handed) (s : State) (token tag : Nat) (terms : Terms) (m : Meter), s.Ready ∧
      s.SessionNext h rest ∧ s.MembershipLaw ∧ (s.session h.pad).body = .matched .eligible token tag terms m ∧
      h.report.echo = token ∧ h.report.state ≠ .hardFault ∧ (h.report.tag = none ∨ h.report.tag = some tag) ∧
      (h.report.state = .softFault → m.softRun < 119) ∧ h.report.state ≠ .empty ∧ (m.account h.report.meter).delivered
      < terms.target) ∧
    (∃ (h : Handed) (rest : List Handed) (s : State) (token tag : Nat) (terms : Terms) (m : Meter), s.Ready ∧
      s.SessionNext h rest ∧ s.MembershipLaw ∧ (s.session h.pad).body = .matched .topped token tag terms m ∧
      h.report.echo = token ∧ h.report.state ≠ .hardFault ∧ (h.report.tag = none ∨ h.report.tag = some tag) ∧
      (h.report.state = .softFault → m.softRun < 119) ∧ h.report.state = .empty) ∧
    (∃ (h : Handed) (rest : List Handed) (s : State) (token tag : Nat) (terms : Terms) (m : Meter), s.Ready ∧
      s.SessionNext h rest ∧ s.MembershipLaw ∧ (s.session h.pad).body = .matched .topped token tag terms m ∧
      h.report.echo = token ∧ h.report.state ≠ .hardFault ∧ (h.report.tag = none ∨ h.report.tag = some tag) ∧
      (h.report.state = .softFault → m.softRun < 119) ∧ h.report.state ≠ .empty) ∧
    (∃ (h : Handed) (rest : List Handed) (s : State) (token tag : Nat) (terms : Terms) (m : Meter), s.Ready ∧
      s.SessionNext h rest ∧ s.MembershipLaw ∧ (s.session h.pad).body = .matched .releasing token tag terms m ∧
      h.report.echo = token ∧ h.report.state ≠ .hardFault ∧ (h.report.tag = none ∨ h.report.tag = some tag) ∧
      (h.report.state = .softFault → m.softRun < 119) ∧ h.report.state = .empty) ∧
    (∃ (h : Handed) (rest : List Handed) (s : State) (token tag : Nat) (terms : Terms) (m : Meter), s.Ready ∧
      s.SessionNext h rest ∧ s.MembershipLaw ∧ (s.session h.pad).body = .matched .releasing token tag terms m ∧
      h.report.echo = token ∧ h.report.state ≠ .hardFault ∧ (h.report.tag = none ∨ h.report.tag = some tag) ∧
      (h.report.state = .softFault → m.softRun < 119) ∧ h.report.state ≠ .empty ∧ h.report.state ≠ .delivering ∧
      h.report.measured ≤ 3) ∧
    (∃ (h : Handed) (rest : List Handed) (s : State) (token tag : Nat) (terms : Terms) (m : Meter), s.Ready ∧
      s.SessionNext h rest ∧ s.MembershipLaw ∧ (s.session h.pad).body = .matched .releasing token tag terms m ∧
      h.report.echo = token ∧ h.report.state ≠ .hardFault ∧ (h.report.tag = none ∨ h.report.tag = some tag) ∧
      (h.report.state = .softFault → m.softRun < 119) ∧ h.report.state ≠ .empty ∧
      (h.report.state = .delivering ∨ 3 < h.report.measured)) :=
  ⟨⟨fresh 3 (report .empty 7 0 (some 5) none), [], transit (fresh 3 (report .empty 7 0 (some 5) none))
     (active 3 1 300 9 150 150 170 field), 7, 100, ⟨1, 300, 9⟩, ⟨0, none, 0, 0⟩, by decide, by decide, by decide, by
     decide, by decide, by decide, by decide, by decide, by decide⟩,
   ⟨fresh 3 (report .softFault 7 0 none none), [], transit (fresh 3 (report .softFault 7 0 none none))
     (withBody 3 (.matched .eligible 7 100 ⟨1, 300, 9⟩ ⟨300, none, 0, 118⟩) (active 3 1 300 9 150 150 170 field)), 7,
     100, ⟨1, 300, 9⟩, ⟨300, none, 0, 118⟩, by decide, by decide, by decide, by decide, by decide, by decide, by
     decide, by decide, by decide, by decide⟩,
   ⟨fresh 3 (report .delivering 7 150 (some 5) (some 100)), [], transit
     (fresh 3 (report .delivering 7 150 (some 5) (some 100))) (active 3 1 300 9 150 150 170 field), 7, 100,
     ⟨1, 300, 9⟩, ⟨0, none, 0, 0⟩, by decide, by decide, by decide, by decide, by decide, by decide, by decide, by
     decide, by decide, by decide⟩,
   ⟨fresh 3 (report .empty 7 0 (some 5) none), [], transit (fresh 3 (report .empty 7 0 (some 5) none))
     (withBody 3 (.matched .topped 7 100 ⟨1, 300, 9⟩ ⟨0, none, 0, 0⟩) (field)), 7, 100, ⟨1, 300, 9⟩, ⟨0, none, 0, 0⟩,
     by decide, by decide, by decide, by decide, by decide, by decide, by decide, by decide, by decide⟩,
   ⟨fresh 3 (report .ready 7 0 (some 5) (some 100)), [], transit (fresh 3 (report .ready 7 0 (some 5) (some 100)))
     (withBody 3 (.matched .topped 7 100 ⟨1, 300, 9⟩ ⟨0, none, 0, 0⟩) (field)), 7, 100, ⟨1, 300, 9⟩, ⟨0, none, 0, 0⟩,
     by decide, by decide, by decide, by decide, by decide, by decide, by decide, by decide, by decide⟩,
   ⟨fresh 3 (report .empty 7 0 (some 5) none), [], transit (fresh 3 (report .empty 7 0 (some 5) none))
     (withBody 3 (.matched .releasing 7 100 ⟨1, 300, 9⟩ ⟨0, none, 0, 0⟩) (field)), 7, 100, ⟨1, 300, 9⟩,
     ⟨0, none, 0, 0⟩, by decide, by decide, by decide, by decide, by decide, by decide, by decide, by decide, by
     decide⟩,
   ⟨fresh 3 (report .ready 7 3 (some 5) (some 100)), [], transit (fresh 3 (report .ready 7 3 (some 5) (some 100)))
     (withBody 3 (.matched .releasing 7 100 ⟨1, 300, 9⟩ ⟨0, none, 0, 0⟩) (field)), 7, 100, ⟨1, 300, 9⟩,
     ⟨0, none, 0, 0⟩, by decide, by decide, by decide, by decide, by decide, by decide, by decide, by decide, by
     decide, by decide, by decide⟩,
   ⟨fresh 3 (report .ready 7 4 (some 5) (some 100)), [], transit (fresh 3 (report .ready 7 4 (some 5) (some 100)))
     (withBody 3 (.matched .releasing 7 100 ⟨1, 300, 9⟩ ⟨0, none, 0, 0⟩) (field)), 7, 100, ⟨1, 300, 9⟩,
     ⟨0, none, 0, 0⟩, by decide, by decide, by decide, by decide, by decide, by decide, by decide, by decide, by
     decide, by decide⟩⟩

theorem witness_LatchingReports :
    (∃ (h : Handed) (rest : List Handed) (s : State), s.Ready ∧ s.SessionNext h rest ∧ s.MembershipLaw ∧ s.IdleOffList
      ∧ h.report.state = .hardFault ∧
      ((s.session h.pad).body.token = 0 ∨ h.report.echo = (s.session h.pad).body.token)) ∧
    (∃ (h : Handed) (rest : List Handed) (s : State) (phase : Matched) (token tag other : Nat) (terms : Terms)
      (m : Meter), s.Ready ∧ s.SessionNext h rest ∧ s.MembershipLaw ∧ s.IdleOffList ∧ (s.session h.pad).body =
      .matched phase token tag terms m ∧ h.report.echo = token ∧ h.report.state ≠ .hardFault ∧ h.report.tag = some
      other ∧ other ≠ tag) ∧
    (∃ (h : Handed) (rest : List Handed) (s : State) (phase : Matched) (token tag : Nat) (terms : Terms) (m : Meter),
      s.Ready ∧ s.SessionNext h rest ∧ s.MembershipLaw ∧ s.IdleOffList ∧ (s.session h.pad).body = .matched phase token
      tag terms m ∧ h.report.echo = token ∧ h.report.state = .softFault ∧ h.report.tag = none ∧ 119 ≤ m.softRun) ∧
    (∃ (g h : Handed) (rest : List Handed) (s : State), s.Ready ∧ s.handed = g :: h :: rest ∧ g.pad = h.pad ∧
      g.bySession = true ∧ h.bySession = false ∧ h.noncompliant = false ∧ h.report.state = .hardFault ∧
      ((s.session h.pad).body.token = 0 ∨ h.report.echo = (s.session h.pad).body.token)) :=
  ⟨⟨fresh 3 (report .hardFault 7 150 none none), [], transit (fresh 3 (report .hardFault 7 150 none none))
     (active 3 1 300 9 150 150 170 field), by decide, by decide, by decide, by decide, by decide, by decide⟩,
   ⟨fresh 3 (report .delivering 7 150 none (some 101)), [], transit
     (fresh 3 (report .delivering 7 150 none (some 101))) (active 3 1 300 9 150 150 170 field), .eligible, 7, 100,
     101, ⟨1, 300, 9⟩, ⟨0, none, 0, 0⟩, by decide, by decide, by decide, by decide, by decide, by decide, by decide,
     by decide, by decide⟩,
   ⟨fresh 3 (report .softFault 7 0 none none), [], transit (fresh 3 (report .softFault 7 0 none none))
     (withBody 3 (.matched .eligible 7 100 ⟨1, 300, 9⟩ ⟨0, none, 0, 119⟩) (active 3 1 300 9 150 150 170 field)),
     .eligible, 7, 100, ⟨1, 300, 9⟩, ⟨0, none, 0, 119⟩, by decide, by decide, by decide, by decide, by decide, by
     decide, by decide, by decide, by decide⟩,
   ⟨{ fresh 3 (report .empty 7 9 none none) with bySession := true }, fresh 3 (report .hardFault 7 150 none none), [],
     { (active 3 1 300 9 150 150 170 field : State) with
       handed := [{ fresh 3 (report .empty 7 9 none none) with bySession := true }, fresh 3
         (report .hardFault 7 150 none none)] }, by decide, by decide, by decide, by decide, by decide, by decide, by
     decide, by decide⟩⟩

theorem witness_AllocatorReportTaken :
    (∃ (h : Handed) (rest : List Handed) (current : Bool) (s : State) (ends pauses unpauses clamps : Bool) (cap : Nat)
      (limit : Option Nat) (setpoint target : Nat), s.Ready ∧ s.handed = h :: rest ∧ h.byAllocator = false ∧ current =
      ((s.session h.pad).body.takesAsCurrent h.report.echo) ∧
      ((current && decide ((s.beforeOf h).setpoint + 3 < h.report.measured)) && decide
      (5 ≤ (s.allocOf h.pad).compliance)) = false ∧ pauses =
      (current && decide (h.pad ∈ s.active ∧ h.report.state = .softFault ∧ (s.allocOf h.pad).paused = false)) ∧
      unpauses =
      (current && decide (h.pad ∈ s.active ∧ h.report.state ≠ .softFault ∧ (s.allocOf h.pad).paused = true)) ∧ cap =
      limitBy (limitBy (s.rating h.pad) (if current then h.report.accept else (s.allocOf h.pad).accept))
      (s.padCell h.pad) ∧ clamps = (current && decide (h.pad ∈ s.active ∧ cap < s.capOf h.pad)) ∧ limit =
      (if clamps then some (if cap < s.feeder.pmin then 0 else cap) else none) ∧ setpoint =
      (if pauses then 0 else (s.allocOf h.pad).setpoint) ∧ target = (if pauses then 0 else (s.allocOf h.pad).target) ∧
      ends = decide ((s.linkOf h.pad).state = .up ∧ h.lostSince = false ∧ h.latched = false)) ∧
    (∃ (h : Handed) (rest : List Handed) (v k : Nat) (s : State), s.Ready ∧ s.handed = h :: rest ∧ h.byAllocator =
      false ∧ h.lostSince = false ∧ h.heldSince = false ∧ h.latched = false ∧ (s.linkOf h.pad).state = .up ∧
      (s.allocOf h.pad).compliance < 5 ∧ (s.allocOf h.pad).mode = .hold v k ∧ k ≤ 1) :=
  ⟨⟨fresh 3 { report .delivering 7 154 none (some 100) with accept := some 140 }, [], true, transit
     (fresh 3 { report .delivering 7 154 none (some 100) with accept := some 140 })
     (active 3 1 300 9 150 150 170 field), false, false, false, true, 140, some 140, 150, 150, by decide, by decide,
     by decide, by decide, by decide, by decide, by decide, by decide, by decide, by decide, by decide, by decide, by
     decide⟩,
   ⟨fresh 3 (report .delivering 7 100 none (some 100)), [], 90, 1, transit
     (fresh 3 (report .delivering 7 100 none (some 100)))
     (holding 3 90 1 ((active 3 1 300 9 150 150 170 field).setLink 3 ⟨.up, 0, none⟩)), by decide, by decide, by
     decide, by decide, by decide, by decide, by decide, by decide, by decide, by decide⟩⟩

theorem witness_NoncompliantLatched :
    (∃ (h : Handed) (rest : List Handed) (s : State), s.Ready ∧ s.MembershipLaw ∧ s.IdleOffList ∧ s.handed = h :: rest
      ∧ h.byAllocator = false ∧ h.bySession = true ∧ (s.session h.pad).body.takesAsCurrent h.report.echo = true ∧
      (s.beforeOf h).setpoint + 3 < h.report.measured ∧ 5 ≤ (s.allocOf h.pad).compliance) ∧
    (∃ (h : Handed) (rest : List Handed) (current : Bool) (s : State) (pauses unpauses clamps : Bool) (cap : Nat)
      (limit : Option Nat) (setpoint target : Nat), s.Ready ∧ s.handed = h :: rest ∧ h.byAllocator = false ∧ current =
      ((s.session h.pad).body.takesAsCurrent h.report.echo) ∧ h.bySession = false ∧ current = true ∧
      (s.beforeOf h).setpoint + 3 < h.report.measured ∧ 5 ≤ (s.allocOf h.pad).compliance ∧ pauses =
      (current && decide (h.pad ∈ s.active ∧ h.report.state = .softFault ∧ (s.allocOf h.pad).paused = false)) ∧
      unpauses =
      (current && decide (h.pad ∈ s.active ∧ h.report.state ≠ .softFault ∧ (s.allocOf h.pad).paused = true)) ∧ cap =
      limitBy (limitBy (s.rating h.pad) (if current then h.report.accept else (s.allocOf h.pad).accept))
      (s.padCell h.pad) ∧ clamps = (current && decide (h.pad ∈ s.active ∧ cap < s.capOf h.pad)) ∧ limit =
      (if clamps then some (if cap < s.feeder.pmin then 0 else cap) else none) ∧ setpoint =
      (if pauses then 0 else (s.allocOf h.pad).setpoint) ∧ target = (if pauses then 0 else (s.allocOf h.pad).target))
      ∧
    (∃ (h : Handed) (rest : List Handed) (v s : State), s.Ready ∧ s.MembershipLaw ∧ s.IdleOffList ∧ s.handed = h ::
      rest ∧ h.byAllocator = true ∧ h.bySession = false ∧ h.noncompliant = true ∧ exec .sessionReport
      { s with handed := { h with noncompliant := false } :: rest } = .next v) :=
  ⟨⟨⟨3, report .delivering 7 154 none (some 100), true, false, none, false, false, false, false⟩, [], transit
     ⟨3, report .delivering 7 154 none (some 100), true, false, none, false, false, false, false⟩ atLimit, by decide,
     by decide, by decide, by decide, by decide, by decide, by decide, by decide, by decide⟩,
   ⟨fresh 3 (report .delivering 7 154 none (some 100)), [], true, transit
     (fresh 3 (report .delivering 7 154 none (some 100))) atLimit, false, false, false, 200, none, 150, 150, by
     decide, by decide, by decide, by decide, by decide, by decide, by decide, by decide, by decide, by decide, by
     decide, by decide, by decide, by decide, by decide⟩,
   ⟨⟨3, report .delivering 7 154 none (some 100), false, true, some ⟨150, 170, false⟩, false, true, false, false⟩, [],
     after .sessionReport { (transit ⟨3, report .delivering 7 154 none (some 100), false, true, some ⟨150, 170, false⟩, false, true, false, false⟩ (active 3 1 300 9 150 150 170 field) : State) with
                            handed := [{ (⟨3, report .delivering 7 154 none (some 100), false, true, some ⟨150, 170, false⟩, false, true, false, false⟩ : Handed) with
                                         noncompliant := false }] }, transit
     ⟨3, report .delivering 7 154 none (some 100), false, true, some ⟨150, 170, false⟩, false, true, false, false⟩
     (active 3 1 300 9 150 150 170 field), by decide, by decide, by decide, by decide, by decide, by decide, by
     decide, rfl⟩⟩

theorem witness_PollMissTaken :
    (∃ (p : Pad) (s : State), s.Ready ∧ s.link.exchange = some p ∧
      ((s.linkOf p).state = .lost ∨ (s.linkOf p).misses < 2)) ∧
    (∃ (p : Pad) (v k : Nat) (s : State), s.Ready ∧ s.link.exchange = some p ∧
      ((s.linkOf p).state = .lost ∨ (s.linkOf p).misses < 2) ∧ (s.allocOf p).mode = .hold v k ∧ k ≤ 1 ∧
      (∀ h ∈ s.handed, h.byAllocator = true)) ∧
    (∃ (p : Pad) (s : State), s.Ready ∧ s.MembershipLaw ∧ s.IdleOffList ∧ s.link.exchange = some p ∧
      (s.linkOf p).state ≠ .lost ∧ 2 ≤ (s.linkOf p).misses) ∧
    (∃ (s : State), s.Ready ∧ s.link.exchange = none) :=
  ⟨⟨3, polling 3 ((active 3 1 300 9 150 150 170 field).setLink 3 ⟨.up, 1, none⟩), by decide, by decide, by decide⟩,
   ⟨3, 90, 1, polling 3 (holding 3 90 1 (field.setLink 3 ⟨.lost, 3, none⟩)), by decide, by decide, by decide, by
     decide, by decide, by decide⟩,
   ⟨3, polling 3 ((active 3 1 300 9 150 150 170 field).setLink 3 ⟨.up, 2, none⟩), by decide, by decide, by decide, by
     decide, by decide, by decide⟩,
   ⟨field, by decide, by decide⟩⟩

theorem witness_PollReportTaken :
    (∃ (stateByte t1 t0 : Byte), ((stateByte.toNat % 8 = 1 ∨ stateByte.toNat % 8 = 2 ∨ stateByte.toNat % 8 = 3 ∨
      stateByte.toNat % 8 = 4) → 1 ≤ (t1 ++ t0 : Word16).toNat ∧ (t1 ++ t0 : Word16).toNat ≤ 65534)) ∧
    (∃ (stateByte t1 t0 : Byte), 1 ≤ stateByte.toNat % 8 ∧ stateByte.toNat % 8 ≤ 4 ∧
      ((t1 ++ t0 : Word16).toNat = 0 ∨ (t1 ++ t0 : Word16).toNat = 65535)) ∧
    (∃ (p : Pad) (reply : List Byte) (r : Report) (s : State), s.Ready ∧ s.link.exchange = some p ∧ decodeReply p
      (s.link.received ++ reply) = some r) ∧
    (∃ (p : Pad) (reply : List Byte) (s : State), s.Ready ∧ s.link.exchange = some p ∧ decodeReply p
      (s.link.received ++ reply) = none) ∧
    (∃ (p : Pad) (s : State), s.Ready ∧ s.link.exchange = some p ∧ s.link.received.length = 16 ∧ decodeReply p
      s.link.received = none) ∧
    (∃ (s : State), s.Ready ∧ s.link.exchange = none) ∧
    (∃ (p : Pad) (kind addr : Byte) (body : List Byte), body.length = 12 ∧ (kind ≠ 0x02#8 ∨ addr ≠ byte p.val)) ∧
    (∃ (bytes : List Byte), bytes.length = 16 ∧ bytes.drop 14 ≠ checkBytes (bytes.take 14)) ∧
    (∃ (bytes : List Byte), bytes.length < 16) :=
  ⟨⟨0x0B#8, 0xFF#8, 0xFE#8, by decide⟩,
   ⟨4, 0xFF#8, 0xFF#8, by decide, by decide, by decide⟩,
   ⟨14, withCheck [2, 14, 3, 53, 0, 120, 0xFF#8, 0xFC#8, 4, 0xC2#8, 0, 150, 0, 0],
     ⟨.delivering, 53, 120, some 65532, some 1218, some 150, none⟩, polling 14 (field.setLink 14 ⟨.lost, 3, none⟩), by
     decide, by decide, by decide⟩,
   ⟨13, withCheck [2, 14, 3, 53, 0, 120, 0xFF#8, 0xFC#8, 4, 0xC2#8, 0, 150, 0, 0], polling 13 field, by decide, by
     decide, by decide⟩,
   ⟨14, { polling 14 field with link := { (polling 14 field).link with received := List.replicate 16 0xAA#8 } }, by
     decide, by decide, by decide, by decide⟩,
   ⟨field, by decide, by decide⟩,
   ⟨14, 2, 13, List.replicate 12 0#8, by decide, by decide⟩,
   ⟨List.replicate 16 0xAA#8, by decide, by decide⟩,
   ⟨List.replicate 15 0xAA#8, by decide⟩⟩

theorem witness_PollSlotStarts :
    (∃ (p : Pad) (s : State), s.Ready ∧ s.link.exchange = none ∧ s.link.nextPad = p) ∧
    (∃ (s : State), s.Ready ∧ s.link.exchange = none ∧ s.link.stopRequest = true) ∧
    (∃ (s : State), s.Ready ∧ (s.link.exchange ≠ none ∨ s.link.stopRequest = false)) ∧
    (∃ (s : State), s.Ready ∧ s.link.exchange ≠ none) :=
  ⟨⟨23, { field with link := ⟨true, 23, none, [], []⟩ }, by decide, by decide, rfl⟩,
   ⟨{ field with link := ⟨true, 23, none, [], []⟩ }, by decide, by decide, by decide⟩,
   ⟨polling 3 field, by decide, by decide⟩,
   ⟨polling 3 field, by decide, by decide⟩⟩

theorem witness_ReportOrderAgrees :
    ∃ (p : Pad) (r : Report) (s : State), s.Ready ∧ s.MembershipLaw ∧ s.IdleOffList ∧ s.HeldStatesLaw ∧
      s.NoRaisePending ∧ (s.linkOf p).state = .up ∧ s.handed =
      [⟨p, r, false, false, none, false, false, false, false⟩] :=
  ⟨3, report .softFault 7 90 (some 5) none, transit (fresh 3 (report .softFault 7 90 (some 5) none))
    ((active 3 1 300 9 150 150 170 field).setLink 3 ⟨.up, 0, none⟩), by decide, by decide, by decide, by decide, by
    decide, by decide, by decide⟩

theorem witness_RoundBounds :
    ∃ (s u : State) (boundary : Bool), u = s.roundTargets boundary :=
  ⟨queued 5 2 300 9 (active 3 1 300 9 150 150 170 field), State.roundTargets
    (queued 5 2 300 9 (active 3 1 300 9 150 150 170 field)) true, true, rfl⟩

theorem witness_MidSlotRoundTaken :
    (∃ (a s : State), s.Ready ∧ s.MembershipLaw ∧ s.IdleOffList ∧ s.roundRequest = true ∧ a = State.admission
      { s with roundRequest := false } s.budget) ∧
    (∃ (p : Pad) (phase : Matched) (token tag : Nat) (terms : Terms) (m : Meter) (s : State), (s.session p).body =
      .matched phase token tag terms m) ∧
    (∃ (p : Pad) (s : State), p ∈ s.active) ∧
    (∃ (p : Pad) (budget : Nat) (gs : List (Pad × Nat)) (s : State), p ∈ s.active ∧ gs = s.needPass classList budget)
      ∧
    (∃ (pre post gs : List (Pad × Nat)) (p : Pad) (g freed : Nat) (s : State), gs = pre ++ (p, g) :: post ∧
      (∀ w ∈ pre, w.1 ≠ p) ∧ freed = weightSum (gs.filter fun w => decide (w.2 < s.feeder.pmin))) ∧
    (∃ (s : State), s.Ready ∧ s.roundRequest = false) :=
  ⟨⟨State.admission { { queued 5 2 300 9 (active 3 1 300 9 150 150 170 field) with roundRequest := true } with
                      roundRequest := false }
     (State.budget { queued 5 2 300 9 (active 3 1 300 9 150 150 170 field) with roundRequest := true }),
     { queued 5 2 300 9 (active 3 1 300 9 150 150 170 field) with roundRequest := true }, by decide, by decide, by
     decide, by decide, by decide⟩,
   ⟨3, .eligible, 7, 100, ⟨1, 300, 9⟩, ⟨0, none, 0, 0⟩, queued 5 2 300 9 (active 3 1 300 9 150 150 170 field), by
     decide⟩,
   ⟨3, queued 5 2 300 9 (active 3 1 300 9 150 150 170 field), by decide⟩,
   ⟨3, 100, State.needPass (queued 5 2 300 9 (active 3 1 300 9 150 150 170 field)) classList 100, queued 5 2 300 9
     (active 3 1 300 9 150 150 170 field), by decide, by decide⟩,
   ⟨[(3, 9)], [], [(3, 9), (5, 80)], 5, 80, 9, under 500 100 (queued 5 2 300 9 (active 3 1 300 9 150 150 170 field)),
     by decide, by decide, by decide⟩,
   ⟨field, by decide, by decide⟩⟩

theorem witness_ClassZeroKeepsItsPlace :
    (∃ (s : State), s.MembershipLaw) ∧
    (∃ (s : State), s.MembershipLaw ∧ s.QueueClassOrder) ∧
    (∃ (p : Pad) (phase : Matched) (token tag : Nat) (terms : Terms) (m : Meter) (s : State), (s.session p).body =
      .matched phase token tag terms m) ∧
    (∃ (a : Admission), a.state.queue.length ≤ a.passed) ∧
    (∃ (d : Nat) (c : Pad) (pre post : List Pad) (a : Admission), a.state.queue = pre ++ c :: post ∧ a.passed =
      pre.length ∧ d = a.state.admissionDemand c ∧ a.state.capOf c < a.state.feeder.pmin) ∧
    (∃ (budget d : Nat) (c : Pad) (pre post : List Pad) (a : Admission) (b : Admission), a.state.MembershipLaw ∧
      a.state.QueueClassOrder ∧ a.counted.map Prod.fst = a.state.active ∧ a.state.queue = pre ++ c :: post ∧ a.passed
      = pre.length ∧ d = a.state.admissionDemand c ∧ a.state.feeder.pmin ≤ a.state.capOf c ∧ d + weightSum a.counted ≤
      budget ∧ b = ⟨{ a.state with
                      queue := pre ++ post, active := a.state.active ++ [c],
                      alloc := a.state.alloc.set c { a.state.allocOf c with rampBase := 0, starvation := 0 } },
      a.counted ++ [(c, d)], pre.length⟩) ∧
    (∃ (budget d : Nat) (c : Pad) (pre post : List Pad) (a : Admission), a.state.queue = pre ++ c :: post ∧ a.passed =
      pre.length ∧ d = a.state.admissionDemand c ∧ a.state.feeder.pmin ≤ a.state.capOf c ∧ budget < d + weightSum
      a.counted ∧
      (a.state.classOf c ≠ 0 ∨ budget < d + weightSum (a.counted.filter fun w => decide (a.state.classOf w.1 = 0)))) ∧
    (∃ (budget d : Nat) (c : Pad) (pre post : List Pad) (a : Admission), a.state.MembershipLaw ∧
      a.state.QueueClassOrder ∧ a.counted.map Prod.fst = a.state.active ∧ a.state.queue = pre ++ c :: post ∧ a.passed
      = pre.length ∧ d = a.state.admissionDemand c ∧ a.state.feeder.pmin ≤ a.state.capOf c ∧ budget < d + weightSum
      a.counted ∧ a.state.classOf c = 0 ∧ d + weightSum (a.counted.filter fun w => decide (a.state.classOf w.1 = 0)) ≤
      budget) ∧
    (∃ (budget d : Nat) (c : Pad) (rest : List Pad) (s : State), s.MembershipLaw ∧ s.QueueClassOrder ∧ s.queue = c ::
      rest ∧ s.feeder.pmin ≤ s.capOf c ∧ d = s.admissionDemand c ∧
      (d + sumOver s.active s.demandOf ≤ budget ∨
      (s.classOf c = 0 ∧ d + sumOver (s.active.filter fun p => decide (s.classOf p = 0)) s.demandOf ≤ budget))) ∧
    (∃ (budget d : Nat) (c : Pad) (rest : List Pad) (s : State), s.queue = c :: rest ∧ s.feeder.pmin ≤ s.capOf c ∧ d =
      s.admissionDemand c ∧ budget < d + sumOver s.active s.demandOf ∧
      (s.classOf c ≠ 0 ∨ budget < d + sumOver (s.active.filter fun p => decide (s.classOf p = 0)) s.demandOf)) :=
  ⟨⟨queued 5 2 300 9 (active 3 1 300 9 150 150 170 field), by decide⟩,
   ⟨queued 5 2 300 9 (active 3 1 300 9 150 150 170 field), by decide, by decide⟩,
   ⟨3, .eligible, 7, 100, ⟨1, 300, 9⟩, ⟨0, none, 0, 0⟩, queued 5 2 300 9 (active 3 1 300 9 150 150 170 field), by
     decide⟩,
   ⟨⟨queued 5 2 300 9 (active 3 1 300 9 150 150 170 field), [(3, 150)], 1⟩, by decide⟩,
   ⟨State.admissionDemand (rated 5 5 (queued 5 2 300 9 (active 3 1 300 9 150 150 170 field))) 5, 5, [], [],
     ⟨rated 5 5 (queued 5 2 300 9 (active 3 1 300 9 150 150 170 field)), [(3, 150)], 0⟩, by decide, by decide, by
     decide, by decide⟩,
   ⟨500, State.admissionDemand (queued 5 2 300 9 (active 3 1 300 9 150 150 170 field)) 5, 5, [], [],
     ⟨queued 5 2 300 9 (active 3 1 300 9 150 150 170 field), [(3, 150)], 0⟩,
     ⟨{ queued 5 2 300 9 (active 3 1 300 9 150 150 170 field) with
        queue := [], active := [3, 5],
        alloc := (queued 5 2 300 9 (active 3 1 300 9 150 150 170 field) : State).alloc.set 5
          { State.allocOf (queued 5 2 300 9 (active 3 1 300 9 150 150 170 field)) 5 with
            rampBase := 0, starvation := 0 } },
     [(3, 150), (5, State.admissionDemand (queued 5 2 300 9 (active 3 1 300 9 150 150 170 field)) 5)], 0⟩, by decide,
     by decide, by decide, by decide, by decide, by decide, by decide, by decide, rfl⟩,
   ⟨150, State.admissionDemand (queued 5 2 300 9 (active 3 1 300 9 150 150 170 field)) 5, 5, [], [],
     ⟨queued 5 2 300 9 (active 3 1 300 9 150 150 170 field), [(3, 150)], 0⟩, by decide, by decide, by decide, by
     decide, by decide, by decide⟩,
   ⟨150, State.admissionDemand (queued 5 0 300 9 (active 3 1 300 9 150 150 170 field)) 5, 5, [], [],
     ⟨queued 5 0 300 9 (active 3 1 300 9 150 150 170 field), [(3, 150)], 0⟩, by decide, by decide, by decide, by
     decide, by decide, by decide, by decide, by decide, by decide, by decide⟩,
   ⟨40, State.admissionDemand (queued 5 0 300 9 (active 3 1 300 9 150 150 170 field)) 5, 5, [], queued 5 0 300 9
     (active 3 1 300 9 150 150 170 field), by decide, by decide, by decide, by decide, by decide, by decide⟩,
   ⟨30, State.admissionDemand (queued 5 0 300 9 (active 3 1 300 9 150 150 170 field)) 5, 5, [], queued 5 0 300 9
     (active 3 1 300 9 150 150 170 field), by decide, by decide, by decide, by decide, by decide⟩⟩

theorem witness_RaiseReleaseOrder :
    (∃ (s : State), s.headroomOk = false) ∧
    (∃ (s : State), s.headroomOk = true) :=
  ⟨⟨{ field with feederMode := .shared }, by decide⟩,
   ⟨active 3 1 300 9 100 150 90 field, by decide⟩⟩

theorem witness_WalkVisitsOnce :
    ∃ (w : Window), w.lineStart ≤ w.lineEnd ∧ w.line = w.lineStart ∧ w.col = w.colStart :=
  ⟨⟨3, 5, 14, 1, .columnFirst, 3, 14⟩, by decide, by decide, by decide⟩

theorem witness_PlanRequestsTaken :
    (∃ (ls le cs ce order : Byte) (w : Window) (s : State), s.Ready ∧ s.handedRequest .f = some
      (.setWindow ls le cs ce order) ∧ ls.toNat = w.lineStart.val ∧ le.toNat = w.lineEnd.val ∧ w.lineStart ≤ w.lineEnd
      ∧ cs.toNat = w.colStart.val ∧ ce.toNat = w.colEnd.val ∧ order = w.order.code ∧ w.line = w.lineStart ∧ w.col =
      w.colStart) ∧
    (∃ (ls le cs ce order : Byte) (s : State), s.Ready ∧ s.handedRequest .f = some (.setWindow ls le cs ce order) ∧
      (24 < le.toNat ∨ le.toNat < ls.toNat ∨ 15 < cs.toNat ∨ 15 < ce.toNat ∨ 1 < order.toNat)) ∧
    (∃ (count : Byte) (s : State), s.Ready ∧ s.handedRequest .f = some (.readCells count) ∧ 1 ≤ count.toNat ∧
      count.toNat ≤ 16) ∧
    (∃ (count : Byte) (s : State), s.Ready ∧ s.handedRequest .f = some (.readCells count) ∧
      (count.toNat = 0 ∨ 16 < count.toNat)) ∧
    (∃ (codes : List Word16) (s : State), s.Ready ∧ s.handedRequest .f = some (.writeCells codes) ∧
      (∀ line, (codes.foldl CapPlan.writeCode s.plan).cell line (columnOf s.timer.slot) = s.plan.cell line
      (columnOf s.timer.slot))) ∧
    (∃ (codes : List Word16) (cap lim : Pad → Nat) (w s : State), s.Ready ∧ s.MembershipLaw ∧ s.HeldStatesLaw ∧
      s.IdleOffList ∧ s.SetpointsInCaps ∧ s.CeilingFormed ∧ s.handedRequest .f = some (.writeCells codes) ∧
      (∀ p, cap p = limitBy (limitBy (s.rating p) (s.allocOf p).accept)
      ((codes.foldl CapPlan.writeCode s.plan).cell (padLine p) (columnOf s.timer.slot))) ∧
      (∀ p, lim p = (if cap p < s.feeder.pmin then 0 else cap p)) ∧ w =
      { s with plan := codes.foldl CapPlan.writeCode s.plan, alloc := w.alloc } ∧
      (∀ p, w.allocOf p = (if p ∈ s.active ∧ cap p < s.capOf p then
      { s.allocOf p with target := min (s.allocOf p).target (lim p), setpoint := min (s.allocOf p).setpoint (lim p) }
      else s.allocOf p))) :=
  ⟨⟨0, 24, 14, 2, 1, ⟨0, 24, 14, 2, .columnFirst, 0, 14⟩, asks .f (.setWindow 0 24 14 2 1) field, by decide, by
     decide, by decide, by decide, by decide, by decide, by decide, by decide, by decide, by decide⟩,
   ⟨0, 25, 0, 15, 0, asks .f (.setWindow 0 25 0 15 0) field, by decide, by decide, by decide⟩,
   ⟨16, asks .f (.readCells 16) field, by decide, by decide, by decide, by decide⟩,
   ⟨17, asks .f (.readCells 17) field, by decide, by decide, by decide⟩,
   ⟨[0xFFFF#16, 300], asks .f (.writeCells [0xFFFF#16, 300]) (clock 3 0 field), by decide, by decide, by decide⟩,
   ⟨[500, 300, 300, 300, 100], fun p => if p = 3 then 100 else 200, fun p => if p = 3 then 100 else 200, clampedCells,
     writingCells, by decide, by decide, by decide, by decide, by decide, by decide, by decide, by decide, by decide,
     rfl, by decide⟩⟩

theorem witness_CeilingIsSmallest :
    (∃ (s : State), s.level .fldEnable = false) ∧
    (∃ (s : State) (source shed : Option Nat) (plan : Nat), s.level .fldEnable = true ∧ source =
      (if s.level .srcALive ∧ s.level .srcATaken then none else if s.level .srcBLive ∧ s.level .srcBTaken then some
      s.feeder.tie else some 0) ∧ shed = s.feeder.shed.map (·.ceiling) ∧ plan = s.feederCell.getD s.feeder.fallback)
      :=
  ⟨⟨{ field with lines := Lines.inactive }, by decide⟩,
   ⟨{ field with feeder := { field.feeder with shed := some ⟨300, 4⟩ } }, none, some 300, 1000, by decide, by decide,
     by decide, by decide⟩⟩

theorem witness_ShedTaken :
    (∃ (ceiling : Word16) (duration : Byte) (s : State), s.Ready ∧ s.CeilingFormed ∧ s.handedRequest .f = some
      (.shed ceiling duration)) ∧
    (∃ (shed : Shed) (s : State), s.Ready ∧ s.CeilingFormed ∧ s.handedRequest .f = some .endShed ∧ s.feeder.shed =
      some shed) ∧
    (∃ (s : State), s.Ready ∧ s.handedRequest .f = some .endShed ∧ s.feeder.shed = none) :=
  ⟨⟨0, 0, asks .f (.shed 0 0) (active 3 1 300 9 150 150 170 field), by decide, by decide, by decide⟩,
   ⟨⟨300, 4⟩, asks .f .endShed { active 3 1 300 9 150 150 170 field with
                                 feeder := { field.feeder with shed := some ⟨300, 4⟩, ceiling := 300, cause := .shed } },
     by decide, by decide, by decide, by decide⟩,
   ⟨asks .f .endShed field, by decide, by decide, by decide⟩⟩

theorem witness_SetLimitsTaken :
    ∃ (ramp pmin fallback tie : Word16) (w s : State), s.Ready ∧ s.CeilingFormed ∧ s.handedRequest .f = some
      (.setLimits ramp pmin fallback tie) ∧ w = { s with alloc := w.alloc } ∧
      (∀ p, w.allocOf p = (if s.feeder.pmin < min pmin.toNat 63 then
      { s.allocOf p with
        target := (if (s.allocOf p).target < min pmin.toNat 63 then 0 else (s.allocOf p).target),
        setpoint := (if (s.allocOf p).setpoint < min pmin.toNat 63 then 0 else (s.allocOf p).setpoint) } else
      s.allocOf p)) :=
  ⟨9, 64, 65535, 4096, asks .f (.setLimits 9 64 65535 4096) (active 3 1 300 9 150 150 170 field), asks .f
    (.setLimits 9 64 65535 4096) (active 3 1 300 9 150 150 170 field), by decide, by decide, by decide, rfl, by decide⟩

theorem witness_SetSlotTaken :
    ∃ (n : Word16) (s : State), s.Ready ∧ s.CeilingFormed ∧ s.handedRequest .f = some (.setSlot n) :=
  ⟨65535, asks .f (.setSlot 65535) (active 3 1 300 9 150 150 170 field), by decide, by decide, by decide⟩

theorem witness_LinesSettle :
    (∃ (s : State), s.Ready ∧ s.CeilingFormed ∧ (s.lines.get .fldEnable).raw ≠ s.level .fldEnable) ∧
    (∃ (l : SourceLine) (s : State), s.Ready ∧ s.CeilingFormed ∧ (s.lines.get (lineOfSource l)).raw ≠ s.level
      (lineOfSource l)) ∧
    (∃ (s : State), s.Ready ∧ (s.lines.get .fldEnable).raw = s.level .fldEnable) ∧
    (∃ (l : SourceLine) (s : State), s.Ready ∧ (s.lines.get (lineOfSource l)).raw = s.level (lineOfSource l)) ∧
    (∃ (s : State), s.Ready ∧ s.feederMode = .shared ∧ s.level .headroomGiven = false ∧
      (s.lines.get .headroomGiven).raw = true) ∧
    (∃ (s : State), s.Ready ∧
      (s.feederMode = .dedicated ∨ s.level .headroomGiven = true ∨ (s.lines.get .headroomGiven).raw = false)) ∧
    (∃ (s : State), s.Ready ∧ s.level .svcKey = true ∧ (s.lines.get .svcKey).raw = false ∧ s.service ≠ .closed) ∧
    (∃ (s : State), s.Ready ∧ (s.level .svcKey = false ∨ (s.lines.get .svcKey).raw = true ∨ s.service = .closed)) :=
  ⟨⟨{ active 3 1 300 9 150 150 170 field with lines := { field.lines with fldEnable := ⟨false, some true⟩ } }, by
     decide, by decide, by decide⟩,
   ⟨.aTaken,
     { active 3 1 300 9 150 150 170 field with lines := { field.lines with srcATaken := ⟨false, some true⟩ } }, by
     decide, by decide, by decide⟩,
   ⟨field, by decide, by decide⟩,
   ⟨.bLive, field, by decide, by decide⟩,
   ⟨{ ({ active 3 1 300 9 100 150 90 field with lines := { field.lines with headroomGiven := ⟨true, some false⟩ } } : State) with
      feederMode := .shared }, by decide, by decide, by decide, by decide⟩,
   ⟨field, by decide, by decide⟩,
   ⟨{ service .opened field with lines := { field.lines with svcKey := ⟨false, some true⟩ } }, by decide, by decide,
     by decide, by decide⟩,
   ⟨field, by decide, by decide⟩⟩

theorem witness_BoundaryTaken :
    (∃ (s : State), s.Ready ∧ s.MembershipLaw ∧ s.timer.mode = .running ∧ s.timer.phase = 3599 ∧
      (∀ p, (s.allocOf p).starvation ≤ 2)) ∧
    (∃ (s : State), s.Ready ∧ s.timer.mode = .running ∧ s.timer.phase < 3599) ∧
    (∃ (s : State), s.Ready ∧ s.timer.mode = .held) ∧
    (∃ (shed : Shed) (s : State), s.Ready ∧ s.MembershipLaw ∧ s.timer.mode = .running ∧ s.timer.phase = 3599 ∧
      s.feeder.shed = some shed ∧ shed.toRun ≤ 1) ∧
    (∃ (p : Pad) (token tag e : Nat) (terms : Terms) (s : State), s.Ready ∧ s.MembershipLaw ∧ s.timer.mode = .running
      ∧ s.timer.phase = 3599 ∧ (s.session p).body = .binding token tag terms e ∧ 4 ≤ e) ∧
    (∃ (p : Pad) (s : State), s.Ready ∧ s.MembershipLaw ∧ s.timer.mode = .running ∧ s.timer.phase = 3599 ∧ p ∈
      (s.boundaryStages.roundTargets true).active ∧ ((s.boundaryStages.roundTargets true).allocOf p).target = 0 ∧
      ((s.boundaryStages.roundTargets true).allocOf p).paused = false ∧ 2 ≤
      ((s.boundaryStages.roundTargets true).allocOf p).starvation) ∧
    (∃ (a b s : State) (grant count : Pad → Nat), s.Ready ∧ s.MembershipLaw ∧ s.timer.mode = .running ∧ s.timer.phase
      = 3599 ∧ s.IdleOffList ∧ b = { s.boundaryStages with roundRequest := false, alloc := b.alloc } ∧
      (∀ p, b.allocOf p =
      (if p ∈ s.active then { s.allocOf p with rampBase := (s.allocOf p).setpoint } else s.allocOf p)) ∧ a =
      b.admission b.budget ∧ (∀ p, grant p = grantOf (a.grants b.budget) p) ∧
      (∀ p, count p = (if (a.allocOf p).paused then (a.allocOf p).starvation else if grant p = 0 then
      (a.allocOf p).starvation + 1 else 0))) :=
  ⟨⟨clock 65535 3599 (queued 5 2 300 9 (active 3 1 300 9 150 150 170 field)), by decide, by decide, by decide, by
     decide, by decide⟩,
   ⟨clock 7 3598 field, by decide, by decide, by decide⟩,
   ⟨{ field with timer := ⟨7, 0, .held⟩ }, by decide, by decide⟩,
   ⟨⟨300, 1⟩, { clock 7 3599 field with feeder := { field.feeder with shed := some ⟨300, 1⟩ } }, by decide, by decide,
     by decide, by decide, by decide, by decide⟩,
   ⟨3, 7, 100, 4, ⟨1, 300, 9⟩, clock 7 3599 (withBody 3 (.binding 7 100 ⟨1, 300, 9⟩ 4) field), by decide, by decide,
     by decide, by decide, by decide, by decide⟩,
   ⟨3, starving, by decide, by decide, by decide, by decide, by decide, by decide, by decide, by decide⟩,
   ⟨State.admission (State.setRampBases { State.boundaryStages (clock 7 3599 (queued 5 2 300 9 (active 3 1 300 9 150 150 170 field))) with
                                          roundRequest := false })
     (State.budget (State.setRampBases { State.boundaryStages (clock 7 3599 (queued 5 2 300 9 (active 3 1 300 9 150 150 170 field))) with
                                         roundRequest := false })), State.setRampBases
     { State.boundaryStages (clock 7 3599 (queued 5 2 300 9 (active 3 1 300 9 150 150 170 field))) with
       roundRequest := false }, clock 7 3599 (queued 5 2 300 9 (active 3 1 300 9 150 150 170 field)), fun p => grantOf
     (State.grants (State.admission (State.setRampBases { State.boundaryStages (clock 7 3599 (queued 5 2 300 9 (active 3 1 300 9 150 150 170 field))) with
                                                          roundRequest := false })
     (State.budget (State.setRampBases { State.boundaryStages (clock 7 3599 (queued 5 2 300 9 (active 3 1 300 9 150 150 170 field))) with
                                         roundRequest := false })))
     (State.budget (State.setRampBases { State.boundaryStages (clock 7 3599 (queued 5 2 300 9 (active 3 1 300 9 150 150 170 field))) with
                                         roundRequest := false }))) p, fun p => if
     (State.allocOf (State.admission (State.setRampBases { State.boundaryStages (clock 7 3599 (queued 5 2 300 9 (active 3 1 300 9 150 150 170 field))) with
                                                           roundRequest := false })
     (State.budget (State.setRampBases { State.boundaryStages (clock 7 3599 (queued 5 2 300 9 (active 3 1 300 9 150 150 170 field))) with
                                         roundRequest := false }))) p).paused then
     (State.allocOf (State.admission (State.setRampBases { State.boundaryStages (clock 7 3599 (queued 5 2 300 9 (active 3 1 300 9 150 150 170 field))) with
                                                           roundRequest := false })
     (State.budget (State.setRampBases { State.boundaryStages (clock 7 3599 (queued 5 2 300 9 (active 3 1 300 9 150 150 170 field))) with
                                         roundRequest := false }))) p).starvation else if grantOf
     (State.grants (State.admission (State.setRampBases { State.boundaryStages (clock 7 3599 (queued 5 2 300 9 (active 3 1 300 9 150 150 170 field))) with
                                                          roundRequest := false })
     (State.budget (State.setRampBases { State.boundaryStages (clock 7 3599 (queued 5 2 300 9 (active 3 1 300 9 150 150 170 field))) with
                                         roundRequest := false })))
     (State.budget (State.setRampBases { State.boundaryStages (clock 7 3599 (queued 5 2 300 9 (active 3 1 300 9 150 150 170 field))) with
                                         roundRequest := false }))) p = 0 then
     (State.allocOf (State.admission (State.setRampBases { State.boundaryStages (clock 7 3599 (queued 5 2 300 9 (active 3 1 300 9 150 150 170 field))) with
                                                           roundRequest := false })
     (State.budget (State.setRampBases { State.boundaryStages (clock 7 3599 (queued 5 2 300 9 (active 3 1 300 9 150 150 170 field))) with
                                         roundRequest := false }))) p).starvation + 1 else 0, by decide, by decide, by
     decide, by decide, by decide, rfl, by decide, rfl, fun _ => rfl, fun _ => rfl⟩⟩

theorem witness_AlignTaken :
    (∃ (s : State), s.Ready ∧ s.MembershipLaw ∧ s.level .slotAlign = false ∧ (s.lines.get .slotAlign).raw = true ∧
      s.timer.mode = .running ∧ 1800 ≤ s.timer.phase) ∧
    (∃ (s : State), s.Ready ∧ s.level .slotAlign = false ∧ (s.lines.get .slotAlign).raw = true ∧ s.timer.mode =
      .running ∧ s.timer.phase < 1800) ∧
    (∃ (s : State), s.Ready ∧ s.level .slotAlign = true ∧ (s.lines.get .slotAlign).raw = false) ∧
    (∃ (s : State), s.Ready ∧ (s.level .slotAlign = true ∨ (s.lines.get .slotAlign).raw = false)) ∧
    (∃ (s : State), s.Ready ∧ s.level .slotAlign = false ∧ (s.lines.get .slotAlign).raw = false) :=
  ⟨⟨clock 65535 1800 { field with lines := { field.lines with slotAlign := ⟨true, some false⟩ } }, by decide, by
     decide, by decide, by decide, by decide, by decide⟩,
   ⟨clock 7 1799 { field with lines := { field.lines with slotAlign := ⟨true, some false⟩ } }, by decide, by decide,
     by decide, by decide, by decide⟩,
   ⟨{ field with lines := { field.lines with slotAlign := ⟨false, some true⟩ } }, by decide, by decide, by decide⟩,
   ⟨{ field with lines := { field.lines with slotAlign := ⟨true, some true⟩ } }, by decide, by decide⟩,
   ⟨{ field with lines := { field.lines with slotAlign := ⟨false, none⟩ } }, by decide, by decide, by decide⟩⟩

theorem witness_ServiceModeTaken :
    (∃ (field : Byte) (s : State), s.Ready ∧ s.service = .closed ∧ s.handedRequest .s = some (.openService field) ∧
      s.level .svcKey = false) ∧
    (∃ (field : Byte) (s : State), s.Ready ∧ s.service = .closed ∧ s.handedRequest .s = some (.openService field) ∧
      s.level .svcKey = true ∧ field ≠ s.fieldId) ∧
    (∃ (s : State), s.Ready ∧ s.service = .closed ∧ s.handedRequest .s = some (.openService s.fieldId) ∧ s.level
      .svcKey = true) ∧
    (∃ (s : State), s.Ready ∧ s.service = .opening ∧ s.handedRequest .s = some (.confirmService s.fieldId)) ∧
    (∃ (field : Byte) (s : State), s.Ready ∧ s.service = .opening ∧ s.handedRequest .s = some (.confirmService field)
      ∧ field ≠ s.fieldId) ∧
    (∃ (s : State), s.Ready ∧ s.service ≠ .closed ∧ s.handedRequest .s = some .closeService) ∧
    (∃ (s : State), s.Ready ∧ s.service = .closed ∧ s.handedRequest .s = some .closeService) ∧
    (∃ (s : State), s.Ready ∧ s.service = .opening) ∧
    (∃ (s : State), s.Ready ∧ s.service ≠ .opening) :=
  ⟨⟨0, asks .s (.openService 0) field, by decide, by decide, by decide, by decide⟩,
   ⟨1, asks .s (.openService 1) (service .closed field), by decide, by decide, by decide, by decide, by decide⟩,
   ⟨asks .s (.openService 0) (service .closed field), by decide, by decide, by decide, by decide⟩,
   ⟨asks .s (.confirmService 0) (service .opening field), by decide, by decide, by decide⟩,
   ⟨1, asks .s (.confirmService 1) (service .opening field), by decide, by decide, by decide, by decide⟩,
   ⟨asks .s .closeService (service .opening field), by decide, by decide, by decide⟩,
   ⟨asks .s .closeService field, by decide, by decide, by decide⟩,
   ⟨service .opening field, by decide, by decide⟩,
   ⟨service .opened field, by decide, by decide⟩⟩

theorem witness_LockPadsTaken :
    (∃ (base mask code tag : Byte) (news : List Pad) (s : State), s.Ready ∧ s.MembershipLaw ∧ s.HeldStatesLaw ∧
      s.IdleOffList ∧ s.service ≠ .opening ∧ s.ports.s.pending = some ⟨code, tag, .handed (.lockPads base mask)⟩ ∧
      base.toNat ≤ 31 ∧ mask.toNat ≤ 31 ∧ news = padList.filter
      (fun p => selects base mask p && decide (s.padState p ≠ .locked))) ∧
    (∃ (base mask : Byte) (s : State), s.Ready ∧ s.service ≠ .opening ∧ s.handedRequest .s = some
      (.lockPads base mask) ∧ (31 < base.toNat ∨ 31 < mask.toNat)) :=
  ⟨⟨3, 31, 0x30#8, 7, padList, asks .s (.lockPads 3 31) (queued 5 2 300 9 (active 3 1 300 9 150 150 170 field)), by
     decide, by decide, by decide, by decide, by decide, by decide, by decide, by decide, by decide⟩,
   ⟨32, 0, asks .s (.lockPads 32 0) field, by decide, by decide, by decide, by decide⟩⟩

theorem witness_ServiceRequestsTaken :
    (∃ (base mask code tag : Byte) (free : List Pad) (ids : List RecordId) (s : State), s.Ready ∧ s.service = .opened
      ∧ s.ports.s.pending = some ⟨code, tag, .handed (.unlockPads base mask)⟩ ∧ base.toNat ≤ 31 ∧ mask.toNat ≤ 31 ∧
      free = padList.filter (fun p => selects base mask p && decide (s.padState p = .locked)) ∧ ids = free.flatMap
      (fun p => (⟨.lockout, p⟩ : RecordId) :: if (s.faultOf p).isSome then [⟨.fault, p⟩] else [])) ∧
    (∃ (pad code tag : Byte) (p : Pad) (s : State), s.Ready ∧ s.HeldStatesLaw ∧ s.service = .opened ∧
      s.ports.s.pending = some ⟨code, tag, .handed (.clearFault pad)⟩ ∧ pad.toNat = p.val ∧ s.padState p = .faulted) ∧
    (∃ (pad : Byte) (p : Pad) (s : State), s.Ready ∧ s.service = .opened ∧ s.handedRequest .s = some (.clearFault pad)
      ∧ pad.toNat = p.val ∧ s.padState p ≠ .faulted) ∧
    (∃ (pad code tag : Byte) (rating : Word16) (p : Pad) (s : State), s.Ready ∧ s.service = .opened ∧
      s.ports.s.pending = some ⟨code, tag, .handed (.setRating pad rating)⟩ ∧ pad.toNat = p.val ∧ s.padState p =
      .locked ∧ min rating.toNat 400 ≠ s.rating p) ∧
    (∃ (pad : Byte) (rating : Word16) (p : Pad) (s : State), s.Ready ∧ s.service = .opened ∧ s.handedRequest .s = some
      (.setRating pad rating) ∧ pad.toNat = p.val ∧ s.padState p = .locked ∧ min rating.toNat 400 = s.rating p) ∧
    (∃ (pad : Byte) (rating : Word16) (p : Pad) (s : State), s.Ready ∧ s.service = .opened ∧ s.handedRequest .s = some
      (.setRating pad rating) ∧ pad.toNat = p.val ∧ s.padState p ≠ .locked) ∧
    (∃ (pad : Byte) (p : Pad) (s : State), s.Ready ∧ s.service ≠ .opening ∧ s.handedRequest .s = some (.readFault pad)
      ∧ pad.toNat = p.val) ∧
    (∃ (pad : Byte) (s : State), s.Ready ∧ s.service ≠ .opening ∧ s.handedRequest .s = some (.readFault pad) ∧ 24 ≤
      pad.toNat) ∧
    (∃ (r : Request) (pad base mask : Byte) (rating : Word16) (s : State), s.Ready ∧ s.service = .opened ∧
      s.handedRequest .s = some r ∧ r ∈
      [.clearFault pad, .setRating pad rating, .readFault pad, .unlockPads base mask] ∧ 24 ≤ pad.toNat ∧
      (31 < base.toNat ∨ 31 < mask.toNat)) :=
  ⟨⟨0, 31, 0x34#8, 7, [3], [⟨.lockout, 3⟩, ⟨.fault, 3⟩], asks .s (.unlockPads 0 31)
     (service .opened (locked 3 (faulted 3 field))), by decide, by decide, by decide, by decide, by decide, by decide,
     by decide⟩,
   ⟨23, 0x35#8, 7, 23, asks .s (.clearFault 23) (service .opened (faulted 23 field)), by decide, by decide, by decide,
     by decide, by decide, by decide⟩,
   ⟨23, 23, asks .s (.clearFault 23) (service .opened (locked 23 field)), by decide, by decide, by decide, by decide,
     by decide⟩,
   ⟨23, 0x36#8, 7, 65535, 23, asks .s (.setRating 23 65535) (service .opened (locked 23 field)), by decide, by decide,
     by decide, by decide, by decide, by decide⟩,
   ⟨23, 200, 23, asks .s (.setRating 23 200) (service .opened (locked 23 field)), by decide, by decide, by decide, by
     decide, by decide, by decide⟩,
   ⟨23, 200, 23, asks .s (.setRating 23 200) (service .opened field), by decide, by decide, by decide, by decide, by
     decide⟩,
   ⟨23, 23, asks .s (.readFault 23) field, by decide, by decide, by decide, by decide⟩,
   ⟨24, asks .s (.readFault 24) field, by decide, by decide, by decide, by decide⟩,
   ⟨.unlockPads 32 0, 24, 32, 0, 0, asks .s (.unlockPads 32 0) (service .opened field), by decide, by decide, by
     decide, by decide, by decide, by decide⟩⟩

theorem witness_StoreWriteCompletes :
    (∃ (w : Writing) (s : State), s.Ready ∧ s.store.writing = some w) ∧
    (∃ (w : Writing) (code tag : Byte) (status : Status) (body : List Byte) (s : State), s.Ready ∧ s.store.writing =
      some w ∧ s.ports.s.pending = some ⟨code, tag, .held [⟨w.id, false⟩] status body⟩) ∧
    (∃ (w : Writing) (waits : List StoreWait) (code tag : Byte) (status : Status) (body : List Byte) (s : State),
      s.Ready ∧ s.store.writing = some w ∧ s.ports.s.pending = some ⟨code, tag, .held waits status body⟩ ∧
      (∃ x ∈ waits, x.id ≠ w.id ∨ x.skip = true)) ∧
    (∃ (s : State), s.Ready ∧ s.store.writing = none) :=
  ⟨⟨⟨⟨.rating, 2⟩, .rating 90⟩, writing field, by decide, by decide⟩,
   ⟨⟨⟨.rating, 2⟩, .rating 90⟩, 0x36#8, 7, .ok, [], waitingFor [⟨⟨.rating, 2⟩, false⟩], by decide, by decide, by
     decide⟩,
   ⟨⟨⟨.rating, 2⟩, .rating 90⟩, [⟨⟨.rating, 2⟩, true⟩], 0x36#8, 7, .ok, [], waitingFor [⟨⟨.rating, 2⟩, true⟩], by
     decide, by decide, by decide, by decide⟩,
   ⟨field, by decide, by decide⟩⟩

theorem witness_ResetAndPowerLoss :
    ∃ (s : State), s.powered = true :=
  ⟨writing field, by decide⟩

end Sys2Proof.Tests
end

section
/-! PROOFS. Facts about tables, change sets and session records that the proofs of the pad sessions share. -/

namespace Sys2Proof

namespace Table

variable {n : Nat} {α : Type}

@[simp] theorem set_set (t : Table n α) (i : Fin n) (x y : α) : (t.set i x).set i y = t.set i y :=
  ext_get fun j => by by_cases h : j = i <;> simp [h]

@[simp] theorem set_get (t : Table n α) (i : Fin n) : t.set i (t.get i) = t :=
  ext_get fun j => by by_cases h : j = i <;> simp [h]

end Table

namespace Machine

/-! ### Change sets (R172) -/

@[simp] theorem ChangeSet.enter_none (c : ChangeSet) : c.enter (fun _ => false) false = c := by
  obtain ⟨pads, field⟩ := c
  simp only [ChangeSet.enter, Bool.or_false, ChangeSet.mk.injEq, and_true]
  exact Table.ext_get fun p => by simp

theorem ChangeSet.enter_enter (c : ChangeSet) (pads pads' : Pad → Bool) (field field' : Bool) :
    (c.enter pads field).enter pads' field' = c.enter (fun p => pads p || pads' p) (field || field') := by
  simp only [ChangeSet.enter, Bool.or_assoc, ChangeSet.mk.injEq, and_true]
  exact Table.ext_get fun p => by simp [Bool.or_assoc]

@[simp] theorem Ports.enter_none (ports : Ports) : ports.enter (fun _ => false) false = ports := by
  simp [Ports.enter, PortRec.enter]

theorem Ports.enter_enter (ports : Ports) (pads pads' : Pad → Bool) (field field' : Bool) :
    (ports.enter pads field).enter pads' field' = ports.enter (fun p => pads p || pads' p) (field || field') := by
  simp [Ports.enter, PortRec.enter, ChangeSet.enter_enter]

/-! ### Session records (R4) -/

theorem SessionRec.eq_of_body {r : SessionRec} {b : PadBody} (h : r.body = b) : r = ⟨b, r.tokenSeq, r.last⟩ := by
  rw [← h]

/-- A session record's change enters its pad into the change sets when a reported field changed. -/
theorem State.setSession_eq (s : State) (p : Pad) (r : SessionRec) :
    s.setSession p r =
      { s with
        sessions := s.sessions.set p r
        ports := s.ports.enter (fun q => decide (q = p) && decide ((s.session p).reported ≠ r.reported)) false } := by
  simp only [State.setSession, State.setSessions]
  congr 2
  funext q
  by_cases h : q = p
  · subst h; simp only [Table.get_set_self, decide_true, Bool.true_and]; rfl
  · simp [h]

/-- A change of a session record that leaves the reported fields enters no change set. -/
theorem State.setSession_of_reported_eq {s : State} {p : Pad} {r : SessionRec}
    (h : r.reported = (s.session p).reported) : s.setSession p r = { s with sessions := s.sessions.set p r } := by
  simp [State.setSession_eq, h]

/-- A change of a session record that changes a reported field enters the pad into the change sets. -/
theorem State.setSession_of_reported_ne {s : State} {p : Pad} {r : SessionRec}
    (h : (s.session p).reported ≠ r.reported) :
    s.setSession p r = { s.enterPad p with sessions := s.sessions.set p r } := by
  simp [State.setSession_eq, h, State.enterPad, State.enterPads]

/-! ### The retained store (R163) -/

@[simp] theorem Store.enqueue_image (st : Store) (id : RecordId) : (st.enqueue id).image = st.image := by
  rw [Store.enqueue_frame]

@[simp] theorem Store.enqueue_cells (st : Store) (id : RecordId) : (st.enqueue id).cells = st.cells := by
  rw [Store.enqueue_frame]

@[simp] theorem Store.enqueue_writing (st : Store) (id : RecordId) : (st.enqueue id).writing = st.writing := by
  rw [Store.enqueue_frame]

@[simp] theorem Store.change_image (st : Store) (p : Pad) (c : Content) :
    (st.change p c).image = st.image.put p c := by
  simp [Store.change]

@[simp] theorem Store.change_cells (st : Store) (p : Pad) (c : Content) : (st.change p c).cells = st.cells := by
  simp [Store.change]

@[simp] theorem Store.change_writing (st : Store) (p : Pad) (c : Content) : (st.change p c).writing = st.writing := by
  simp [Store.change]

end Machine

end Sys2Proof
end

section
/-! PROOFS. What a command does to the session record, the lockout flag and the fault record of one pad, said once as a list of
moves; the laws of the session table follow from it. -/

namespace Sys2Proof.Machine

/-! ### The moves of one pad -/

/-- What the session table and the image of the store hold of one pad. -/
structure PadView where
  row : SessionRec
  flag : Bool
  fault : Option FaultRec

/-- A pad as the session table and the image of the store hold it. -/
def State.view (s : State) (p : Pad) : PadView := ⟨s.session p, s.lockout p, s.faultOf p⟩

/-- FAULTED and LOCKED: the two states that records of the store hold a pad in (R3). -/
def PadBody.isHeld : PadBody → Bool
  | .faulted | .locked => true
  | _ => false

/-- A state without a session in which no record of the store holds the pad. -/
def PadBody.isFree : PadBody → Bool
  | .vacant | .seen _ | .clearing _ | .offline => true
  | _ => false

/-- The changes of one pad that the rules make: a session's end or a change without one (R12, R13, R18 to R25), a bind
(R8 to R11), a change of phase and terms (R15 to R17), a report's accounting (R14, R21), a latch (R23), and the three ways in
and out of the lock (R24, R158, R159). -/
inductive PadMove : PadView → PadView → Prop
  | leave {b b' : PadBody} {n : Nat} {l l' : Option LastOutcome} {flag : Bool} {fault : Option FaultRec} :
      b.isHeld = false → b'.isFree = true → PadMove ⟨⟨b, n, l⟩, flag, fault⟩ ⟨⟨b', n, l'⟩, flag, fault⟩
  | bind {b : PadBody} {n : Nat} {l : Option LastOutcome} {flag : Bool} {fault : Option FaultRec} (tag : Nat)
      (terms : Terms) : b.isFree = true →
      PadMove ⟨⟨b, n, l⟩, flag, fault⟩ ⟨⟨.binding (nextToken n) tag terms 0, nextToken n, l⟩, flag, fault⟩
  | matchAtOnce {b : PadBody} {n : Nat} {l : Option LastOutcome} {flag : Bool} {fault : Option FaultRec} (tag : Nat)
      (terms : Terms) (ref : Option Word16) : b.isFree = true →
      PadMove ⟨⟨b, n, l⟩, flag, fault⟩
        ⟨⟨.matched .eligible (nextToken n) tag terms (.fresh ref), nextToken n, l⟩, flag, fault⟩
  | countSlot {token tag e n : Nat} {terms : Terms} {l : Option LastOutcome} {flag : Bool} {fault : Option FaultRec} :
      e + 1 < 5 →
      PadMove ⟨⟨.binding token tag terms e, n, l⟩, flag, fault⟩ ⟨⟨.binding token tag terms (e + 1), n, l⟩, flag, fault⟩
  | settle {token tag e n : Nat} {terms : Terms} {l : Option LastOutcome} {flag : Bool} {fault : Option FaultRec}
      (ref : Option Word16) :
      PadMove ⟨⟨.binding token tag terms e, n, l⟩, flag, fault⟩
        ⟨⟨.matched .eligible token tag terms (.fresh ref), n, l⟩, flag, fault⟩
  | rephase {phase : Matched} {token tag n : Nat} {terms : Terms} {m : Meter} {l : Option LastOutcome} {flag : Bool}
      {fault : Option FaultRec} (phase' : Matched) (terms' : Terms) :
      PadMove ⟨⟨.matched phase token tag terms m, n, l⟩, flag, fault⟩
        ⟨⟨.matched phase' token tag terms' m, n, l⟩, flag, fault⟩
  | account {b : PadBody} {n : Nat} {l : Option LastOutcome} {flag : Bool} {fault : Option FaultRec}
      (meter : Option Word16) : PadMove ⟨⟨b, n, l⟩, flag, fault⟩ ⟨⟨b.account meter, n, l⟩, flag, fault⟩
  | countSoft {b : PadBody} {n : Nat} {l : Option LastOutcome} {flag : Bool} {fault : Option FaultRec}
      (state : ChargerState) : b.softLimit state = false →
      PadMove ⟨⟨b, n, l⟩, flag, fault⟩ ⟨⟨b.countSoft state, n, l⟩, flag, fault⟩
  | latch {b : PadBody} {n : Nat} {l l' : Option LastOutcome} {flag : Bool} {fault : Option FaultRec} (x : FaultRec) :
      PadMove ⟨⟨b, n, l⟩, flag, fault⟩ ⟨⟨if b.isHeld then b else .faulted, n, l'⟩, flag, some x⟩
  | lock {b : PadBody} {n : Nat} {l l' : Option LastOutcome} {flag : Bool} {fault : Option FaultRec} :
      PadMove ⟨⟨b, n, l⟩, flag, fault⟩ ⟨⟨.locked, n, l'⟩, true, fault⟩
  | unlock {b b' : PadBody} {n : Nat} {l : Option LastOutcome} {flag : Bool} {fault : Option FaultRec} :
      b'.isFree = true → PadMove ⟨⟨b, n, l⟩, flag, fault⟩ ⟨⟨b', n, l⟩, false, none⟩
  | clear {b b' : PadBody} {n : Nat} {l : Option LastOutcome} {flag : Bool} {fault : Option FaultRec} :
      b'.isFree = true →
      PadMove ⟨⟨b, n, l⟩, flag, fault⟩ ⟨⟨if flag then .locked else b', n, l⟩, flag, none⟩

/-- Between two states each pad made moves only. -/
structure State.Moves (s t : State) : Prop where
  pads : ∀ p, Relation.ReflTransGen PadMove (s.view p) (t.view p)

theorem State.Moves.refl (s : State) : s.Moves s := ⟨fun _ => .refl⟩

theorem State.Moves.trans {s t u : State} (h : s.Moves t) (h' : t.Moves u) : s.Moves u :=
  ⟨fun p => (h.pads p).trans (h'.pads p)⟩

/-- A law of one pad that every move keeps is kept between the two states. -/
theorem State.Moves.keeps {s t : State} (h : s.Moves t) {law : PadView → Prop}
    (hmove : ∀ v w, PadMove v w → law v → law w) (hs : ∀ p, law (s.view p)) : ∀ p, law (t.view p) := fun p => by
  have key : ∀ v, Relation.ReflTransGen PadMove (s.view p) v → law v := fun v hv => by
    induction hv with
    | refl => exact hs p
    | tail _ hm ih => exact hmove _ _ hm ih
  exact key _ (h.pads p)

/-- Session records, lockout flags and fault records are the same in two states. -/
structure State.SameHeld (s t : State) : Prop where
  sessions : t.sessions = s.sessions
  lockout : t.store.image.lockout = s.store.image.lockout
  fault : t.store.image.fault = s.store.image.fault

theorem State.SameHeld.refl (s : State) : s.SameHeld s := ⟨rfl, rfl, rfl⟩

theorem State.SameHeld.trans {s t u : State} (h : s.SameHeld t) (h' : t.SameHeld u) : s.SameHeld u :=
  ⟨h'.sessions.trans h.sessions, h'.lockout.trans h.lockout, h'.fault.trans h.fault⟩

theorem State.SameHeld.view {s t : State} (h : s.SameHeld t) (p : Pad) : t.view p = s.view p := by
  simp [State.view, State.session, State.lockout, State.faultOf, h.sessions, h.lockout, h.fault]

theorem State.SameHeld.moves {s t : State} (h : s.SameHeld t) : s.Moves t := ⟨fun p => by rw [h.view p]⟩

/-- One pad makes a move and the others stay. -/
theorem State.Moves.of_pad {s t : State} {p : Pad} (hne : ∀ q, q ≠ p → t.view q = s.view q)
    (h : PadMove (s.view p) (t.view p)) : s.Moves t :=
  ⟨fun q => by
    by_cases hq : q = p
    · subst hq; exact .single h
    · rw [hne q hq]⟩

theorem State.Moves.foldl {f : State → Pad → State} (h : ∀ (s : State) (p : Pad), s.Moves (f s p)) (l : List Pad) (s : State) :
    s.Moves (l.foldl f s) := by
  induction l generalizing s with
  | nil => exact .refl s
  | cons p rest ih => exact (h s p).trans (ih (f s p))

theorem State.SameHeld.foldl {f : State → Pad → State} (h : ∀ (s : State) (p : Pad), s.SameHeld (f s p)) (l : List Pad) (s : State) :
    s.SameHeld (l.foldl f s) := by
  induction l generalizing s with
  | nil => exact .refl s
  | cons p rest ih => exact (h s p).trans (ih (f s p))

/-! ### The operations that leave the session table -/

/-- The end of an event leaves the session table and the image of the store. -/
theorem finishEvent_sameHeld (before after : State) : after.SameHeld (finishEvent before after) := by
  rw [finishEvent_frame]
  obtain ⟨himage, -, -⟩ := after.store.beginWrite_frame
  exact ⟨rfl, congrArg _ himage, congrArg _ himage⟩

theorem State.Moves.event {s after t : State} (h : s.Moves after) (he : s.event after = .next t) : s.Moves t := by
  cases hp : s.powered with
  | false => rw [State.event_of_unpowered hp] at he; cases he; exact .refl s
  | true =>
    rw [State.event_of_powered hp] at he
    cases he
    exact h.trans (finishEvent_sameHeld s after).moves

theorem State.SameHeld.event {s after t : State} (h : s.SameHeld after) (he : s.event after = .next t) : s.Moves t :=
  h.moves.event he

theorem State.answer_sameHeld (s : State) (port : Port) (status : Status) (body : List Byte) :
    s.SameHeld (s.answer port status body) := by
  rw [s.answer_frame]; exact ⟨rfl, rfl, rfl⟩

theorem State.answerAfter_sameHeld (s : State) (port : Port) (waits : List StoreWait) (status : Status)
    (body : List Byte) : s.SameHeld (s.answerAfter port waits status body) := by
  rw [s.answerAfter_frame]; exact ⟨rfl, rfl, rfl⟩

theorem State.setService_sameHeld (s : State) (v : ServiceState) : s.SameHeld (s.setService v) := by
  rw [s.setService_frame]; exact ⟨rfl, rfl, rfl⟩

theorem State.reformInSlot_sameHeld (s : State) : s.SameHeld s.reformInSlot := by
  rw [s.reformInSlot_frame]; exact ⟨rfl, rfl, rfl⟩

theorem State.releaseAttempt_sameHeld (s : State) : s.SameHeld s.releaseAttempt := by
  rw [s.releaseAttempt_frame]; exact ⟨rfl, rfl, rfl⟩

theorem State.leaveEligibility_sameHeld (s : State) (p : Pad) : s.SameHeld (s.leaveEligibility p) := by
  rw [s.leaveEligibility_frame]; exact ⟨rfl, rfl, rfl⟩

theorem State.clampPad_sameHeld (s : State) (p : Pad) : s.SameHeld (s.clampPad p) := by
  rw [s.clampPad_frame]; exact ⟨rfl, rfl, rfl⟩

/-- A gated request leaves what its own act leaves, or refuses (R154). -/
theorem State.gated_cases (s : State) (k : RequestKind) (act : State → State) :
    s.gated k act = act s ∨ ∃ u status, (u = s ∨ u = s.setService .closed) ∧ s.gated k act = u.answer .s status [] := by
  rw [State.gated]
  split
  · exact .inl rfl
  · refine .inr ⟨_, _, ?_, rfl⟩
    split
    · exact .inr rfl
    · exact .inl rfl

/-- Every gated request makes moves only when its act does. -/
theorem State.Moves.gated {s : State} {k : RequestKind} {act : State → State} (h : s.Moves (act s)) :
    s.Moves (s.gated k act) := by
  obtain he | ⟨u, status, hu, he⟩ := s.gated_cases k act
  · rw [he]; exact h
  · rw [he]
    refine State.Moves.trans ?_ (u.answer_sameHeld ..).moves
    obtain rfl | rfl := hu
    · exact .refl _
    · exact (s.setService_sameHeld _).moves

theorem State.Moves.gatedOn {s : State} {port : Port} {k : RequestKind} {act : State → State} (h : s.Moves (act s)) :
    s.Moves (s.gatedOn port k act) := by
  cases port
  case s => exact h.gated
  all_goals exact h

theorem State.handOnPadCell_sameHeld (before s : State) (p : Pad) : s.SameHeld (State.handOnPadCell before s p) := by
  rw [State.handOnPadCell]
  repeat' split
  all_goals first | exact s.clampPad_sameHeld p | exact ⟨rfl, rfl, rfl⟩

theorem State.handOnCells_sameHeld (before s : State) : s.SameHeld (State.handOnCells before s) := by
  have h := State.SameHeld.foldl (State.handOnPadCell_sameHeld before) padList s
  unfold State.handOnCells
  dsimp only
  split
  · exact h
  · exact h.trans (State.reformInSlot_sameHeld _)

theorem State.roundTargets_sameHeld (s : State) (boundary : Bool) : s.SameHeld (s.roundTargets boundary) := by
  rw [State.roundTargets, State.applyTargets_frame, State.admission_frame]
  cases boundary <;> exact ⟨rfl, rfl, rfl⟩

theorem State.toQueue_sameHeld (s : State) (p : Pad) : s.SameHeld (s.toQueue p) := ⟨rfl, rfl, rfl⟩

theorem State.returnStarved_sameHeld (s : State) : s.SameHeld s.returnStarved :=
  State.SameHeld.foldl State.toQueue_sameHeld _ s

theorem State.boundaryRound_sameHeld (s : State) : s.SameHeld s.boundaryRound := by
  have hcount : (s.roundTargets true).SameHeld (s.roundTargets true).countStarvation := ⟨rfl, rfl, rfl⟩
  exact (((s.roundTargets_sameHeld true).trans hcount).trans (State.returnStarved_sameHeld _)).trans
    (State.releaseAttempt_sameHeld _)

theorem State.takeLimits_sameHeld (s : State) (ramp pmin fallback tie : Nat) :
    s.SameHeld (s.takeLimits ramp pmin fallback tie) := by
  rw [State.takeLimits]
  refine State.SameHeld.trans ?_ (State.SameHeld.trans (State.reformInSlot_sameHeld _) ⟨rfl, rfl, rfl⟩)
  dsimp only
  split <;> exact ⟨rfl, rfl, rfl⟩

theorem State.endShed_sameHeld (s : State) : s.SameHeld s.endShed := by
  rw [State.endShed]
  split
  · refine State.SameHeld.trans ?_ (State.reformInSlot_sameHeld _)
    exact ⟨rfl, rfl, rfl⟩
  · exact .refl s

theorem State.supplyLineSettles_sameHeld (s : State) (line : Line) : s.SameHeld (s.supplyLineSettles line) := by
  rw [State.supplyLineSettles]
  split
  · refine State.SameHeld.trans ?_ (State.reformInSlot_sameHeld _)
    exact ⟨rfl, rfl, rfl⟩
  · exact ⟨rfl, rfl, rfl⟩

theorem Store.completeWrite_image (st : Store) : st.completeWrite.image = st.image := by
  rw [Store.completeWrite]
  split <;> rfl

theorem State.releaseHeld_sameHeld (s : State) (id : RecordId) : s.SameHeld (s.releaseHeld id) := by
  rw [State.releaseHeld]
  split
  · exact s.answerAfter_sameHeld ..
  · exact .refl s

theorem State.pollReport_sameHeld (s : State) (p : Pad) (r : Report) : s.SameHeld (s.pollReport p r) := by
  unfold State.pollReport
  split <;> exact ⟨rfl, rfl, rfl⟩

end Sys2Proof.Machine
end

section
/-! PROOFS. The operations that change the session table make moves only; so does every command but DEVICE_RESET. -/

namespace Sys2Proof.Machine

/-! ### The operations that change the session table -/

theorem State.view_setSession_self (s : State) (p : Pad) (r : SessionRec) :
    (s.setSession p r).view p = ⟨r, s.lockout p, s.faultOf p⟩ := by
  simp [State.view]

theorem State.view_setSession_ne (s : State) (p : Pad) (r : SessionRec) {q : Pad} (h : q ≠ p) :
    (s.setSession p r).view q = s.view q := by
  simp [State.view, h]

theorem State.Moves.setSession {s : State} {p : Pad} {r : SessionRec}
    (h : PadMove (s.view p) ⟨r, s.lockout p, s.faultOf p⟩) : s.Moves (s.setSession p r) :=
  .of_pad (fun _ hq => s.view_setSession_ne p r hq) (by rwa [s.view_setSession_self])

/-- A change of body is a move when the bodies allow it. -/
theorem State.Moves.setBody {s : State} {p : Pad} {b b' : PadBody} (hb : (s.session p).body = b)
    (h : PadMove ⟨⟨b, (s.session p).tokenSeq, (s.session p).last⟩, s.lockout p, s.faultOf p⟩
      ⟨⟨b', (s.session p).tokenSeq, (s.session p).last⟩, s.lockout p, s.faultOf p⟩) : s.Moves (s.setBody p b') := by
  subst hb
  exact .setSession h

/-- Closing a pad gives it its new body, keeps its token sequence and records, and leaves the other pads. -/
theorem State.view_closePad_self (s : State) (p : Pad) (ending : Ending) (body : PadBody) :
    ∃ last, (s.closePad p ending body).view p = ⟨⟨body, (s.session p).tokenSeq, last⟩, s.lockout p, s.faultOf p⟩ :=
  ⟨_, by
    simp only [State.view, State.lockout, State.faultOf, s.closePad_store]
    rw [s.session_closePad_self]⟩

theorem State.view_closePad_ne (s : State) (p : Pad) (ending : Ending) (body : PadBody) {q : Pad} (h : q ≠ p) :
    (s.closePad p ending body).view q = s.view q := by
  simp only [State.view, State.lockout, State.faultOf, s.closePad_store, s.session_closePad_ne p ending body h]

theorem State.Moves.closePad {s : State} {p : Pad} {ending : Ending} {body : PadBody}
    (hb : (s.session p).body.isHeld = false) (hbody : body.isFree = true) : s.Moves (s.closePad p ending body) := by
  refine .of_pad (fun q hq => s.view_closePad_ne p ending body hq) ?_
  obtain ⟨last, h⟩ := s.view_closePad_self p ending body
  rw [h]
  exact .leave hb hbody

theorem State.loseLink_moves (s : State) (p : Pad) : s.Moves (s.loseLink p) := by
  rw [State.loseLink]
  split
  · exact .refl s
  · exact .refl s
  · exact .refl s
  · rename_i hfaulted hlocked _
    refine .closePad ?_ rfl
    cases hb : (s.session p).body <;> first | rfl | exact absurd hb hfaulted | exact absurd hb hlocked

theorem State.view_changeRecord_ne (s : State) (p : Pad) (c : Content) {q : Pad} (h : q ≠ p) :
    (s.changeRecord p c).view q = s.view q := by
  cases c <;> simp [State.view, State.lockout, State.faultOf, StoreImage.put, h]

theorem State.view_lockPad_self (s : State) (p : Pad) :
    ∃ last, (s.lockPad p).view p = ⟨⟨.locked, (s.session p).tokenSeq, last⟩, true, s.faultOf p⟩ := by
  obtain ⟨last, h⟩ := s.view_closePad_self p .lockout .locked
  simp only [State.view, PadView.mk.injEq] at h
  obtain ⟨hsession, -, -⟩ := h
  refine ⟨last, ?_⟩
  simp only [State.lockPad, State.view, State.session_enterPad, State.session_changeRecord, hsession]
  simp [State.lockout, StoreImage.put, State.faultOf, s.closePad_store]

theorem State.lockPad_moves (s : State) (p : Pad) : s.Moves (s.lockPad p) := by
  refine .of_pad (p := p) (fun q hq => ?_) ?_
  · exact (State.view_changeRecord_ne _ p _ hq).trans (s.view_closePad_ne p _ _ hq)
  · obtain ⟨last, h⟩ := s.view_lockPad_self p
    rw [h]
    exact .lock

/-- What a latch makes of the session record: nothing on a pad already held, else the pad is FAULTED. -/
theorem State.session_faultPad_self (s : State) (p : Pad) :
    ∃ last, (s.faultPad p).session p =
      ⟨if (s.session p).body.isHeld then (s.session p).body else .faulted, (s.session p).tokenSeq, last⟩ := by
  rw [State.faultPad]
  split
  · rename_i hb; exact ⟨(s.session p).last, by rw [hb]; exact SessionRec.eq_of_body hb⟩
  · rename_i hb; exact ⟨(s.session p).last, by rw [hb]; exact SessionRec.eq_of_body hb⟩
  · rename_i hfaulted hlocked
    rw [s.session_closePad_self, if_neg]
    · exact ⟨_, rfl⟩
    · cases hb : (s.session p).body <;> first | exact Bool.false_ne_true | exact absurd hb hfaulted | exact absurd hb hlocked

theorem State.view_faultPad_ne (s : State) (p : Pad) {q : Pad} (h : q ≠ p) : (s.faultPad p).view q = s.view q := by
  obtain he | ⟨he, -⟩ := s.faultPad_eq p
  · rw [he]; exact s.view_closePad_ne p _ _ h
  · rw [he]

theorem State.latch_moves (s : State) (p : Pad) (cause : FaultCause) (code tag : Option Nat) (holdValue : Nat) :
    s.Moves (s.latch p cause code tag holdValue) := by
  refine .of_pad (p := p) (fun q hq => ?_) ?_
  · have hfp : ((s.startHold p holdValue).faultPad p).view q = s.view q := State.view_faultPad_ne _ p hq
    rw [State.latch]
    split
    · exact hfp
    · exact (State.view_changeRecord_ne _ p _ hq).trans hfp
  · obtain ⟨last, hsession⟩ := (s.startHold p holdValue).session_faultPad_self p
    have hview : (s.latch p cause code tag holdValue).view p =
        ⟨((s.startHold p holdValue).faultPad p).session p, s.lockout p,
          some (latchedRecord (s.faultOf p) cause code s.timer.slot tag)⟩ := by
      rw [State.view, s.faultOf_latch_self, State.latch]
      split
      · simp [State.lockout, State.faultPad_store]
      · simp [State.lockout, StoreImage.put, State.faultPad_store]
    rw [hview, hsession]
    exact .latch _

theorem PadBody.isFree_seenOrVacant (tag : Option Nat) : (seenOrVacant tag).isFree = true := by
  cases tag <;> rfl

/-- An ELIGIBLE session leaves eligibility and takes another phase. -/
theorem State.Moves.leaveEligibility_setBody {s : State} {p : Pad} {phase : Matched} {token tag : Nat} {terms : Terms}
    {m : Meter} (hb : (s.session p).body = .matched phase token tag terms m) (phase' : Matched) (terms' : Terms) :
    s.Moves ((s.leaveEligibility p).setBody p (.matched phase' token tag terms' m)) := by
  have hsame := s.leaveEligibility_sameHeld p
  have hb' : ((s.leaveEligibility p).session p).body = .matched phase token tag terms m := by
    rw [State.session, hsame.sessions]; exact hb
  exact hsame.moves.trans (.setBody hb' (.rephase phase' terms'))

theorem State.reportTransition_moves (s : State) (p : Pad) (r : Report) (lostSince : Bool) :
    s.Moves (s.reportTransition p r lostSince) := by
  rw [State.reportTransition]
  split
  case h_1 hb => exact .setBody hb (.leave rfl (PadBody.isFree_seenOrVacant _))
  case h_2 hb =>
    split
    · exact .refl s
    · exact .setBody hb (.leave rfl (PadBody.isFree_seenOrVacant _))
  case h_3 hb =>
    repeat' split
    all_goals exact .setBody hb (.leave rfl rfl)
  case h_4 hb =>
    repeat' split
    · exact (State.Moves.setBody hb (.settle r.meter)).trans (State.SameHeld.moves ⟨rfl, rfl, rfl⟩)
    · exact .closePad (by rw [hb]; rfl) rfl
    · exact .refl s
    · exact .refl s
  case h_5 hb =>
    split
    · exact .closePad (by rw [hb]; rfl) rfl
    split
    · exact .leaveEligibility_setBody hb .topped _
    · exact .refl s
  case h_6 hb =>
    split
    · exact .closePad (by rw [hb]; rfl) rfl
    · exact .refl s
  case h_7 hb =>
    split
    · exact .closePad (by rw [hb]; rfl) rfl
    split
    · exact .closePad (by rw [hb]; rfl) rfl
    · exact .refl s
  case h_8 hb =>
    repeat' split
    all_goals exact .setBody hb (.leave rfl rfl)
  all_goals exact .refl s

theorem State.takeAtSession_moves (s : State) (h : Handed) (before : Before) :
    s.Moves (s.takeAtSession h before).state := by
  have haccount : s.Moves (s.setBody h.pad ((s.session h.pad).body.account h.report.meter)) :=
    .setBody rfl (.account _)
  unfold State.takeAtSession
  extract_lets p r s1 body
  repeat' split
  · exact haccount
  · exact haccount.trans (State.latch_moves ..)
  · exact haccount.trans (State.latch_moves ..)
  · exact haccount.trans (State.latch_moves ..)
  · rename_i hsoft
    refine haccount.trans (.trans (.setBody rfl (.countSoft h.report.state ?_)) (State.reportTransition_moves ..))
    exact Bool.eq_false_iff.mpr hsoft

theorem State.sessionTakes_moves (s : State) : s.Moves s.sessionTakes := by
  rw [State.sessionTakes]
  split
  · exact .refl s
  · rename_i pre h post _
    have hlatched : s.Moves (if h.byAllocator && h.noncompliant
        then (s.takeAtSession h (s.beforeOf h)).state.latchNoncompliant h (s.beforeOf h)
        else (s.takeAtSession h (s.beforeOf h)).state) := by
      split
      · exact (s.takeAtSession_moves h _).trans (State.latch_moves ..)
      · exact s.takeAtSession_moves h _
    exact hlatched.trans (State.SameHeld.moves ⟨rfl, rfl, rfl⟩)

theorem State.pauseBy_sameHeld (s : State) (p : Pad) (current : Bool) (state : ChargerState) :
    s.SameHeld (s.pauseBy p current state) := by
  unfold State.pauseBy
  dsimp only
  repeat' split
  all_goals exact ⟨rfl, rfl, rfl⟩

theorem State.capStep_sameHeld (s : State) (p : Pad) (current : Bool) (oldCap : Nat) :
    s.SameHeld (s.capStep p current oldCap) := by
  unfold State.capStep
  repeat' split
  all_goals first | exact s.clampPad_sameHeld p | exact ⟨rfl, rfl, rfl⟩

theorem State.takeAtAllocator_moves (s : State) (h : Handed) (before : Before) :
    s.Moves (s.takeAtAllocator h before).state := by
  rw [State.takeAtAllocator]
  dsimp only
  refine State.Moves.trans ?_ ((State.pauseBy_sameHeld _ _ _ _).trans (State.capStep_sameHeld _ _ _ _)).moves
  split
  · refine State.Moves.trans ?_ (State.latch_moves ..)
    exact State.SameHeld.moves ⟨rfl, rfl, rfl⟩
  · exact State.SameHeld.moves ⟨rfl, rfl, rfl⟩

theorem State.allocatorTakes_moves (s : State) : s.Moves s.allocatorTakes := by
  rw [State.allocatorTakes]
  split
  · exact .refl s
  · rename_i h _ _
    exact (s.takeAtAllocator_moves h _).trans (State.SameHeld.moves ⟨rfl, rfl, rfl⟩)

theorem State.pollMiss_moves (s : State) (p : Pad) : s.Moves (s.pollMiss p) := by
  rw [State.pollMiss]
  dsimp only
  split
  · refine State.Moves.trans (.trans ?_ (State.loseLink_moves _ p)) (State.SameHeld.moves ⟨rfl, rfl, rfl⟩)
    exact State.SameHeld.moves ⟨rfl, rfl, rfl⟩
  · exact State.SameHeld.moves ⟨rfl, rfl, rfl⟩

theorem State.bindPad_moves (s : State) (p : Pad) (tag : Nat) (terms : Terms) : s.Moves (s.bindPad p tag terms) := by
  have hanswer : ∀ (t : State) (st : Status) (body : List Byte), t.Moves (t.answer .d st body) :=
    fun t st body => (t.answer_sameHeld ..).moves
  rw [State.bindPad]
  dsimp only
  split
  · exact hanswer ..
  · split
    · rename_i hb
      refine State.Moves.trans (.setSession ?_) (hanswer ..)
      rw [State.view, SessionRec.eq_of_body hb]
      exact .bind tag terms rfl
    · rename_i seenTag hb
      split
      · refine State.Moves.trans ?_ (hanswer ..)
        refine State.Moves.trans (.setSession ?_) (State.SameHeld.moves ⟨rfl, rfl, rfl⟩)
        rw [State.view, SessionRec.eq_of_body hb]
        exact .matchAtOnce tag terms _ rfl
      · exact hanswer ..
    · exact hanswer ..

theorem State.requeueAmended_sameHeld (s : State) (p : Pad) (old new : Terms) :
    s.SameHeld (s.requeueAmended p old new) := by
  rw [State.requeueAmended]
  split <;> exact ⟨rfl, rfl, rfl⟩

theorem State.amendPad_moves (s : State) (p : Pad) (terms : Terms) : s.Moves (s.amendPad p terms) := by
  rw [State.amendPad]
  split
  · rename_i hb
    refine State.Moves.trans ?_ (State.answer_sameHeld ..).moves
    split
    · exact .leaveEligibility_setBody hb .topped terms
    · exact (State.Moves.setBody hb (.rephase .eligible terms)).trans (State.requeueAmended_sameHeld ..).moves
  · rename_i hb
    refine State.Moves.trans ?_ (State.answer_sameHeld ..).moves
    split
    · exact .setBody hb (.rephase .topped terms)
    · exact (State.Moves.setBody hb (.rephase .eligible terms)).trans (State.SameHeld.moves ⟨rfl, rfl, rfl⟩)
  · exact (State.answer_sameHeld ..).moves

theorem State.releasePad_moves (s : State) (p : Pad) : s.Moves (s.releasePad p) := by
  rw [State.releasePad]
  split
  · rename_i hb
    exact (State.Moves.leaveEligibility_setBody hb .releasing _).trans (State.answer_sameHeld ..).moves
  · rename_i hb
    exact (State.Moves.setBody hb (.rephase .releasing _)).trans (State.answer_sameHeld ..).moves
  · rename_i hb
    exact (State.Moves.closePad (by rw [hb]; rfl) rfl).trans (State.answer_sameHeld ..).moves
  all_goals exact (State.answer_sameHeld ..).moves

theorem State.lockPads_moves (s : State) (base mask : Byte) : s.Moves (s.lockPads base mask) := by
  rw [State.lockPads]
  split
  · exact (State.Moves.foldl State.lockPad_moves _ s).trans (State.answerAfter_sameHeld ..).moves
  · exact (State.answer_sameHeld ..).moves

end Sys2Proof.Machine
end

section
/-! PROOFS. Every command but DEVICE_RESET makes moves only; the laws that every move keeps are kept by every step. -/

namespace Sys2Proof.Machine

/-! ### The service controller's requests (R158 to R160) -/

/-- A pad that no record of the store holds resolves to OFFLINE on a LOST link, else to VACANT (R3). -/
theorem State.resolvedBody_of_clear {s : State} {p : Pad} (hl : s.lockout p = false) (hf : s.faultOf p = none) :
    s.resolvedBody p = if (s.linkOf p).state = .lost then .offline else .vacant := by
  simp [State.resolvedBody, hl, hf]

theorem PadBody.isFree_resolved (l : LinkState) :
    (if l = .lost then PadBody.offline else PadBody.vacant).isFree = true := by
  split <;> rfl

/-- UNLOCK PADS clears both records of a pad and resolves its state (R158). -/
theorem State.view_unlockPad_self (s : State) (p : Pad) :
    (s.unlockPad p).view p =
      ⟨⟨if (s.linkOf p).state = .lost then .offline else .vacant, (s.session p).tokenSeq, (s.session p).last⟩, false,
        none⟩ := by
  unfold State.unlockPad
  extract_lets s1 s2
  have hsession : s2.session p = s.session p := by simp only [s2]; split <;> rfl
  have hlink : s2.linkOf p = s.linkOf p := by simp only [s2]; split <;> rfl
  have hlockout : s2.lockout p = false := by
    simp only [s2]; split <;> simp [s1, State.lockout, StoreImage.put]
  have hfault : s2.faultOf p = none := by
    simp only [s2]
    split
    · simp [State.faultOf, StoreImage.put]
    · simp_all [s1, State.faultOf, StoreImage.put]
  rw [State.resolvedBody_of_clear hlockout hfault]
  simp [State.view, hsession, hlink, hlockout, hfault]

theorem State.view_unlockPad_ne (s : State) (p : Pad) {q : Pad} (h : q ≠ p) : (s.unlockPad p).view q = s.view q := by
  unfold State.unlockPad
  extract_lets s1 s2
  have hs2 : s2.view q = s.view q := by
    simp only [s2]
    split
    · exact (s1.view_changeRecord_ne p _ h).trans (s.view_changeRecord_ne p _ h)
    · exact s.view_changeRecord_ne p _ h
  exact (s2.view_setSession_ne p _ h).trans hs2

theorem State.unlockPad_moves (s : State) (p : Pad) : s.Moves (s.unlockPad p) := by
  refine .of_pad (fun q hq => s.view_unlockPad_ne p hq) ?_
  rw [s.view_unlockPad_self]
  exact .unlock (PadBody.isFree_resolved _)

theorem State.clearFaultOf_moves (s : State) (p : Pad) : s.Moves (s.clearFaultOf p) := by
  refine .of_pad (p := p) (fun q hq => ?_) ?_
  · exact (State.view_setSession_ne _ p _ hq).trans (s.view_changeRecord_ne p _ hq)
  · have hview : (s.clearFaultOf p).view p =
        ⟨⟨if s.lockout p then .locked else if (s.linkOf p).state = .lost then .offline else .vacant,
          (s.session p).tokenSeq, (s.session p).last⟩, s.lockout p, none⟩ := by
      simp [State.clearFaultOf, State.view, State.resolvedBody, State.lockout, State.faultOf, StoreImage.put]
      rfl
    rw [hview]
    exact .clear (PadBody.isFree_resolved _)

theorem State.unlockPads_moves (s : State) (base mask : Byte) : s.Moves (s.unlockPads base mask) := by
  rw [State.unlockPads]
  split
  · exact (State.Moves.foldl State.unlockPad_moves _ s).trans (State.answerAfter_sameHeld ..).moves
  · exact (State.answer_sameHeld ..).moves

theorem State.clearFault_moves (s : State) (pad : Byte) : s.Moves (s.clearFault pad) := by
  rw [State.clearFault]
  split
  · exact (State.answer_sameHeld ..).moves
  · split
    · exact (s.clearFaultOf_moves _).trans (State.answerAfter_sameHeld ..).moves
    · exact (State.answer_sameHeld ..).moves

theorem State.setRating_sameHeld (s : State) (pad : Byte) (rating : Word16) : s.SameHeld (s.setRating pad rating) := by
  have hchange : ∀ p kw, s.SameHeld (s.changeRecord p (.rating kw)) := fun p kw =>
    ⟨rfl, by simp [StoreImage.put], by simp [StoreImage.put]⟩
  unfold State.setRating
  split
  · exact s.answer_sameHeld ..
  split
  · dsimp only
    split
    · exact s.answer_sameHeld ..
    · exact (hchange _ _).trans (State.answerAfter_sameHeld ..)
  · exact s.answer_sameHeld ..

theorem State.openService_sameHeld (s : State) (field : Byte) : s.SameHeld (s.openService field) := by
  rw [State.openService]
  repeat' split
  · exact s.answer_sameHeld ..
  · exact s.answer_sameHeld ..
  · exact (s.setService_sameHeld _).trans (State.answer_sameHeld ..)

theorem State.confirmService_sameHeld (s : State) (field : Byte) : s.SameHeld (s.confirmService field) := by
  rw [State.confirmService]
  split <;> exact (s.setService_sameHeld _).trans (State.answer_sameHeld ..)

/-! ### The boundary (R11, R91) -/

theorem SessionRec.countBind_move (r : SessionRec) (slot : Word16) (flag : Bool) (fault : Option FaultRec) :
    PadMove ⟨r, flag, fault⟩ ⟨r.countBind slot, flag, fault⟩ ∨ r.countBind slot = r := by
  obtain ⟨body, n, last⟩ := r
  unfold SessionRec.countBind
  split
  · rename_i hb
    obtain rfl : body = _ := hb
    split
    · exact .inl (.leave rfl rfl)
    · exact .inl (.countSlot (by omega))
  · exact .inr rfl

theorem State.countBinds_moves (s : State) : s.Moves s.countBinds := ⟨fun p => by
  have hview : s.countBinds.view p = ⟨(s.session p).countBind s.timer.slot, s.lockout p, s.faultOf p⟩ := by
    simp [State.view, State.countBinds]
  rw [hview]
  obtain h | h := (s.session p).countBind_move s.timer.slot (s.lockout p) (s.faultOf p)
  · exact .single h
  · rw [h]; exact .refl⟩

theorem State.countShed_sameHeld (s : State) : s.SameHeld s.countShed := by
  rw [State.countShed]
  split
  · exact .refl s
  · split <;> exact ⟨rfl, rfl, rfl⟩

theorem State.reformAtBoundary_sameHeld (s : State) : s.SameHeld s.reformAtBoundary := by
  rw [s.reformAtBoundary_frame]; exact ⟨rfl, rfl, rfl⟩

theorem State.boundaryStages_moves (s : State) : s.Moves s.boundaryStages := by
  refine State.Moves.trans (State.SameHeld.moves ?_) (State.countBinds_moves _)
  refine State.SameHeld.trans ?_ ((State.countShed_sameHeld _).trans (State.reformAtBoundary_sameHeld _))
  exact ⟨rfl, rfl, rfl⟩

theorem State.takeBoundary_moves (s : State) : s.Moves s.takeBoundary :=
  s.boundaryStages_moves.trans (State.boundaryRound_sameHeld _).moves

theorem State.align_moves (s : State) : s.Moves s.align := by
  have hboundary : s.Moves (if s.timer.mode = .running ∧ 1800 ≤ s.timer.phase then s.takeBoundary else s) := by
    split
    · exact s.takeBoundary_moves
    · exact .refl s
  exact hboundary.trans (State.SameHeld.moves ⟨rfl, rfl, rfl⟩)

/-! ### Every command -/

theorem execAtPort_moves {s t : State} {port : Port} {f : PortRec → PortRec} (h : s.event (s.onPort port f) = .next t) :
    s.Moves t := by
  have hport : s.SameHeld (s.onPort port f) := ⟨rfl, rfl, rfl⟩
  exact hport.event h

theorem execPing_moves {port : Port} {s t : State} (h : execPing port s = .next t) : s.Moves t := by
  refine State.Moves.event ?_ h
  split
  · exact State.Moves.gatedOn (s.answer_sameHeld ..).moves
  · exact .refl s

theorem execReadChanges_moves {port : Port} {s t : State} (h : execReadChanges port s = .next t) : s.Moves t := by
  refine State.Moves.event ?_ h
  split
  · have hanswer := s.answer_sameHeld port .ok (s.port port).changes.body
    refine State.Moves.gatedOn (hanswer.moves.trans ?_)
    exact State.SameHeld.moves ⟨rfl, rfl, rfl⟩
  · exact .refl s

theorem execQueryPad_moves {port : Port} {s t : State} (h : execQueryPad port s = .next t) : s.Moves t := by
  refine State.Moves.event ?_ h
  split
  · refine State.Moves.gatedOn ?_
    split <;> exact (s.answer_sameHeld ..).moves
  · exact .refl s

theorem execQueryField_moves {port : Port} {s t : State} (h : execQueryField port s = .next t) : s.Moves t := by
  refine State.Moves.event ?_ h
  split
  · exact State.Moves.gatedOn (s.answer_sameHeld ..).moves
  · exact .refl s

theorem execBind_moves {s t : State} (h : execBind s = .next t) : s.Moves t := by
  refine State.Moves.event ?_ h
  split
  · split
    · split
      · exact (s.answer_sameHeld ..).moves
      · exact s.bindPad_moves ..
    · exact (s.answer_sameHeld ..).moves
  · exact .refl s

theorem execAmend_moves {s t : State} (h : execAmend s = .next t) : s.Moves t := by
  refine State.Moves.event ?_ h
  split
  · split
    · exact s.amendPad_moves ..
    · exact (s.answer_sameHeld ..).moves
  · exact .refl s

theorem execRelease_moves {s t : State} (h : execRelease s = .next t) : s.Moves t := by
  refine State.Moves.event ?_ h
  split
  · split
    · exact s.releasePad_moves _
    · exact (s.answer_sameHeld ..).moves
  · exact .refl s

theorem execSetWindow_moves {s t : State} (h : execSetWindow s = .next t) : s.Moves t := by
  refine State.SameHeld.event ?_ h
  split
  · split
    · refine State.SameHeld.trans ?_ (State.answer_sameHeld ..)
      exact ⟨rfl, rfl, rfl⟩
    · exact s.answer_sameHeld ..
  · exact .refl s

theorem execWriteCells_moves {s t : State} (h : execWriteCells s = .next t) : s.Moves t := by
  refine State.SameHeld.event ?_ h
  split
  · rename_i codes _
    have hplan : s.SameHeld { s with plan := s.plan.writeCodes codes } := ⟨rfl, rfl, rfl⟩
    exact (hplan.trans (State.handOnCells_sameHeld s _)).trans (State.answer_sameHeld ..)
  · exact .refl s

theorem execReadCells_moves {s t : State} (h : execReadCells s = .next t) : s.Moves t := by
  refine State.SameHeld.event ?_ h
  split
  · split
    · refine State.SameHeld.trans ?_ (State.answer_sameHeld ..)
      exact ⟨rfl, rfl, rfl⟩
    · exact s.answer_sameHeld ..
  · exact .refl s

theorem execSetLimits_moves {s t : State} (h : execSetLimits s = .next t) : s.Moves t := by
  refine State.SameHeld.event ?_ h
  split
  · exact (s.takeLimits_sameHeld ..).trans (State.answer_sameHeld ..)
  · exact .refl s

theorem execShed_moves {s t : State} (h : execShed s = .next t) : s.Moves t := by
  refine State.SameHeld.event ?_ h
  split
  · refine State.SameHeld.trans (.trans ?_ (State.reformInSlot_sameHeld _)) (State.answer_sameHeld ..)
    exact ⟨rfl, rfl, rfl⟩
  · exact .refl s

theorem execEndShed_moves {s t : State} (h : execEndShed s = .next t) : s.Moves t := by
  refine State.SameHeld.event ?_ h
  split
  · exact s.endShed_sameHeld.trans (State.answer_sameHeld ..)
  · exact .refl s

theorem execSetSlot_moves {s t : State} (h : execSetSlot s = .next t) : s.Moves t := by
  refine State.SameHeld.event ?_ h
  split
  · rename_i n _
    have hslot : s.SameHeld (s.takeSlot n) := by
      refine State.SameHeld.trans (.trans ?_ (State.reformInSlot_sameHeld _)) ⟨rfl, rfl, rfl⟩
      exact ⟨rfl, rfl, rfl⟩
    exact hslot.trans (State.answer_sameHeld ..)
  · exact .refl s

theorem execLockPads_moves {s t : State} (h : execLockPads s = .next t) : s.Moves t := by
  refine State.Moves.event ?_ h
  split
  · exact .gated (s.lockPads_moves ..)
  · exact .refl s

theorem execOpenService_moves {s t : State} (h : execOpenService s = .next t) : s.Moves t := by
  refine State.Moves.event ?_ h
  split
  · exact .gated (s.openService_sameHeld _).moves
  · exact .refl s

theorem execConfirmService_moves {s t : State} (h : execConfirmService s = .next t) : s.Moves t := by
  refine State.Moves.event ?_ h
  split
  · exact .gated (s.confirmService_sameHeld _).moves
  · exact .refl s

theorem execCloseService_moves {s t : State} (h : execCloseService s = .next t) : s.Moves t := by
  refine State.Moves.event ?_ h
  split
  · exact .gated ((s.setService_sameHeld _).trans (State.answer_sameHeld ..)).moves
  · exact .refl s

theorem execUnlockPads_moves {s t : State} (h : execUnlockPads s = .next t) : s.Moves t := by
  refine State.Moves.event ?_ h
  split
  · exact .gated (s.unlockPads_moves ..)
  · exact .refl s

theorem execClearFault_moves {s t : State} (h : execClearFault s = .next t) : s.Moves t := by
  refine State.Moves.event ?_ h
  split
  · exact .gated (s.clearFault_moves _)
  · exact .refl s

theorem execSetRating_moves {s t : State} (h : execSetRating s = .next t) : s.Moves t := by
  refine State.Moves.event ?_ h
  split
  · exact .gated (s.setRating_sameHeld ..).moves
  · exact .refl s

theorem execReadFault_moves {s t : State} (h : execReadFault s = .next t) : s.Moves t := by
  refine State.Moves.event ?_ h
  split
  · refine .gated ?_
    split <;> exact (s.answer_sameHeld ..).moves
  · exact .refl s

theorem execStoreWriteComplete_moves {s t : State} (h : execStoreWriteComplete s = .next t) : s.Moves t := by
  refine State.SameHeld.event ?_ h
  split
  · refine State.SameHeld.trans ?_ (State.releaseHeld_sameHeld ..)
    exact ⟨rfl, congrArg _ s.store.completeWrite_image, congrArg _ s.store.completeWrite_image⟩
  · exact .refl s

theorem execPollSlotStart_moves {s t : State} (h : execPollSlotStart s = .next t) : s.Moves t := by
  refine State.SameHeld.event ?_ h
  split
  · exact .refl s
  · exact ⟨rfl, rfl, rfl⟩

theorem execBroadcastStop_moves {s t : State} (h : execBroadcastStop s = .next t) : s.Moves t := by
  refine State.SameHeld.event ?_ h
  split
  · exact ⟨rfl, rfl, rfl⟩
  · exact .refl s

theorem execPollReport_moves {reply : List Byte} {s t : State} (h : execPollReport reply s = .next t) : s.Moves t := by
  refine State.SameHeld.event ?_ h
  split
  · exact .refl s
  · dsimp only
    split
    · exact s.pollReport_sameHeld ..
    · exact ⟨rfl, rfl, rfl⟩

theorem execPollMiss_moves {s t : State} (h : execPollMiss s = .next t) : s.Moves t := by
  refine State.Moves.event ?_ h
  split
  · exact s.pollMiss_moves _
  · exact .refl s

theorem execLinkLoss_moves {s t : State} (h : execLinkLoss s = .next t) : s.Moves t := by
  refine State.Moves.event ?_ h
  split
  · split
    · exact s.pollMiss_moves _
    · exact .refl s
  · exact .refl s

theorem execSoftPersistLatch_moves {s t : State} (h : execSoftPersistLatch s = .next t) : s.Moves t := by
  refine State.Moves.event ?_ h
  split
  · split
    · exact s.sessionTakes_moves
    · exact .refl s
  · exact .refl s

theorem execNoncompliantLatch_moves {s t : State} (h : execNoncompliantLatch s = .next t) : s.Moves t := by
  refine State.Moves.event ?_ h
  repeat' split
  all_goals first | exact s.allocatorTakes_moves | exact s.sessionTakes_moves | exact .refl s

theorem execDistrustHoldExpiry_moves {s t : State} (h : execDistrustHoldExpiry s = .next t) : s.Moves t := by
  refine State.Moves.event ?_ h
  repeat' split
  all_goals first | exact s.allocatorTakes_moves | exact s.pollMiss_moves _ | exact .refl s

/-- Whether a row is one of the boundary's, it makes the boundary, a small change of the timer, or nothing. -/
theorem State.Moves.ifBoundary {s : State} (c : Prop) [Decidable c] : s.Moves (if c then s.takeBoundary else s) := by
  split
  · exact s.takeBoundary_moves
  · exact .refl s

theorem execSlotPhaseRise_moves {s t : State} (h : execSlotPhaseRise s = .next t) : s.Moves t := by
  refine State.Moves.event ?_ h
  repeat' split
  · exact s.takeBoundary_moves
  · exact State.SameHeld.moves ⟨rfl, rfl, rfl⟩
  · exact .refl s

theorem execShedExpiry_moves {s t : State} (h : execShedExpiry s = .next t) : s.Moves t := by
  refine State.Moves.event ?_ h
  split
  · exact .ifBoundary _
  · exact .refl s

theorem execMidSlotRound_moves {s t : State} (h : execMidSlotRound s = .next t) : s.Moves t := by
  refine State.SameHeld.event ?_ h
  split
  · exact (s.roundTargets_sameHeld false).trans (State.releaseAttempt_sameHeld _)
  · exact .refl s

theorem execSlotAlignActive_moves {s t : State} (h : execSlotAlignActive s = .next t) : s.Moves t := by
  refine State.Moves.event ?_ h
  split
  · refine State.Moves.trans ?_ (s.takeLevel .slotAlign).align_moves
    exact State.SameHeld.moves ⟨rfl, rfl, rfl⟩
  · exact .refl s

theorem execSlotAlignRelease_moves {s t : State} (h : execSlotAlignRelease s = .next t) : s.Moves t := by
  refine State.SameHeld.event ?_ h
  repeat' split
  all_goals exact ⟨rfl, rfl, rfl⟩

theorem execHeadroomGivenChange_moves {s t : State} (h : execHeadroomGivenChange s = .next t) : s.Moves t := by
  have htake : s.SameHeld (s.takeLevel .headroomGiven) := ⟨rfl, rfl, rfl⟩
  refine State.SameHeld.event ?_ h
  split
  · exact htake.trans (State.releaseAttempt_sameHeld _)
  · exact htake

theorem execSvcKeyChange_moves {s t : State} (h : execSvcKeyChange s = .next t) : s.Moves t := by
  have htake : s.SameHeld (s.takeLevel .svcKey) := ⟨rfl, rfl, rfl⟩
  refine State.SameHeld.event ?_ h
  split
  · exact htake.trans (State.setService_sameHeld ..)
  · exact htake

theorem execOpenExpiry_moves {s t : State} (h : execOpenExpiry s = .next t) : s.Moves t := by
  refine State.SameHeld.event ?_ h
  split
  · exact s.setService_sameHeld _
  · exact .refl s

theorem execPortBreak_moves {port : Port} {s t : State} (h : execPortBreak port s = .next t) : s.Moves t := by
  have hport : s.SameHeld (s.onPort port PortRec.broken) := ⟨rfl, rfl, rfl⟩
  refine State.SameHeld.event ?_ h
  split
  · exact .refl s
  · dsimp only
    split
    · exact hport.trans (State.setService_sameHeld ..)
    · exact hport

theorem execPowerLoss_moves {s t : State} (h : execPowerLoss s = .next t) : s.Moves t := by
  rw [execPowerLoss] at h
  cases h
  split
  · exact State.SameHeld.moves ⟨rfl, rfl, rfl⟩
  · exact .refl s

/-- What a command other than DEVICE_RESET does to any pad, it does by moves. -/
theorem exec_moves {c : Instr} {s t : State} (h : exec c s = .next t)
    (hc : ∀ strap field, c ≠ .deviceReset strap field) : s.Moves t := by
  cases c
  case deviceReset strap field => exact absurd rfl (hc strap field)
  case frameReceived => exact execAtPort_moves h
  case frameSilenceDrop => exact execAtPort_moves h
  case frameOverrunDrop => exact execAtPort_moves h
  case answerSent => exact execAtPort_moves h
  case portBreak => exact execPortBreak_moves h
  case ping => exact execPing_moves h
  case readChanges => exact execReadChanges_moves h
  case queryPad => exact execQueryPad_moves h
  case queryField => exact execQueryField_moves h
  case bind => exact execBind_moves h
  case amend => exact execAmend_moves h
  case release => exact execRelease_moves h
  case setWindow => exact execSetWindow_moves h
  case writeCells => exact execWriteCells_moves h
  case readCells => exact execReadCells_moves h
  case setLimits => exact execSetLimits_moves h
  case shed => exact execShed_moves h
  case endShed => exact execEndShed_moves h
  case setSlot => exact execSetSlot_moves h
  case lockPads => exact execLockPads_moves h
  case openService => exact execOpenService_moves h
  case confirmService => exact execConfirmService_moves h
  case closeService => exact execCloseService_moves h
  case unlockPads => exact execUnlockPads_moves h
  case clearFault => exact execClearFault_moves h
  case setRating => exact execSetRating_moves h
  case readFault => exact execReadFault_moves h
  case storeWriteComplete => exact execStoreWriteComplete_moves h
  case pollSlotStart => exact execPollSlotStart_moves h
  case pollReport => exact execPollReport_moves h
  case pollMiss => exact execPollMiss_moves h
  case linkLoss => exact execLinkLoss_moves h
  case sessionReport => exact s.sessionTakes_moves.event h
  case softPersistLatch => exact execSoftPersistLatch_moves h
  case allocatorReport => exact s.allocatorTakes_moves.event h
  case noncompliantLatch => exact execNoncompliantLatch_moves h
  case distrustHoldExpiry => exact execDistrustHoldExpiry_moves h
  case broadcastStop => exact execBroadcastStop_moves h
  case midSlotRound => exact execMidSlotRound_moves h
  case slotBoundary => exact (State.Moves.ifBoundary _).event h
  case shedExpiry => exact execShedExpiry_moves h
  case bindExpiry => exact (State.Moves.ifBoundary _).event h
  case starvationReturn => exact (State.Moves.ifBoundary _).event h
  case slotAlignActive => exact execSlotAlignActive_moves h
  case slotAlignRelease => exact execSlotAlignRelease_moves h
  case fldEnableChange => exact (s.supplyLineSettles_sameHeld _).event h
  case sourceLineChange => exact (s.supplyLineSettles_sameHeld _).event h
  case headroomGivenChange => exact execHeadroomGivenChange_moves h
  case svcKeyChange => exact execSvcKeyChange_moves h
  case openExpiry => exact execOpenExpiry_moves h
  case slotPhaseRise => exact execSlotPhaseRise_moves h
  case rawLevelChange => cases h; exact State.SameHeld.moves ⟨rfl, rfl, rfl⟩
  case openingMarkerReceived => exact execAtPort_moves h
  case breakLineReturnsHigh => exact execAtPort_moves h
  case busyAnswerSent => exact execAtPort_moves h
  case powerLoss => exact execPowerLoss_moves h

/-! ### Laws of one pad -/

/-- The view of a pad right after DEVICE_RESET (R3, R27). -/
theorem view_of_deviceReset {strap : Bool} {field : Byte} {s t : State} (h : exec (.deviceReset strap field) s = .next t)
    (p : Pad) :
    ∃ flag fault, t.view p =
      ⟨⟨if flag then .locked else if fault.isSome then .faulted else .vacant, 0, none⟩, flag, fault⟩ := by
  cases h
  exact ⟨s.cutCells.lockout.get p, s.cutCells.fault.get p, by
    simp [State.view, State.session, State.afterReset, SessionRec.reset, PadBody.ofImage, State.lockout, State.faultOf,
      Store.loaded]⟩

/-- A law of one pad that holds at reset and that every move keeps is kept by every step. -/
theorem step_keeps {law : PadView → Prop} (hreset : ∀ flag fault,
      law ⟨⟨if flag then .locked else if fault.isSome then .faulted else .vacant, 0, none⟩, flag, fault⟩)
    (hmove : ∀ v w, PadMove v w → law v → law w) {s t : State} (hstep : step s = .next t) (hs : ∀ p, law (s.view p)) :
    ∀ p, law (t.view p) := by
  unfold step at hstep
  split at hstep
  · cases hstep; exact hs
  · rename_i c rest _
    by_cases hc : ∃ strap field, c = .deviceReset strap field
    · obtain ⟨strap, field, rfl⟩ := hc
      intro p
      obtain ⟨flag, fault, hview⟩ := view_of_deviceReset hstep p
      rw [hview]
      exact hreset flag fault
    · exact (exec_moves hstep fun strap field h => hc ⟨strap, field, h⟩).keeps hmove hs

/-- LOCKED exactly with the flag, FAULTED exactly with a record and no flag: the held states of one pad (R3). -/
def PadView.HeldLaw (v : PadView) : Prop :=
  (v.row.body.name = .locked ↔ v.flag = true) ∧ (v.row.body.name = .faulted ↔ v.flag = false ∧ v.fault.isSome = true)

/-- The law of one pad's token, as TokenLaw states it (R1, R2). -/
def PadView.TokenLaw (v : PadView) : Prop :=
  v.row.tokenSeq ≤ 255 ∧
    (v.row.body.terms.isSome = true → v.row.body.token = v.row.tokenSeq ∧ 1 ≤ v.row.body.token)

/-- The law of one pad's counts, as SessionCounts states it (R1). -/
def PadView.CountLaw (v : PadView) : Prop :=
  (∀ m ∈ v.row.body.meter, m.delivered ≤ 65535 ∧ m.jumps ≤ 255 ∧ m.softRun ≤ 119) ∧ ∀ e ∈ v.row.body.elapsed, e ≤ 4

theorem PadBody.name_of_isHeld {b : PadBody} (h : b.isHeld = false) : b.name ≠ .locked ∧ b.name ≠ .faulted := by
  cases b with
  | matched phase => cases phase <;> exact ⟨nofun, nofun⟩
  | faulted => cases h
  | locked => cases h
  | _ => exact ⟨nofun, nofun⟩

theorem PadBody.isHeld_of_isFree {b : PadBody} (h : b.isFree = true) : b.isHeld = false := by
  cases b <;> first | rfl | cases h

/-- A free body has neither session nor counts. -/
theorem PadBody.of_isFree {b : PadBody} (h : b.isFree = true) : b.terms = none ∧ b.meter = none ∧ b.elapsed = none := by
  cases b <;> first | exact ⟨rfl, rfl, rfl⟩ | cases h

theorem PadBody.countSoft_name (b : PadBody) (state : ChargerState) : (b.countSoft state).name = b.name := by
  cases b with
  | matched phase => cases phase <;> rfl
  | _ => rfl

/-- A pad that no record holds meets the held-states law exactly when neither record is set. -/
theorem PadView.heldLaw_of_not_held {v : PadView} (h : v.row.body.isHeld = false) :
    v.HeldLaw ↔ v.flag = false ∧ v.fault = none := by
  obtain ⟨hl, hf⟩ := PadBody.name_of_isHeld h
  cases hflag : v.flag <;> simp [PadView.HeldLaw, hl, hf, hflag]

theorem PadView.HeldLaw.of_not_held {b b' : PadBody} {n n' : Nat} {l l' : Option LastOutcome} {flag : Bool}
    {fault : Option FaultRec} (hb : b.isHeld = false) (hb' : b'.isHeld = false)
    (hv : PadView.HeldLaw ⟨⟨b, n, l⟩, flag, fault⟩) : PadView.HeldLaw ⟨⟨b', n', l'⟩, flag, fault⟩ := by
  rw [PadView.heldLaw_of_not_held hb] at hv
  rwa [PadView.heldLaw_of_not_held hb']

theorem PadView.HeldLaw.move {v w : PadView} (hm : PadMove v w) (hv : v.HeldLaw) : w.HeldLaw := by
  cases hm with
  | leave hb hb' => exact hv.of_not_held hb (PadBody.isHeld_of_isFree hb')
  | bind tag terms hb => exact hv.of_not_held (PadBody.isHeld_of_isFree hb) rfl
  | matchAtOnce tag terms ref hb => exact hv.of_not_held (PadBody.isHeld_of_isFree hb) rfl
  | countSlot _ => exact hv
  | settle ref => exact hv.of_not_held rfl rfl
  | rephase phase' terms' => exact hv.of_not_held rfl rfl
  | account meter => simpa only [PadView.HeldLaw, PadBody.account_name] using hv
  | countSoft state _ => simpa only [PadView.HeldLaw, PadBody.countSoft_name] using hv
  | @latch b n l l' flag fault x =>
    cases hb : b.isHeld with
    | false =>
      obtain ⟨rfl, -⟩ := (PadView.heldLaw_of_not_held (v := ⟨⟨b, n, l⟩, flag, fault⟩) hb).mp hv
      simp [PadView.HeldLaw, PadBody.name]
    | true =>
      obtain ⟨hl, hf⟩ := hv
      cases b with
      | faulted => simp_all [PadView.HeldLaw, PadBody.name]
      | locked => simp_all [PadView.HeldLaw, PadBody.name]
      | _ => cases hb
  | lock => simp [PadView.HeldLaw, PadBody.name]
  | unlock hb => exact (PadView.heldLaw_of_not_held (PadBody.isHeld_of_isFree hb)).mpr ⟨rfl, rfl⟩
  | @clear b b' n l flag fault hb =>
    cases flag with
    | false => exact (PadView.heldLaw_of_not_held (PadBody.isHeld_of_isFree hb)).mpr ⟨rfl, rfl⟩
    | true => simp [PadView.HeldLaw, PadBody.name]

theorem nextToken_range {n : Nat} (h : n ≤ 255) : nextToken n ≤ 255 ∧ 1 ≤ nextToken n := by
  unfold nextToken
  split <;> omega

theorem PadBody.countSoft_token (b : PadBody) (state : ChargerState) : (b.countSoft state).token = b.token := by
  cases b <;> rfl

theorem PadBody.countSoft_terms (b : PadBody) (state : ChargerState) : (b.countSoft state).terms = b.terms := by
  cases b <;> rfl

theorem PadView.TokenLaw.of_no_session {v : PadView} (hseq : v.row.tokenSeq ≤ 255) (h : v.row.body.terms = none) :
    v.TokenLaw := by
  simp [PadView.TokenLaw, hseq, h]

theorem PadView.TokenLaw.move {v w : PadView} (hm : PadMove v w) (hv : v.TokenLaw) : w.TokenLaw := by
  obtain ⟨hseq, hopen⟩ := hv
  cases hm with
  | leave _ hb' => exact .of_no_session hseq (PadBody.of_isFree hb').1
  | bind tag terms _ => exact ⟨(nextToken_range hseq).1, fun _ => ⟨rfl, (nextToken_range hseq).2⟩⟩
  | matchAtOnce tag terms ref _ => exact ⟨(nextToken_range hseq).1, fun _ => ⟨rfl, (nextToken_range hseq).2⟩⟩
  | countSlot _ => exact ⟨hseq, hopen⟩
  | settle ref => exact ⟨hseq, hopen⟩
  | rephase phase' terms' => exact ⟨hseq, fun _ => hopen rfl⟩
  | account meter => exact ⟨hseq, by simpa using hopen⟩
  | countSoft state _ => exact ⟨hseq, by simpa [PadBody.countSoft_token, PadBody.countSoft_terms] using hopen⟩
  | @latch b =>
    cases b with
    | faulted => exact ⟨hseq, hopen⟩
    | locked => exact ⟨hseq, hopen⟩
    | _ => exact .of_no_session hseq rfl
  | lock => exact .of_no_session hseq rfl
  | unlock hb => exact .of_no_session hseq (PadBody.of_isFree hb).1
  | @clear b b' n l flag fault hb =>
    cases flag with
    | false => exact .of_no_session hseq (PadBody.of_isFree hb).1
    | true => exact .of_no_session hseq rfl

theorem PadView.CountLaw.of_no_session {v : PadView} (hm : v.row.body.meter = none) (he : v.row.body.elapsed = none) :
    v.CountLaw := by
  simp [PadView.CountLaw, hm, he]

theorem PadView.CountLaw.of_free {v : PadView} (h : v.row.body.isFree = true) : v.CountLaw := by
  obtain ⟨-, hm, he⟩ := PadBody.of_isFree h
  exact .of_no_session hm he

/-- A matched session meets the law of counts exactly when its meter fields are in range. -/
theorem PadView.countLaw_matched {phase : Matched} {token tag n : Nat} {terms : Terms} {m : Meter}
    {l : Option LastOutcome} {flag : Bool} {fault : Option FaultRec} :
    PadView.CountLaw ⟨⟨.matched phase token tag terms m, n, l⟩, flag, fault⟩ ↔
      m.delivered ≤ 65535 ∧ m.jumps ≤ 255 ∧ m.softRun ≤ 119 := by
  simp [PadView.CountLaw, PadBody.meter, PadBody.elapsed]

theorem PadView.CountLaw.move {v w : PadView} (hm : PadMove v w) (hv : v.CountLaw) : w.CountLaw := by
  cases hm with
  | leave _ hb' => exact .of_free hb'
  | bind tag terms _ => simp [PadView.CountLaw, PadBody.meter, PadBody.elapsed]
  | matchAtOnce tag terms ref _ => simp [PadView.countLaw_matched, Meter.fresh]
  | countSlot he =>
    have : _ + 1 ≤ 4 := Nat.le_of_lt_succ he
    simpa [PadView.CountLaw, PadBody.meter, PadBody.elapsed] using this
  | settle ref => simp [PadView.countLaw_matched, Meter.fresh]
  | rephase phase' terms' => exact hv
  | @account b _ _ _ _ meter =>
    cases b with
    | matched phase token tag terms m =>
      obtain ⟨hd, hj, hsoft⟩ := PadView.countLaw_matched.mp hv
      obtain ⟨hd', hj'⟩ := Meter.account_inRange meter hd hj
      exact PadView.countLaw_matched.mpr ⟨hd', hj', by rw [Meter.account_softRun]; exact hsoft⟩
    | _ => exact hv
  | @countSoft b _ _ _ _ state hlimit =>
    cases b with
    | matched phase token tag terms m =>
      obtain ⟨hd, hj, hsoft⟩ := PadView.countLaw_matched.mp hv
      refine PadView.countLaw_matched.mpr ⟨hd, hj, ?_⟩
      dsimp only
      split
      · have : ¬ 120 ≤ m.softRun + 1 := by simpa [PadBody.softLimit, *] using hlimit
        omega
      · exact Nat.zero_le _
    | _ => exact hv
  | @latch b =>
    cases b with
    | faulted => exact hv
    | locked => exact hv
    | _ => exact .of_no_session rfl rfl
  | lock => exact .of_no_session rfl rfl
  | unlock hb => exact .of_free hb
  | @clear b b' n l flag fault hb =>
    cases flag with
    | false => exact .of_free hb
    | true => exact .of_no_session rfl rfl

/-- The view of a pad right after reset meets the held-states law. -/
theorem PadView.heldLaw_reset (flag : Bool) (fault : Option FaultRec) :
    PadView.HeldLaw
      ⟨⟨if flag then .locked else if fault.isSome then .faulted else .vacant, 0, none⟩, flag, fault⟩ := by
  cases flag <;> cases fault <;> simp [PadView.HeldLaw, PadBody.name]

/-- No pad has a session right after reset. -/
theorem PadBody.reset_no_session (flag : Bool) (fault : Option FaultRec) :
    let b : PadBody := if flag then .locked else if fault.isSome then .faulted else .vacant
    b.terms = none ∧ b.meter = none ∧ b.elapsed = none := by
  cases flag <;> cases fault <;> exact ⟨rfl, rfl, rfl⟩

/-- Settles O11: every move keeps the held-states law of its pad. -/
theorem heldStatesKept : Obligations.HeldStatesKept := by
  intro s t hs hstep
  exact step_keeps (law := PadView.HeldLaw) PadView.heldLaw_reset (fun _ _ hm hv => hv.move hm) hstep hs

/-- Settles O12: every move keeps the token law and the ranges of its pad. -/
theorem tokenLawKept : Obligations.TokenLawKept := by
  intro s t htoken hcounts hstep
  refine ⟨step_keeps (law := PadView.TokenLaw) (fun flag fault => ?_) (fun _ _ hm hv => hv.move hm) hstep htoken,
    step_keeps (law := PadView.CountLaw) (fun flag fault => ?_) (fun _ _ hm hv => hv.move hm) hstep hcounts⟩
  · exact .of_no_session (Nat.zero_le _) (PadBody.reset_no_session flag fault).1
  · obtain ⟨-, hm, he⟩ := PadBody.reset_no_session flag fault
    exact .of_no_session hm he

end Sys2Proof.Machine
end

section
/-! PROOFS. The state after a device reset, the cut of a store write, and the poll slots. -/

namespace Sys2Proof.Machine

/-! ### The part right after device reset (R27, R46, R101, R115, R129, R150, R162, R180) -/

section AfterReset

variable (pending : List Instr) (lines : Lines) (mode : FeederMode) (field : Byte) (cells : StoreImage) (draws : Nat)

@[simp] theorem State.session_afterReset (p : Pad) :
    (State.afterReset pending lines mode field cells draws).session p =
      ⟨if cells.lockout.get p then .locked else if (cells.fault.get p).isSome then .faulted else .vacant, 0, none⟩ := by
  simp [State.session, State.afterReset, SessionRec.reset, PadBody.ofImage]

@[simp] theorem State.allocOf_afterReset (p : Pad) :
    (State.afterReset pending lines mode field cells draws).allocOf p = .reset := by
  simp [State.allocOf, State.afterReset]

@[simp] theorem State.linkOf_afterReset (p : Pad) :
    (State.afterReset pending lines mode field cells draws).linkOf p = .reset := by
  simp [State.linkOf, State.afterReset]

@[simp] theorem State.port_afterReset (port : Port) :
    (State.afterReset pending lines mode field cells draws).port port = .reset := by
  cases port <;> rfl

@[simp] theorem State.exposure_afterReset (p : Pad) :
    (State.afterReset pending lines mode field cells draws).exposure p = cells.rating.get p := by
  rw [State.exposure, State.allocOf_afterReset]
  exact Nat.max_eq_left (Nat.zero_le _)

end AfterReset

@[simp] theorem CapPlan.cell_reset (line : PlanLine) (col : PlanCol) : CapPlan.reset.cell line col = none := by
  simp [CapPlan.cell, CapPlan.reset]

/-- Every line keeps its raw level at a reset and has no taken level (R103). -/
theorem Lines.get_reset (ls : Lines) (line : Line) : ls.reset.get line = (ls.get line).reset := by
  cases line <;> rfl

/-- A full change set keeps its ATTN line active (R173). -/
theorem ChangeSet.attn_full : ChangeSet.full.attn = true := by
  simp [ChangeSet.attn, ChangeSet.full]

/-- A port right after reset is IDLE with nothing to send and nothing received (R180). -/
theorem PortRec.law_reset (port : Port) : PortRec.reset.Law port :=
  ⟨rfl, nofun, nofun⟩

/-- Every pad is VACANT after the reset of a part with factory contents. -/
theorem State.session_reset (p : Pad) : State.reset.session p = ⟨.vacant, 0, none⟩ := by
  rw [State.reset, State.session_afterReset]
  simp [StoreImage.factory]

theorem State.padState_reset (p : Pad) : State.reset.padState p = .vacant := by
  rw [State.padState, State.session_reset]; rfl

/-- Settles O2: law by law, from the records that a reset leaves. -/
theorem resetMeetsLaws : Obligations.ResetMeetsLaws := by
  have halloc (p : Pad) : State.reset.allocOf p = .reset := State.allocOf_afterReset ..
  have hlink (p : Pad) : State.reset.linkOf p = .reset := State.linkOf_afterReset ..
  have hstore : State.reset.store = .loaded .factory := rfl
  unfold Obligations.ResetMeetsLaws
  refine ⟨⟨.nil, .nil, nofun, fun p => ?membership⟩, .nil, fun p _ => ?idle, fun p h => ?paused, fun p => ?caps, ?ceiling,
    ⟨fun p => ?alloc, ⟨fun p => ?image, fun p => ?cells, nofun⟩, fun h hh => absurd hh List.not_mem_nil⟩, ?formed, ?limits, ?timer, ?plan, fun p => ?held,
    fun p => ?token, fun p => ?counts, nofun, ⟨.nil, fun _ => rfl⟩, fun _ => nofun, fun p => ?link,
    ⟨PortRec.law_reset _, PortRec.law_reset _, PortRec.law_reset _⟩⟩
  case membership => rw [State.padState_reset]; exact ⟨nofun, nofun⟩
  case idle => rw [halloc]; exact ⟨rfl, rfl, rfl, rfl, rfl⟩
  case paused => rw [halloc] at h; cases h
  case caps => rw [halloc]; exact ⟨Nat.zero_le _, Nat.zero_le _, .inl rfl, .inl rfl⟩
  case ceiling => simp [halloc, AllocRec.reset, sumOver]
  case alloc => rw [halloc]; simp [AllocRec.reset, AllocRec.InRange, ExposureMode.InRange, ExposureMode.holdFields]
  case image => simp [hstore, Store.loaded, StoreImage.factory]
  case cells => simp [hstore, Store.loaded, StoreImage.factory]
  case formed => rfl
  case limits => decide
  case timer => exact ⟨Nat.zero_lt_succ _, nofun⟩
  case plan =>
    refine ⟨Fin.zero_le _, rfl, fun line col v hv => ?_⟩
    have : State.reset.plan.cell line col = none := CapPlan.cell_reset line col
    rw [this] at hv
    cases hv
  case held => simp [State.padState_reset, State.lockout, State.faultOf, hstore, Store.loaded, StoreImage.factory]
  case token => rw [State.session_reset]; exact ⟨Nat.zero_le _, nofun⟩
  case counts => rw [State.session_reset]; exact ⟨nofun, nofun⟩
  case link => rw [hlink]; simp [LinkRec.reset]

/-- What a cut of the write in progress leaves in the cells: the old content or the whole new one (R165). -/
theorem Store.cellsAfterCut_cases (st : Store) (newContent : Bool) :
    st.cellsAfterCut newContent = st.cells ∨
      ∃ w, st.writing = some w ∧ st.cellsAfterCut newContent = st.cells.put w.id.pad w.content := by
  rw [Store.cellsAfterCut]
  split
  · rename_i w hw
    cases newContent
    · exact .inl rfl
    · exact .inr ⟨w, hw, rfl⟩
  · exact .inl rfl

/-- Settles O60, field by field from the state after a reset and the two contents a cut write can leave. -/
theorem resetAndPowerLoss : Obligations.ResetAndPowerLoss := by
  unfold Obligations.ResetAndPowerLoss
  refine ⟨fun strap field s => ⟨_, rfl, rfl, rfl, rfl, s.store.cellsAfterCut_cases _, fun p => ?_, fun p => ?_, rfl, rfl,
    rfl, rfl, rfl, CapPlan.cell_reset, rfl, rfl, rfl, rfl, fun line => ?_, rfl, rfl, rfl, fun port => ?_⟩, fun s hs => ?_⟩
  · exact State.session_afterReset ..
  · exact ⟨State.allocOf_afterReset .., State.exposure_afterReset .., State.linkOf_afterReset ..⟩
  · exact ⟨congrArg LineRec.taken (s.lines.get_reset line), (congrArg LineRec.raw (s.lines.get_reset line) :)⟩
  · refine ⟨State.port_afterReset .., ?_⟩
    rw [State.attn, State.port_afterReset]
    exact ChangeSet.attn_full
  · refine ⟨_, rfl, ?_⟩
    rw [if_pos hs]
    exact ⟨rfl, rfl, rfl, s.store.cellsAfterCut_cases _⟩

/-! ### Poll slots (R26, R131 to R133, R143) -/

/-- The command by the pad state (R26). -/
theorem State.commandOf_code (s : State) (p : Pad) :
    (s.commandOf p).code =
      match s.padState p with
      | .vacant | .seen | .binding | .offline => 0x00#8
      | .eligible => if p ∈ s.active then 0x02#8 else 0x01#8
      | .topped | .faulted => 0x01#8
      | .releasing | .clearing => 0x03#8
      | .locked => 0x04#8 := by
  unfold State.commandOf State.padState
  cases (s.session p).body with
  | matched phase =>
    cases phase with
    | eligible => dsimp only [PadBody.name]; split <;> rfl
    | _ => rfl
  | _ => rfl

/-- Only the frame of an ACTIVE pad commands RUN (R26). -/
theorem State.framedSetpoint_eq (s : State) (p : Pad) :
    s.framedSetpoint p = if s.padState p = .eligible ∧ p ∈ s.active then (s.allocOf p).setpoint else 0 := by
  unfold State.framedSetpoint State.commandOf State.padState
  cases (s.session p).body with
  | matched phase =>
    cases phase with
    | eligible => by_cases h : p ∈ s.active <;> simp [PadBody.name, h]
    | _ => rfl
  | _ => rfl

/-- The link cycle goes from each pad to the next and begins again after pad 23 (R131). -/
theorem nextInCycle_eq (p : Pad) : nextInCycle p = if p.val = 23 then 0 else p + 1 := by
  unfold nextInCycle
  split
  · rename_i h
    obtain rfl : p = 23 := Fin.ext h
    rfl
  · rfl

/-- A ready part ends an event that leaves allocator records, store and ceiling as they were with that event's own changes
(R80, R163). -/
theorem State.Ready.event {s after : State} (h : s.Ready) (halloc : after.alloc = s.alloc)
    (hstore : after.store = s.store) (hceiling : after.feeder.ceiling = s.feeder.ceiling) : s.event after = .next after := by
  obtain ⟨hpowered, -, hidle⟩ := h
  exact State.event_of_same hpowered hidle halloc hstore hceiling

/-- With no exchange in progress a poll slot sends the frame of the next pad of the cycle, after a STOP still requested. -/
theorem State.Ready.pollSlotStart {s : State} (hs : s.Ready) (hidle : s.link.exchange = none) :
    exec .pollSlotStart s = .next
      { s with
        link :=
          { stopRequest := false
            nextPad := nextInCycle s.link.nextPad
            exchange := some s.link.nextPad
            received := []
            tx := (if s.link.stopRequest then [stopFrame] else []) ++ [s.setpointFrameOf s.link.nextPad] } } := by
  change execPollSlotStart s = _
  rw [execPollSlotStart, hidle]
  exact hs.event rfl rfl rfl

/-- Settles O40. -/
theorem pollSlotStarts : Obligations.PollSlotStarts := by
  unfold Obligations.PollSlotStarts
  refine ⟨fun p s hs hidle hp => ?_, fun p s => ?_, fun s hs hidle hstop => ?_, fun s hs h => ?_, fun s hs h => ?_⟩
  · subst hp
    refine ⟨_, hs.pollSlotStart hidle, ?_, rfl⟩
    simp only [State.setpointFrameOf, State.framedSetpoint_eq, nextInCycle_eq]
    rfl
  · exact s.commandOf_code p
  · change execBroadcastStop s = _
    rw [execBroadcastStop, if_pos ⟨hidle, hstop⟩]
    exact hs.event rfl rfl rfl
  · change execBroadcastStop s = _
    rw [execBroadcastStop, if_neg]
    · exact hs.event rfl rfl rfl
    · rintro ⟨hidle, hstop⟩
      obtain h | h := h
      · exact h hidle
      · rw [h] at hstop; cases hstop
  · change execPollSlotStart s = _
    rw [execPollSlotStart]
    cases hx : s.link.exchange with
    | none => exact absurd hx h
    | some p => exact hs.event rfl rfl rfl

end Sys2Proof.Machine
end

section
/-! PROOFS. The requests of the D-port: BIND, AMEND and RELEASE, and how an event that releases raises ends. -/

namespace Sys2Proof.Machine

/-! ### Answers as a change of one port (R164, R171) -/

/-- A port's record with its pending request answered. -/
def PortRec.answered (r : PortRec) (status : Status) (body : List Byte) : PortRec :=
  match r.pending with
  | some q =>
    { r with pending := some { q with stage := .answered }, tx := r.tx ++ [⟨true, ⟨q.code, q.tag, status, body⟩⟩] }
  | none => r

theorem State.answer_eq (s : State) (port : Port) (status : Status) (body : List Byte) :
    s.answer port status body = s.onPort port fun r => r.answered status body := by
  cases h : (s.port port).pending with
  | none =>
    rw [State.answer_of_none h, State.onPort, PortRec.answered, h]
    simp only [State.setPort, State.port, Ports.set_get]
  | some q => rw [State.answer_of_some h, State.onPort, PortRec.answered, h]

/-- What an answer leaves of the ports depends on the ports alone. -/
theorem State.answer_ports_congr {s t : State} (h : s.ports = t.ports) (port : Port) (status : Status)
    (body : List Byte) : (s.answer port status body).ports = (t.answer port status body).ports := by
  simp only [State.answer_eq, State.onPort_ports, State.port, h]

/-! ### The end of an event that may release raises (R79, R80) -/

/-- A record without a pending raise stays as it is. -/
theorem AllocRec.Released.eq {a b : AllocRec} (h : a.Released b) (hle : a.target ≤ a.setpoint) : b = a := by
  obtain h | ⟨hlt, -⟩ := h
  · exact h
  · exact absurd hlt (Nat.not_lt.mpr hle)

/-- An event of a powered part ends with its own changes, raises released, and the head of the write queue taken. -/
theorem State.event_released {s : State} (hs : s.powered = true) (after : State) :
    ∃ alloc, s.event after = .next { after with alloc := alloc, store := after.store.beginWrite } ∧
      ∀ q, (after.allocOf q).Released (alloc.get q) :=
  ⟨(finishEvent s after).alloc, by rw [State.event_of_powered hs, ← finishEvent_frame],
    fun q => allocOf_finishEvent s after q⟩

/-- Where the store stays as it was, no write begins at the end of a ready part's event. -/
theorem State.Ready.event_released {s : State} (hs : s.Ready) {after : State} (hstore : after.store = s.store) :
    ∃ alloc, s.event after = .next { after with alloc := alloc } ∧ ∀ q, (after.allocOf q).Released (alloc.get q) := by
  obtain ⟨hpowered, -, hidle⟩ := hs
  obtain ⟨alloc, hevent, hreleased⟩ := State.event_released hpowered after
  rw [Store.beginWrite_eq_self (by rw [hstore]; exact hidle)] at hevent
  exact ⟨alloc, hevent, hreleased⟩

/-- An answer alone is all that a ready part's event leaves. -/
theorem State.Ready.event_answer {s after : State} (hs : s.Ready) (port : Port) (status : Status) (body : List Byte)
    (halloc : after.alloc = s.alloc) (hstore : after.store = s.store) (hfeeder : after.feeder = s.feeder) :
    s.event (after.answer port status body) = .next (after.answer port status body) := by
  refine hs.event ?_ ?_ ?_ <;> rw [State.answer_frame]
  · exact halloc
  · exact hstore
  · exact congrArg _ hfeeder

/-! ### Operands in and out of range (R7, R16) -/

theorem padOf_of_eq {pad : Byte} {p : Pad} (h : pad.toNat = p.val) : padOf pad = some p := by
  have hlt : pad.toNat < 24 := h ▸ p.isLt
  rw [padOf, dif_pos hlt]
  exact congrArg some (Fin.ext h)

theorem padOf_of_le {pad : Byte} (h : 24 ≤ pad.toNat) : padOf pad = none := by
  rw [padOf, dif_neg (Nat.not_lt.mpr h)]

theorem termsInRange_of_inRange {target deadline : Word16} {cls : Byte} {slot : Word16} {k : Sys2Proof.Class}
    (hcls : cls.toNat = k.val) (htarget : target ≠ 0#16) (hdeadline : (deadline - slot).toNat ≤ 4000) :
    termsInRange target deadline cls slot = some ⟨k, target.toNat, deadline⟩ := by
  have hlt : cls.toNat < 4 := hcls ▸ k.isLt
  rw [termsInRange, dif_pos hlt, if_pos ⟨htarget, decide_eq_true hdeadline⟩]
  congr 2
  exact Fin.ext hcls

theorem termsInRange_of_outOfRange {target deadline : Word16} {cls : Byte} {slot : Word16}
    (h : target = 0#16 ∨ 4 ≤ cls.toNat ∨ 4000 < (deadline - slot).toNat) :
    termsInRange target deadline cls slot = none := by
  unfold termsInRange
  split
  · refine if_neg fun ⟨htarget, hdeadline⟩ => ?_
    have := of_decide_eq_true hdeadline
    obtain h | h | h := h
    · exact htarget h
    · omega
    · omega
  · rfl

/-! ### Insertion (R29) -/

/-- An entry goes immediately before the first one that stands after it. -/
theorem insertBefore_eq (after : Pad → Bool) (p : Pad) (l : List Pad) :
    insertBefore after p l = (l.takeWhile fun q => !after q) ++ p :: l.dropWhile fun q => !after q := by
  induction l with
  | nil => rfl
  | cons q rest ih =>
    rw [insertBefore]
    cases h : after q with
    | false => simp [h, ih]
    | true => simp [h]

/-! ### BIND (R7 to R9) -/

section Bind

variable {pad cls : Byte} {tag target deadline : Word16} {p : Pad} {k : Sys2Proof.Class} {s : State}

/-- A BIND in range is taken on its pad. -/
theorem exec_bind_of_inRange (hr : s.handedRequest .d = some (.bind pad tag target deadline cls))
    (hp : pad.toNat = p.val) (hk : cls.toNat = k.val) (h0 : tag ≠ 0#16) (hF : tag ≠ 0xFFFF#16) (ht : target ≠ 0#16)
    (hd : (deadline - s.timer.slot).toNat ≤ 4000) :
    exec .bind s = s.event (s.bindPad p tag.toNat ⟨k, target.toNat, deadline⟩) := by
  change execBind s = _
  simp [execBind, hr, padOf_of_eq hp, termsInRange_of_inRange hk ht hd, h0, hF]

/-- A BIND out of range is answered RANGE. -/
theorem exec_bind_of_outOfRange (hs : s.Ready) (hr : s.handedRequest .d = some (.bind pad tag target deadline cls))
    (h : 24 ≤ pad.toNat ∨ tag = 0#16 ∨ tag = 0xFFFF#16 ∨ target = 0#16 ∨ 4 ≤ cls.toNat ∨
      4000 < (deadline - s.timer.slot).toNat) : exec .bind s = .next (s.answer .d .range []) := by
  rw [← hs.event_answer .d .range [] rfl rfl rfl]
  change execBind s = _
  simp only [execBind, hr]
  split
  · rename_i hpad hterms
    split
    · rfl
    · rename_i htag
      obtain h | h | h | h := h
      · rw [padOf_of_le h] at hpad; cases hpad
      · exact absurd (.inl h) htag
      · exact absurd (.inr h) htag
      · rw [termsInRange_of_outOfRange h] at hterms; cases hterms
  · rfl

/-- A pad at rating 0 is not commissioned (R7). -/
theorem State.bindPad_of_not_commissioned {tag : Nat} {terms : Terms} (h : s.rating p = 0) :
    s.bindPad p tag terms = s.answer .d .notCommissioned [] := by
  rw [State.bindPad, if_pos h]

theorem State.bindPad_of_vacant {tag : Nat} {terms : Terms} (hrating : s.rating p ≠ 0)
    (hb : (s.session p).body = .vacant) :
    s.bindPad p tag terms =
      ({ s with
         sessions := s.sessions.set p
           ⟨.binding (nextToken (s.session p).tokenSeq) tag terms 0, nextToken (s.session p).tokenSeq,
             (s.session p).last⟩ }.enterPad p).answer .d .ok [0x00#8, byte (nextToken (s.session p).tokenSeq)] := by
  simp only [State.bindPad, if_neg hrating, hb]
  rw [State.setSession_of_reported_ne]
  · rfl
  · simp [SessionRec.reported, hb, PadBody.name]

theorem State.bindPad_of_seen {tag : Nat} {terms : Terms} (hrating : s.rating p ≠ 0)
    (hb : (s.session p).body = .seen tag) :
    s.bindPad p tag terms =
      (({ s with
          sessions := s.sessions.set p
            ⟨.matched .eligible (nextToken (s.session p).tokenSeq) tag terms
              (.fresh ((s.linkOf p).last.bind (·.meter))), nextToken (s.session p).tokenSeq,
              (s.session p).last⟩ }.enterPad p).offer p).answer .d .ok
        [0x01#8, byte (nextToken (s.session p).tokenSeq)] := by
  simp only [State.bindPad, if_neg hrating, hb, if_true]
  rw [State.setSession_of_reported_ne]
  · rfl
  · simp [SessionRec.reported, hb, PadBody.name]

theorem State.bindPad_of_mismatch {tag seen : Nat} {terms : Terms} (hrating : s.rating p ≠ 0)
    (hb : (s.session p).body = .seen seen) (htag : tag ≠ seen) :
    s.bindPad p tag terms = s.answer .d .mismatch [] := by
  simp only [State.bindPad, if_neg hrating, hb, if_neg htag]

theorem State.bindPad_of_other {tag : Nat} {terms : Terms} (hrating : s.rating p ≠ 0)
    (hvacant : s.padState p ≠ .vacant) (hseen : s.padState p ≠ .seen) :
    s.bindPad p tag terms = s.answer .d .state [] := by
  simp only [State.bindPad, if_neg hrating]
  cases hb : (s.session p).body with
  | vacant => exact absurd (by rw [State.padState, hb]; rfl) hvacant
  | seen t => exact absurd (by rw [State.padState, hb]; rfl) hseen
  | _ => rfl

end Bind

/-- Settles O27. -/
theorem bindTaken : Obligations.BindTaken := by
  unfold Obligations.BindTaken
  refine ⟨?vacant, ?seen, fun s p => insertBefore_eq _ p s.queue⟩
  case vacant =>
    intro pad tag target deadline cls p k s hs hr hp hk h0 hF ht hd hrating hb
    rw [exec_bind_of_inRange hr hp hk h0 hF ht hd, State.bindPad_of_vacant hrating hb]
    exact hs.event_answer .d .ok _ rfl rfl rfl
  case seen =>
    intro pad tag target deadline cls p k s hs hr hp hk h0 hF ht hd hrating hb
    rw [exec_bind_of_inRange hr hp hk h0 hF ht hd, State.bindPad_of_seen hrating hb]
    refine ⟨_, hs.event_answer .d .ok _ rfl rfl rfl, ?_, ?_, ?_, ?_, ?_⟩
    case refine_4 => exact State.answer_ports_congr (by rfl) ..
    all_goals rw [State.answer_frame]; rfl

/-! ### AMEND (R16) -/

section Amend

variable {pad cls : Byte} {target deadline : Word16} {p : Pad} {k : Sys2Proof.Class} {s : State}

theorem exec_amend_of_inRange (hr : s.handedRequest .d = some (.amend pad target deadline cls))
    (hp : pad.toNat = p.val) (hk : cls.toNat = k.val) (ht : target ≠ 0#16)
    (hd : (deadline - s.timer.slot).toNat ≤ 4000) :
    exec .amend s = s.event (s.amendPad p ⟨k, target.toNat, deadline⟩) := by
  change execAmend s = _
  simp [execAmend, hr, padOf_of_eq hp, termsInRange_of_inRange hk ht hd]

theorem exec_amend_of_outOfRange (hs : s.Ready) (hr : s.handedRequest .d = some (.amend pad target deadline cls))
    (h : 24 ≤ pad.toNat ∨ target = 0#16 ∨ 4 ≤ cls.toNat ∨ 4000 < (deadline - s.timer.slot).toNat) :
    exec .amend s = .next (s.answer .d .range []) := by
  rw [← hs.event_answer .d .range [] rfl rfl rfl]
  change execAmend s = _
  simp only [execAmend, hr]
  split
  · rename_i hpad hterms
    obtain h | h := h
    · rw [padOf_of_le h] at hpad; cases hpad
    · rw [termsInRange_of_outOfRange h] at hterms; cases hterms
  · rfl

theorem State.amendPad_of_other {terms : Terms} (heligible : s.padState p ≠ .eligible)
    (htopped : s.padState p ≠ .topped) : s.amendPad p terms = s.answer .d .state [] := by
  unfold State.amendPad
  cases hb : (s.session p).body with
  | matched phase =>
    cases phase with
    | eligible => exact absurd (by rw [State.padState, hb]; rfl) heligible
    | topped => exact absurd (by rw [State.padState, hb]; rfl) htopped
    | releasing => rfl
  | _ => rfl

end Amend

/-! ### RELEASE (R17) -/

theorem exec_release_of_pad {pad : Byte} {p : Pad} {s : State} (hr : s.handedRequest .d = some (.release pad))
    (hp : pad.toNat = p.val) : exec .release s = s.event (s.releasePad p) := by
  change execRelease s = _
  simp [execRelease, hr, padOf_of_eq hp]

theorem exec_release_of_outOfRange {pad : Byte} {s : State} (hs : s.Ready)
    (hr : s.handedRequest .d = some (.release pad)) (hp : 24 ≤ pad.toNat) :
    exec .release s = .next (s.answer .d .range []) := by
  rw [← hs.event_answer .d .range [] rfl rfl rfl]
  change execRelease s = _
  simp [execRelease, hr, padOf_of_le hp]

/-- RELEASE is refused in the states without a session that is bound, matched or clearing. -/
theorem State.releasePad_of_other {s : State} {p : Pad} (h : s.padState p = .vacant ∨ s.padState p = .seen ∨
    s.padState p = .faulted ∨ s.padState p = .locked ∨ s.padState p = .offline) :
    s.releasePad p = s.answer .d .state [] := by
  unfold State.releasePad
  rw [State.padState] at h
  cases hb : (s.session p).body with
  | binding => simp [hb, PadBody.name] at h
  | clearing => simp [hb, PadBody.name] at h
  | matched phase => cases phase <;> simp [hb, PadBody.name] at h
  | _ => rfl

/-- RELEASE leaves a release in progress. -/
theorem State.releasePad_of_going {s : State} {p : Pad} (h : s.padState p = .releasing ∨ s.padState p = .clearing) :
    s.releasePad p = s.answer .d .ok [] := by
  unfold State.releasePad
  rw [State.padState] at h
  cases hb : (s.session p).body with
  | clearing => rfl
  | matched phase =>
    cases phase with
    | releasing => rfl
    | _ => simp [hb, PadBody.name] at h
  | _ => simp [hb, PadBody.name] at h

/-- Settles O28: each refusal is the first check that fails, and the answer is all that the event leaves. -/
theorem dispatchRefused : Obligations.DispatchRefused := by
  unfold Obligations.DispatchRefused
  refine ⟨?bindRange, ?bindRating, ?bindMismatch, ?bindState, ?amendRange, ?amendState, ?releaseRange, ?releaseState⟩
  case bindRange => exact fun pad tag target deadline cls s hs hr h => exec_bind_of_outOfRange hs hr h
  case bindRating =>
    intro pad tag target deadline cls p k s hs hr hp hk h0 hF ht hd hrating
    rw [exec_bind_of_inRange hr hp hk h0 hF ht hd, State.bindPad_of_not_commissioned hrating]
    exact hs.event_answer .d _ _ rfl rfl rfl
  case bindMismatch =>
    intro pad tag target deadline cls p k s seen hs hr hp hk h0 hF ht hd hrating hb htag
    rw [exec_bind_of_inRange hr hp hk h0 hF ht hd, State.bindPad_of_mismatch hrating hb htag]
    exact hs.event_answer .d _ _ rfl rfl rfl
  case bindState =>
    intro pad tag target deadline cls p k s hs hr hp hk h0 hF ht hd hrating hvacant hseen
    rw [exec_bind_of_inRange hr hp hk h0 hF ht hd, State.bindPad_of_other hrating hvacant hseen]
    exact hs.event_answer .d _ _ rfl rfl rfl
  case amendRange => exact fun pad target deadline cls s hs hr h => exec_amend_of_outOfRange hs hr h
  case amendState =>
    intro pad target deadline cls p s hs hr hp ht hk hd heligible htopped
    rw [exec_amend_of_inRange (k := ⟨cls.toNat, hk⟩) hr hp rfl ht hd, State.amendPad_of_other heligible htopped]
    exact hs.event_answer .d _ _ rfl rfl rfl
  case releaseRange => exact fun pad s hs hr hp => exec_release_of_outOfRange hs hr hp
  case releaseState =>
    intro pad p s hs hr hp h
    rw [exec_release_of_pad hr hp, State.releasePad_of_other h]
    exact hs.event_answer .d _ _ rfl rfl rfl

end Sys2Proof.Machine
end

section
/-! PROOFS. An accepted AMEND and RELEASE, and what an event leaves in which one pad leaves eligibility. -/

namespace Sys2Proof.Machine

/-! ### A pad that leaves eligibility (R33) -/

/-- An event in which one allocator record became idle keeps it so, and may release the raises of the others. -/
theorem State.Ready.event_idled {s : State} (hs : s.Ready) {after : State} {p : Pad} {result : State → Prop}
    (hstore : after.store = s.store) (halloc : after.alloc = s.alloc.set p (s.allocOf p).idle)
    (hresult : ∀ alloc, alloc.get p = (s.allocOf p).idle → (∀ q, q ≠ p → (s.allocOf q).Released (alloc.get q)) →
      result { after with alloc := alloc }) : ∃ t, s.event after = .next t ∧ result t := by
  obtain ⟨alloc, hevent, hreleased⟩ := hs.event_released hstore
  have hself : after.allocOf p = (s.allocOf p).idle := by rw [State.allocOf, halloc, Table.get_set_self]
  have hne : ∀ q, q ≠ p → after.allocOf q = s.allocOf q := fun q hq => by
    rw [State.allocOf, halloc, Table.get_set_ne _ _ hq]; rfl
  refine ⟨_, hevent, hresult alloc ?_ fun q hq => hne q hq ▸ hreleased q⟩
  rw [← hself]
  exact (hreleased p).eq (by rw [hself]; exact Nat.le_refl _)

/-- A change of body, with its entry into the change sets (R4). -/
theorem State.setBody_eq (s : State) (p : Pad) (b : PadBody) :
    s.setBody p b =
      { s with
        sessions := s.sessions.set p { s.session p with body := b }
        ports := s.ports.enter (fun q => decide (q = p) &&
          decide ((s.session p).reported ≠ SessionRec.reported { s.session p with body := b })) false } :=
  s.setSession_eq p _

theorem State.leaveEligibility_setBody (s : State) (p : Pad) (b : PadBody) :
    (s.leaveEligibility p).setBody p b =
      { s with
        sessions := s.sessions.set p { s.session p with body := b }
        alloc := s.alloc.set p (s.allocOf p).idle
        queue := s.queue.erase p
        active := s.active.erase p
        roundRequest := s.roundRequest || decide (p ∈ s.active)
        ports := s.ports.enter (fun q => decide (q = p) &&
          decide ((s.session p).reported ≠ SessionRec.reported { s.session p with body := b })) false } := by
  rw [s.leaveEligibility_frame, State.setBody_eq]
  rfl

/-- The ports after one session record and one port changed, in the terms of the record that the change left. -/
theorem State.onPort_changed_ports {s t : State} {p : Pad} {r : SessionRec} (h : t.sessions = s.sessions.set p r)
    (port : Port) (f : PortRec → PortRec) :
    ({ s with ports := s.ports.enter (fun q => decide (q = p) &&
        decide ((s.session p).reported ≠ r.reported)) false }.onPort port f).ports =
      ((s.enterPads fun q => decide (q = p) &&
        decide ((s.session p).reported ≠ (t.session p).reported)).onPort port f).ports := by
  have hsession : t.session p = r := by rw [State.session, h, Table.get_set_self]
  rw [hsession]
  rfl

/-- A pad is on a collection without repeats once, so it is off it when taken out. -/
theorem State.MembershipLaw.not_mem_erase {s : State} (h : s.MembershipLaw) (p : Pad) :
    p ∉ s.queue.erase p ∧ p ∉ s.active.erase p := by
  obtain ⟨hqueue, hactive, -, -⟩ := h
  exact ⟨hqueue.not_mem_erase, hactive.not_mem_erase⟩

/-- Settles O29: the four outcomes of an AMEND in range, by phase and new target. -/
theorem amendTaken : Obligations.AmendTaken := by
  unfold Obligations.AmendTaken
  refine ⟨?tops, ?stays, ?returns, ?staysTopped⟩
  case tops =>
    intro pad target deadline cls p k token tag old m s hs hr hp hk ht hd hb htarget hlaw
    rw [exec_amend_of_inRange hr hp hk ht hd]
    simp only [State.amendPad, hb, if_pos htarget, State.leaveEligibility_setBody, State.answer_eq]
    obtain ⟨hqueue, hactive⟩ := hlaw.not_mem_erase p
    refine hs.event_idled (p := p) (by rfl) (by rfl) fun alloc hself hne =>
      ⟨rfl, hqueue, hactive, rfl, rfl, hself, hne, fun h => ?_, fun h => ?_, ?_, rfl⟩
    · simp [h]
    · simp [h]
    · exact .trans (by rfl) (State.onPort_changed_ports rfl _ _)
  case stays =>
    intro pad target deadline cls p k token tag old m s hs hr hp hk ht hd hb htarget
    rw [exec_amend_of_inRange hr hp hk ht hd]
    simp only [State.amendPad, hb, if_neg (Nat.not_le.mpr htarget), State.answer_eq, State.setBody_eq,
      State.requeueAmended]
    split
    · rename_i h
      refine ⟨_, hs.event (by rfl) (by rfl) (by rfl), rfl, fun _ => ⟨rfl, rfl⟩, fun hn => absurd h hn, ?_, rfl⟩
      exact .trans (by rfl) (State.onPort_changed_ports rfl _ _)
    · rename_i h
      refine ⟨_, hs.event (by rfl) (by rfl) (by rfl), rfl, fun hn => absurd hn h, fun _ => ⟨rfl, rfl⟩, ?_, rfl⟩
      exact .trans (by rfl) (State.onPort_changed_ports rfl _ _)
  case returns =>
    intro pad target deadline cls p k token tag old m s hs hr hp hk ht hd hb htarget
    rw [exec_amend_of_inRange hr hp hk ht hd]
    simp only [State.amendPad, hb, if_neg (Nat.not_le.mpr htarget), State.answer_eq, State.setBody_eq]
    refine ⟨_, hs.event (by rfl) (by rfl) (by rfl), rfl, rfl, rfl, ?_, rfl⟩
    exact .trans (by rfl) (State.onPort_changed_ports rfl _ _)
  case staysTopped =>
    intro pad target deadline cls p k token tag old m s hs hr hp hk ht hd hb htarget
    rw [exec_amend_of_inRange hr hp hk ht hd]
    simp only [State.amendPad, hb, if_pos htarget, State.answer_eq, State.setBody_eq]
    refine ⟨_, hs.event (by rfl) (by rfl) (by rfl), rfl, ?_, rfl⟩
    exact .trans (by rfl) (State.onPort_changed_ports rfl _ _)

/-- A change of the pad state is a change of a reported field (R4). -/
theorem SessionRec.reported_ne {r r' : SessionRec} (h : r.body.name ≠ r'.body.name) : r.reported ≠ r'.reported :=
  fun he => h (congrArg Prod.fst he)

/-- A change of body that changes the pad state enters the pad into the change sets. -/
theorem State.setBody_of_name_ne {s : State} {p : Pad} {b : PadBody} (h : (s.session p).body.name ≠ b.name) :
    s.setBody p b = { s.enterPad p with sessions := s.sessions.set p { s.session p with body := b } } :=
  State.setSession_of_reported_ne (SessionRec.reported_ne h)

/-- Closing a pad that is not ELIGIBLE writes the outcome and enters the pad into the change sets. -/
theorem State.closePad_of_not_eligible {s : State} {p : Pad} {ending : Ending} {b : PadBody}
    (he : (s.session p).body.isEligible = false) (h : (s.session p).body.name ≠ b.name) :
    s.closePad p ending b =
      { s.enterPad p with
        sessions := s.sessions.set p
          ⟨b, (s.session p).tokenSeq, (outcomeOf (s.session p).body ending s.timer.slot).or (s.session p).last⟩ } := by
  unfold State.closePad
  simp only [he, Bool.false_eq_true, if_false]
  rw [State.setSession_of_reported_ne (SessionRec.reported_ne h)]
  cases outcomeOf (s.session p).body ending s.timer.slot <;> rfl

/-- Settles O30: RELEASE by the pad's state. -/
theorem releaseTaken : Obligations.ReleaseTaken := by
  unfold Obligations.ReleaseTaken
  refine ⟨?eligible, ?topped, ?binding, ?going⟩
  case eligible =>
    intro pad p token tag terms m s hs hr hp hb hlaw
    rw [exec_release_of_pad hr hp]
    have hname : (s.session p).reported ≠
        SessionRec.reported { s.session p with body := .matched .releasing token tag terms m } :=
      SessionRec.reported_ne (by rw [hb]; exact nofun)
    simp only [State.releasePad, hb, State.leaveEligibility_setBody, State.answer_eq]
    obtain ⟨hqueue, hactive⟩ := hlaw.not_mem_erase p
    refine hs.event_idled (p := p) (by rfl) (by rfl) fun alloc hself hne =>
      ⟨rfl, hqueue, hactive, rfl, rfl, hself, hne, fun h => ?_, fun h => ?_, ?_, rfl⟩
    · simp [h]
    · simp [h]
    · simp [hname, State.port]
  case topped =>
    intro pad p token tag terms m s hs hr hp hb
    rw [exec_release_of_pad hr hp]
    simp only [State.releasePad, hb]
    rw [State.setBody_of_name_ne (by rw [hb]; exact nofun)]
    exact hs.event_answer .d _ _ rfl rfl rfl
  case binding =>
    intro pad p token tag terms e s hs hr hp hb
    rw [exec_release_of_pad hr hp]
    simp only [State.releasePad, hb]
    rw [State.closePad_of_not_eligible (by rw [hb]; rfl) (by rw [hb]; exact nofun), hb]
    exact hs.event_answer .d _ _ rfl rfl rfl
  case going =>
    intro pad p s hs hr hp h
    rw [exec_release_of_pad hr hp, State.releasePad_of_going h]
    exact hs.event_answer .d _ _ rfl rfl rfl

end Sys2Proof.Machine
end

section
/-! PROOFS. What the session controller's taking of a report does, step by step of R6: the equations of the shared operations,
each with its whole frame. -/

namespace Sys2Proof.Machine

/-! ### A body replaced without an entry into the change sets -/

/-- The state with the body of one session record replaced and nothing else. -/
def State.putBody (s : State) (p : Pad) (b : PadBody) : State :=
  { s with sessions := s.sessions.set p { s.session p with body := b } }

@[simp] theorem State.session_putBody_self (s : State) (p : Pad) (b : PadBody) :
    (s.putBody p b).session p = { s.session p with body := b } :=
  Table.get_set_self ..

@[simp] theorem State.putBody_putBody (s : State) (p : Pad) (b b' : PadBody) :
    (s.putBody p b).putBody p b' = s.putBody p b' := by
  simp only [State.putBody, State.session, Table.get_set_self, Table.set_set]

/-- A body put back leaves the state. -/
theorem State.putBody_eq_self {s : State} {p : Pad} {b : PadBody} (h : (s.session p).body = b) : s.putBody p b = s := by
  subst h
  exact congrArg (fun table => { s with sessions := table }) (s.sessions.set_get p)

/-- A change of body that keeps the reported fields is a change of the body alone (R4). -/
theorem State.setBody_of_reported_eq {s : State} {p : Pad} {b : PadBody}
    (h : SessionRec.reported { s.session p with body := b } = (s.session p).reported) : s.setBody p b = s.putBody p b :=
  State.setSession_of_reported_eq h

/-- The reported fields of a record follow from the name, token, tag and terms of its body. -/
theorem SessionRec.reported_congr {r : SessionRec} {b : PadBody} (hname : b.name = r.body.name)
    (htoken : b.token = r.body.token) (htag : b.tag = r.body.tag) (hterms : b.terms = r.body.terms) :
    SessionRec.reported { r with body := b } = r.reported := by
  simp only [SessionRec.reported, hname, htoken, htag, hterms]

theorem PadBody.countSoft_tag (b : PadBody) (state : ChargerState) : (b.countSoft state).tag = b.tag := by
  cases b <;> rfl

/-! ### Endings (R22) -/

/-- Closing a pad, with its whole frame: the record with its outcome, the change sets, and for an ELIGIBLE pad what leaving
eligibility changes. -/
theorem State.closePad_eq (s : State) (p : Pad) (ending : Ending) (b : PadBody) :
    s.closePad p ending b =
      { s with
        sessions := s.sessions.set p
          ⟨b, (s.session p).tokenSeq, (outcomeOf (s.session p).body ending s.timer.slot).or (s.session p).last⟩
        alloc := if (s.session p).body.isEligible then s.alloc.set p (s.allocOf p).idle else s.alloc
        queue := if (s.session p).body.isEligible then s.queue.erase p else s.queue
        active := if (s.session p).body.isEligible then s.active.erase p else s.active
        roundRequest := s.roundRequest || ((s.session p).body.isEligible && decide (p ∈ s.active))
        ports := s.ports.enter (fun q => decide (q = p) && decide ((s.session p).reported ≠ SessionRec.reported
          ⟨b, (s.session p).tokenSeq, (outcomeOf (s.session p).body ending s.timer.slot).or (s.session p).last⟩))
          false } := by
  have hclose : s.closePad p ending b =
      (if (s.session p).body.isEligible then s.leaveEligibility p else s).setSession p
        ⟨b, (s.session p).tokenSeq, (outcomeOf (s.session p).body ending s.timer.slot).or (s.session p).last⟩ := by
    unfold State.closePad
    dsimp only
    cases outcomeOf (s.session p).body ending s.timer.slot <;> rfl
  rw [hclose]
  cases he : (s.session p).body.isEligible with
  | false =>
    rw [if_neg Bool.false_ne_true, State.setSession_eq]
    simp only [Bool.false_eq_true, if_false, Bool.false_and, Bool.or_false]
  | true =>
    rw [if_pos rfl, State.setSession_eq, s.leaveEligibility_frame]
    simp only [if_true, Bool.true_and]
    rfl

/-! ### Latches (R23, R152, R153) -/

/-- The body after a latch: a held pad stays as it is, any other is FAULTED (R23). -/
def PadBody.latched (b : PadBody) : PadBody := if b.isHeld then b else .faulted

/-- A held pad has no session, so nothing is written when it is held on. -/
theorem outcomeOf_of_isHeld {b : PadBody} (h : b.isHeld = true) (ending : Ending) (slot : Word16) :
    outcomeOf b ending slot = none := by
  cases b <;> first | rfl | cases h

theorem PadBody.isEligible_of_isHeld {b : PadBody} (h : b.isHeld = true) : b.isEligible = false := by
  cases b <;> first | rfl | cases h

/-- What a latch does to the session table, with its whole frame. -/
theorem State.faultPad_frame (s : State) (p : Pad) :
    s.faultPad p =
      { s with
        sessions := s.sessions.set p
          ⟨(s.session p).body.latched, (s.session p).tokenSeq,
            (outcomeOf (s.session p).body .fault s.timer.slot).or (s.session p).last⟩
        alloc := if (s.session p).body.isEligible then s.alloc.set p (s.allocOf p).idle else s.alloc
        queue := if (s.session p).body.isEligible then s.queue.erase p else s.queue
        active := if (s.session p).body.isEligible then s.active.erase p else s.active
        roundRequest := s.roundRequest || ((s.session p).body.isEligible && decide (p ∈ s.active))
        ports := s.ports.enter (fun q => decide (q = p) && decide ((s.session p).reported ≠ SessionRec.reported
          ⟨(s.session p).body.latched, (s.session p).tokenSeq,
            (outcomeOf (s.session p).body .fault s.timer.slot).or (s.session p).last⟩)) false } := by
  cases hheld : (s.session p).body.isHeld with
  | false =>
    have hclose : s.faultPad p = s.closePad p .fault .faulted := by
      obtain h | ⟨-, h | h⟩ := s.faultPad_eq p
      · exact h
      · rw [h] at hheld; cases hheld
      · rw [h] at hheld; cases hheld
    have hlatched : (s.session p).body.latched = .faulted := by simp [PadBody.latched, hheld]
    rw [hclose, hlatched, s.closePad_eq]
  | true =>
    have hstay : s.faultPad p = s := by
      unfold State.faultPad
      cases hb : (s.session p).body with
      | faulted => rfl
      | locked => rfl
      | _ => rw [hb] at hheld; cases hheld
    have hrecord : (⟨(s.session p).body.latched, (s.session p).tokenSeq,
        (outcomeOf (s.session p).body .fault s.timer.slot).or (s.session p).last⟩ : SessionRec) = s.session p := by
      simp [PadBody.latched, hheld, outcomeOf_of_isHeld hheld]
    rw [hstay, hrecord, PadBody.isEligible_of_isHeld hheld]
    simp [State.session]

/-- A pad that has entered the change sets, or not, and enters them again. -/
theorem Ports.enter_again (ports : Ports) (p : Pad) (c : Bool) :
    (ports.enter (fun q => decide (q = p) && c) false).enter (fun q => decide (q = p)) false =
      ports.enter (fun q => decide (q = p)) false := by
  rw [Ports.enter_enter]
  congr 1
  funext q
  cases c <;> simp

/-- A latch, with its whole frame. -/
theorem State.latch_frame (s : State) (p : Pad) (cause : FaultCause) (code tag : Option Nat) (holdValue : Nat) :
    s.latch p cause code tag holdValue =
      let record := latchedRecord (s.faultOf p) cause code s.timer.slot tag
      let held : AllocRec := { s.allocOf p with mode := .hold holdValue 8 }
      { s with
        sessions := s.sessions.set p
          ⟨(s.session p).body.latched, (s.session p).tokenSeq,
            (outcomeOf (s.session p).body .fault s.timer.slot).or (s.session p).last⟩
        alloc := s.alloc.set p (if (s.session p).body.isEligible then held.idle else held)
        queue := if (s.session p).body.isEligible then s.queue.erase p else s.queue
        active := if (s.session p).body.isEligible then s.active.erase p else s.active
        roundRequest := s.roundRequest || ((s.session p).body.isEligible && decide (p ∈ s.active))
        store := if s.faultOf p = some record then s.store else s.store.change p (.fault (some record))
        ports := s.ports.enter (fun q => decide (q = p) && (decide (some record ≠ s.faultOf p) ||
          decide ((s.session p).reported ≠ SessionRec.reported
            ⟨(s.session p).body.latched, (s.session p).tokenSeq,
              (outcomeOf (s.session p).body .fault s.timer.slot).or (s.session p).last⟩))) false } := by
  unfold State.latch
  dsimp only
  rw [State.faultPad_frame]
  have halloc : (if (s.session p).body.isEligible then (s.startHold p holdValue).alloc.set p
      ((s.startHold p holdValue).allocOf p).idle else (s.startHold p holdValue).alloc) =
      s.alloc.set p (if (s.session p).body.isEligible then
        AllocRec.idle { s.allocOf p with mode := .hold holdValue 8 } else
        { s.allocOf p with mode := .hold holdValue 8 }) := by
    split <;> simp
  by_cases hrecord : s.faultOf p = some (latchedRecord (s.faultOf p) cause code s.timer.slot tag)
  · have hne : decide (some (latchedRecord (s.faultOf p) cause code s.timer.slot tag) ≠ s.faultOf p) = false :=
      decide_eq_false fun h => h hrecord.symm
    rw [if_pos hrecord, if_pos hrecord, hne, ← halloc]
    simp only [Bool.false_or]
    rfl
  · have hne : decide (some (latchedRecord (s.faultOf p) cause code s.timer.slot tag) ≠ s.faultOf p) = true :=
      decide_eq_true fun h => hrecord h.symm
    rw [if_neg hrecord, if_neg hrecord, hne, ← halloc]
    simp only [Bool.true_or, Bool.and_true, State.enterPad, State.enterPads, State.changeRecord, Ports.enter_again]
    rfl

end Sys2Proof.Machine
end

section
/-! PROOFS. The session controller's taking of the oldest report (R6, R141), one equation per way it can go. -/

namespace Sys2Proof.Machine

/-! ### The five steps of R6 -/

/-- Accounting changes no reported field (R4, R14). -/
theorem State.setBody_account (s : State) (p : Pad) (meter : Option Word16) :
    s.setBody p ((s.session p).body.account meter) = s.putBody p ((s.session p).body.account meter) :=
  State.setBody_of_reported_eq (SessionRec.reported_congr (PadBody.account_name ..) (PadBody.account_token ..)
    (PadBody.account_tag ..) (PadBody.account_terms ..))

theorem PadBody.takesAsCurrent_account (b : PadBody) (meter : Option Word16) (echo : Nat) :
    (b.account meter).takesAsCurrent echo = b.takesAsCurrent echo := by
  simp only [PadBody.takesAsCurrent, PadBody.account_token]

theorem PadBody.tagDiffers_account (b : PadBody) (meter : Option Word16) (tag : Option Nat) :
    (b.account meter).tagDiffers tag = b.tagDiffers tag := by
  cases b with
  | matched phase token bound terms m => cases tag <;> rfl
  | _ => rfl

theorem PadBody.softLimit_account (b : PadBody) (meter : Option Word16) (state : ChargerState) :
    (b.account meter).softLimit state = b.softLimit state := by
  cases b with
  | matched phase token tag terms m => simp only [PadBody.account, PadBody.softLimit, Meter.account_softRun]
  | _ => rfl

/-- A pad without a session has no meter fields to account. -/
theorem PadBody.account_of_no_meter {b : PadBody} (h : b.meter = none) (meter : Option Word16) : b.account meter = b := by
  cases b <;> first | rfl | cases h

theorem PadBody.countSoft_of_no_meter {b : PadBody} (h : b.meter = none) (state : ChargerState) :
    b.countSoft state = b := by
  cases b <;> first | rfl | cases h

theorem PadBody.tagDiffers_of_no_meter {b : PadBody} (h : b.meter = none) (tag : Option Nat) :
    b.tagDiffers tag = false := by
  cases b <;> first | rfl | cases h

theorem PadBody.softLimit_of_no_meter {b : PadBody} (h : b.meter = none) (state : ChargerState) :
    b.softLimit state = false := by
  cases b <;> first | rfl | cases h

section Takes

variable {s : State} {h : Handed} {before : Before}

/-- The pad of a report with the report's meter value accounted: step 1 of R6. -/
def State.accounted (s : State) (h : Handed) : State :=
  s.putBody h.pad ((s.session h.pad).body.account h.report.meter)

/-- The pad of a report with the soft-fault run counted besides: what step 5 of R6 starts from. -/
def State.counted (s : State) (h : Handed) : State :=
  s.putBody h.pad (((s.session h.pad).body.account h.report.meter).countSoft h.report.state)

/-- A stale report is accounted, and that is all (R5, R6). -/
theorem State.takeAtSession_of_stale (hstale : (s.session h.pad).body.takesAsCurrent h.report.echo = false) :
    s.takeAtSession h before = ⟨s.accounted h, false⟩ := by
  simp [State.takeAtSession, State.setBody_account, PadBody.takesAsCurrent_account, hstale, State.accounted]

/-- A current HARD_FAULT report latches CHARGER_HARD (R19). -/
theorem State.takeAtSession_of_hardFault (hcurrent : (s.session h.pad).body.takesAsCurrent h.report.echo = true)
    (hstate : h.report.state = .hardFault) :
    s.takeAtSession h before =
      ⟨(s.accounted h).latch h.pad .chargerHard h.report.code (s.session h.pad).body.tag (s.latchHoldValue h before),
        true⟩ := by
  simp [State.takeAtSession, State.setBody_account, PadBody.takesAsCurrent_account, hcurrent, hstate, State.accounted]
  rfl

/-- A current report with another tag latches TAG_CHANGE on a matched session (R20). -/
theorem State.takeAtSession_of_tagDiffers (hcurrent : (s.session h.pad).body.takesAsCurrent h.report.echo = true)
    (hstate : h.report.state ≠ .hardFault) (htag : (s.session h.pad).body.tagDiffers h.report.tag = true) :
    s.takeAtSession h before =
      ⟨(s.accounted h).latch h.pad .tagChange none h.report.tag (s.latchHoldValue h before), true⟩ := by
  simp [State.takeAtSession, State.setBody_account, PadBody.takesAsCurrent_account, PadBody.tagDiffers_account, hcurrent,
    hstate, htag, State.accounted]
  rfl

/-- The report that brings the soft-fault run to its limit latches SOFT_PERSIST (R21). -/
theorem State.takeAtSession_of_softLimit (hcurrent : (s.session h.pad).body.takesAsCurrent h.report.echo = true)
    (hstate : h.report.state ≠ .hardFault) (htag : (s.session h.pad).body.tagDiffers h.report.tag = false)
    (hsoft : (s.session h.pad).body.softLimit h.report.state = true) :
    s.takeAtSession h before =
      ⟨(s.accounted h).latch h.pad .softPersist h.report.code (s.session h.pad).body.tag (s.latchHoldValue h before),
        true⟩ := by
  simp [State.takeAtSession, State.setBody_account, PadBody.takesAsCurrent_account, PadBody.tagDiffers_account,
    PadBody.softLimit_account, hcurrent, hstate, htag, hsoft, State.accounted]
  rfl

/-- Any other current report makes the transition of step 5 (R6). -/
theorem State.takeAtSession_of_transition (hcurrent : (s.session h.pad).body.takesAsCurrent h.report.echo = true)
    (hstate : h.report.state ≠ .hardFault) (htag : (s.session h.pad).body.tagDiffers h.report.tag = false)
    (hsoft : (s.session h.pad).body.softLimit h.report.state = false) :
    s.takeAtSession h before = ⟨(s.counted h).reportTransition h.pad h.report h.lostSince, false⟩ := by
  have hcount : (s.accounted h).setBody h.pad (((s.session h.pad).body.account h.report.meter).countSoft h.report.state) =
      s.counted h := by
    rw [State.setBody_of_reported_eq, State.accounted, State.putBody_putBody]
    · rfl
    · simp only [State.accounted, State.session_putBody_self]
      exact SessionRec.reported_congr (r := ⟨_, _, _⟩) (PadBody.countSoft_name ..) (PadBody.countSoft_token ..)
        (PadBody.countSoft_tag ..) (PadBody.countSoft_terms ..)
  simp [State.takeAtSession, State.setBody_account, PadBody.takesAsCurrent_account, PadBody.tagDiffers_account,
    PadBody.softLimit_account, hcurrent, hstate, htag, hsoft]
  rw [← hcount]
  rfl

end Takes

/-! ### The event (R141) -/

/-- The taking of the oldest report, when no NONCOMPLIANT latch waits for it. -/
theorem State.SessionNext.takes {s : State} {h : Handed} {rest : List Handed} (hn : s.SessionNext h rest) :
    s.sessionTakes =
      { (s.takeAtSession h (s.beforeOf h)).state with
        handed := s.handedAfterSession h rest (s.takeAtSession h (s.beforeOf h)).latched } := by
  obtain ⟨hhanded, hby, hnon⟩ := hn
  simp only [State.sessionTakes, hhanded, firstUntaken, hby, hnon, Bool.and_false, Bool.false_eq_true, if_false,
    State.handedAfterSession, List.map_nil, ite_self, List.nil_append]

/-- A report whose taking keeps allocator records, store and ceiling leaves what its taking leaves. -/
theorem State.Ready.sessionReport {s u : State} {h : Handed} {rest : List Handed} (hs : s.Ready)
    (hn : s.SessionNext h rest) (hu : s.takeAtSession h (s.beforeOf h) = ⟨u, false⟩) (halloc : u.alloc = s.alloc)
    (hstore : u.store = s.store) (hfeeder : u.feeder = s.feeder) :
    exec .sessionReport s = .next { u with handed := s.handedAfterSession h rest false } := by
  change s.event s.sessionTakes = _
  rw [hn.takes, hu]
  exact hs.event halloc hstore (congrArg _ hfeeder)

/-! ### The write queue (R163) -/

/-- Record ids queued one after another, each at the tail or merged into its entry. -/
def queueIds (writes ids : List RecordId) : List RecordId :=
  ids.foldl (fun q id => if id ∈ q then q else q ++ [id]) writes

theorem Store.change_writes (st : Store) (p : Pad) (c : Content) :
    (st.change p c).writes = queueIds st.writes [⟨c.kind, p⟩] := by
  rw [Store.change, Store.enqueue, queueIds, List.foldl_cons, List.foldl_nil]
  split <;> rfl

/-- A store whose queue took records, with the head then taken for writing when no write was in progress (R163). -/
theorem Store.queued_beginWrite {a b : Store} {ids : List RecordId} (hcells : b.cells = a.cells)
    (hwriting : b.writing = a.writing) (hwrites : b.writes = queueIds a.writes ids) : a.Queued b.beginWrite ids := by
  obtain ⟨-, hbcells, -⟩ := b.beginWrite_frame
  refine ⟨hbcells.trans hcells, ?_⟩
  cases hw : a.writing with
  | some w =>
    have hself : b.beginWrite = b := Store.beginWrite_eq_self fun h => by rw [hwriting, hw] at h; cases h
    rw [hself]
    exact ⟨hwrites, hwriting.trans hw⟩
  | none =>
    change b.beginWrite.writes = (queueIds a.writes ids).tail ∧
      b.beginWrite.writing = (queueIds a.writes ids).head?.map fun id => ⟨id, b.beginWrite.image.content id⟩
    rw [← hwrites, Store.beginWrite, hwriting, hw]
    cases hb : b.writes with
    | nil => exact ⟨hb, hwriting.trans hw⟩
    | cons id rest => exact ⟨rfl, rfl⟩

end Sys2Proof.Machine
end

section
/-! PROOFS. A report on a pad without a session, and what a report that latches a fault leaves. -/

namespace Sys2Proof.Machine

/-! ### Reports without meter fields to account -/

theorem PadBody.takesAsCurrent_of_token {b : PadBody} {echo : Nat} (h : b.token = 0 ∨ echo = b.token) :
    b.takesAsCurrent echo = true := by
  obtain h | h := h <;> simp [PadBody.takesAsCurrent, h]

theorem PadBody.takesAsCurrent_of_stale {b : PadBody} {echo : Nat} (h0 : b.token ≠ 0) (h : echo ≠ b.token) :
    b.takesAsCurrent echo = false := by
  simp [PadBody.takesAsCurrent, h0, h.symm]

section NoMeter

variable {s : State} {h : Handed} {rest : List Handed} {before : Before}

theorem State.accounted_of_no_meter (hm : (s.session h.pad).body.meter = none) : s.accounted h = s := by
  rw [State.accounted, PadBody.account_of_no_meter hm]
  exact State.putBody_eq_self rfl

/-- Without meter fields a current report makes its transition on the state as it stands. -/
theorem State.takeAtSession_of_no_meter (hm : (s.session h.pad).body.meter = none)
    (hcurrent : (s.session h.pad).body.takesAsCurrent h.report.echo = true) (hstate : h.report.state ≠ .hardFault) :
    s.takeAtSession h before = ⟨s.reportTransition h.pad h.report h.lostSince, false⟩ := by
  rw [State.takeAtSession_of_transition hcurrent hstate (PadBody.tagDiffers_of_no_meter hm _)
    (PadBody.softLimit_of_no_meter hm _), State.counted, PadBody.account_of_no_meter hm,
    PadBody.countSoft_of_no_meter hm, State.putBody_eq_self rfl]

/-- A report whose taking changes one body only. -/
theorem State.Ready.sessionReport_setBody (hs : s.Ready) (hn : s.SessionNext h rest) {b : PadBody} {c : Bool}
    (hu : s.takeAtSession h (s.beforeOf h) = ⟨s.setBody h.pad b, false⟩)
    (hc : decide ((s.session h.pad).reported ≠ SessionRec.reported { s.session h.pad with body := b }) = c) :
    ∃ t : State, exec .sessionReport s = .next t ∧
      t.sessions = s.sessions.set h.pad { s.session h.pad with body := b } ∧
      t.handed = s.handedAfterSession h rest false ∧
      t.ports = (s.enterPads fun q => decide (q = h.pad) && c).ports ∧
      t = { s with sessions := t.sessions, handed := t.handed, ports := t.ports } := by
  rw [State.setBody_eq, hc] at hu
  exact ⟨_, hs.sessionReport hn hu rfl rfl rfl, rfl, rfl, rfl, rfl⟩

/-- A report whose taking changes nothing but its own transit. -/
theorem State.Ready.sessionReport_same (hs : s.Ready) (hn : s.SessionNext h rest)
    (hu : s.takeAtSession h (s.beforeOf h) = ⟨s, false⟩) :
    ∃ t : State, exec .sessionReport s = .next t ∧ t.handed = s.handedAfterSession h rest false ∧
      t = { s with handed := t.handed } :=
  ⟨_, hs.sessionReport hn hu rfl rfl rfl, rfl, rfl⟩

end NoMeter

/-! ### What a latch from a report leaves (R23, R152, R153) -/

theorem PadBody.isEligible_account (b : PadBody) (meter : Option Word16) :
    (b.account meter).isEligible = b.isEligible := by
  cases b with
  | matched phase => cases phase <;> rfl
  | _ => rfl

theorem PadBody.latched_account (b : PadBody) (meter : Option Word16) : (b.account meter).latched = b.latched := by
  cases b <;> rfl

/-- The session record that a latch from a report leaves: the pad held, and the outcome of a session that was open with what
the report brought accounted. -/
def State.recordAfterLatch (s : State) (h : Handed) : SessionRec :=
  ⟨(s.session h.pad).body.latched, (s.session h.pad).tokenSeq,
    (outcomeOf ((s.session h.pad).body.account h.report.meter) .fault s.timer.slot).or (s.session h.pad).last⟩

/-- The allocator record that a latch leaves: in the hold, and idle when the pad was ELIGIBLE. -/
def State.allocAfterLatch (s : State) (p : Pad) (holdValue : Nat) : AllocRec :=
  if (s.session p).body.isEligible then AllocRec.idle { s.allocOf p with mode := .hold holdValue 8 }
  else { s.allocOf p with mode := .hold holdValue 8 }

/-- The store that a latch leaves at the end of its event: the changed record queued, and the head taken for writing. -/
def State.storeAfterLatch (s : State) (p : Pad) (record : FaultRec) : Store :=
  if s.faultOf p = some record then s.store else (s.store.change p (.fault (some record))).beginWrite

/-- The state that a latch from a report leaves at the end of its event, with the allocator records as the end left them. -/
def State.afterLatch (s : State) (h : Handed) (handed : List Handed) (record : FaultRec) (alloc : Table 24 AllocRec) :
    State :=
  { s with
    sessions := s.sessions.set h.pad (s.recordAfterLatch h)
    alloc := alloc
    queue := if (s.session h.pad).body.isEligible then s.queue.erase h.pad else s.queue
    active := if (s.session h.pad).body.isEligible then s.active.erase h.pad else s.active
    roundRequest := s.roundRequest || ((s.session h.pad).body.isEligible && decide (h.pad ∈ s.active))
    store := s.storeAfterLatch h.pad record
    handed := handed
    ports := s.ports.enter (fun q => decide (q = h.pad) && (decide (some record ≠ s.faultOf h.pad) ||
      decide ((s.session h.pad).reported ≠ (s.recordAfterLatch h).reported))) false }

/-- A latch on the accounted state, in the terms of the state before the report. -/
theorem State.latch_accounted (s : State) (h : Handed) (cause : FaultCause) (code tag : Option Nat) (holdValue : Nat) :
    (s.accounted h).latch h.pad cause code tag holdValue =
      let record := latchedRecord (s.faultOf h.pad) cause code s.timer.slot tag
      { s.afterLatch h s.handed record (s.alloc.set h.pad (s.allocAfterLatch h.pad holdValue)) with
        store := if s.faultOf h.pad = some record then s.store else s.store.change h.pad (.fault (some record)) } := by
  have hreported : SessionRec.reported
      { s.session h.pad with body := (s.session h.pad).body.account h.report.meter } = (s.session h.pad).reported :=
    SessionRec.reported_congr (PadBody.account_name ..) (PadBody.account_token ..) (PadBody.account_tag ..)
      (PadBody.account_terms ..)
  rw [State.latch_frame]
  simp only [State.accounted, State.session_putBody_self, PadBody.latched_account, PadBody.isEligible_account, hreported]
  simp only [State.putBody, Table.set_set]
  rfl

/-- The event of a latch from a report. -/
theorem State.Ready.event_latch {s : State} (hs : s.Ready) (h : Handed) (handed : List Handed) (cause : FaultCause)
    (code tag : Option Nat) (holdValue : Nat) :
    ∃ alloc, s.event { (s.accounted h).latch h.pad cause code tag holdValue with handed := handed } =
        .next (s.afterLatch h handed (latchedRecord (s.faultOf h.pad) cause code s.timer.slot tag) alloc) ∧
      (s.allocAfterLatch h.pad holdValue).Released (alloc.get h.pad) ∧
      ∀ q, q ≠ h.pad → (s.allocOf q).Released (alloc.get q) := by
  obtain ⟨hpowered, -, hidle⟩ := hs
  rw [State.latch_accounted]
  obtain ⟨alloc, hevent, hreleased⟩ := State.event_released hpowered
    { s.afterLatch h handed (latchedRecord (s.faultOf h.pad) cause code s.timer.slot tag)
        (s.alloc.set h.pad (s.allocAfterLatch h.pad holdValue)) with
      store := if s.faultOf h.pad = some (latchedRecord (s.faultOf h.pad) cause code s.timer.slot tag) then s.store
        else s.store.change h.pad (.fault (some (latchedRecord (s.faultOf h.pad) cause code s.timer.slot tag))) }
  refine ⟨alloc, .trans hevent ?_, ?_, fun q hq => ?_⟩
  · simp only [State.afterLatch, State.storeAfterLatch]
    congr 2
    split
    · exact Store.beginWrite_eq_self hidle
    · rfl
  · have hself := hreleased h.pad
    rwa [State.allocOf, State.afterLatch, Table.get_set_self] at hself
  · have hne := hreleased q
    rwa [State.allocOf, State.afterLatch, Table.get_set_ne _ _ hq] at hne

/-- A record that was changed or not, in the image after the event. -/
theorem State.storeAfterLatch_image (s : State) (p : Pad) (record : FaultRec) :
    (s.storeAfterLatch p record).image =
      { s.store.image with fault := s.store.image.fault.set p (some record) } := by
  unfold State.storeAfterLatch
  split
  · rename_i h
    rw [← h]
    exact congrArg (fun table => { s.store.image with fault := table }) (s.store.image.fault.set_get p).symm
  · obtain ⟨himage, -, -⟩ := (s.store.change p (.fault (some record))).beginWrite_frame
    rw [himage]
    exact Store.change_image ..

theorem State.faultOf_afterLatch (s : State) (h : Handed) (handed : List Handed) (record : FaultRec)
    (alloc : Table 24 AllocRec) : (s.afterLatch h handed record alloc).faultOf h.pad = some record := by
  change (s.storeAfterLatch h.pad record).image.fault.get h.pad = some record
  rw [State.storeAfterLatch_image]
  exact Table.get_set_self ..

/-- The store is as it was, or has the changed record queued. -/
theorem State.storeAfterLatch_queued (s : State) (p : Pad) (record : FaultRec) :
    if some record = s.faultOf p then s.storeAfterLatch p record = s.store
    else s.store.Queued (s.storeAfterLatch p record) [⟨.fault, p⟩] := by
  unfold State.storeAfterLatch
  simp only [eq_comm (a := some record)]
  split
  · rfl
  · exact Store.queued_beginWrite (Store.change_cells ..) (Store.change_writing ..) (Store.change_writes ..)

/-- A release keeps the exposure mode (R79). -/
theorem AllocRec.Released.mode_eq {a b : AllocRec} (h : a.Released b) : b.mode = a.mode := by
  obtain rfl | ⟨-, rfl⟩ := h <;> rfl

/-- Settles O31: the six pad states without a session. -/
theorem reportOnVacant : Obligations.ReportOnVacant := by
  unfold Obligations.ReportOnVacant
  refine ⟨?vacant, ?hardFault, ?seen, ?clearing, ?offline, ?stays⟩
  case vacant =>
    intro h rest s hs hn hb hstate
    refine hs.sessionReport_setBody hn (b := seenOrVacant h.report.tag) ?_ ?_
    · rw [State.takeAtSession_of_no_meter (by rw [hb]; rfl) (by rw [hb]; rfl) hstate]
      simp only [State.reportTransition, hb]
    · cases h.report.tag <;> simp [SessionRec.reported, hb, seenOrVacant, PadBody.name, PadBody.token, PadBody.tag,
        PadBody.terms]
  case hardFault =>
    intro h rest s hs hn hb hstate
    obtain ⟨alloc, hevent, hself, hne⟩ := hs.event_latch h (s.handedAfterSession h rest true) .chargerHard h.report.code
      none (s.latchHoldValue h (s.beforeOf h))
    have helig : (s.session h.pad).body.isEligible = false := by rw [hb]; rfl
    have hname : (s.session h.pad).reported ≠ (s.recordAfterLatch h).reported :=
      SessionRec.reported_ne (by rw [State.recordAfterLatch, hb]; exact nofun)
    refine ⟨_, .trans ?_ hevent, State.faultOf_afterLatch .., ?_, ?_, ?_, ?_, hne, rfl, ?_, ?_⟩
    · change s.event s.sessionTakes = _
      rw [hn.takes, State.takeAtSession_of_hardFault (by rw [hb]; rfl) hstate, hb]
      rfl
    · simp only [State.afterLatch, State.recordAfterLatch, hb]
      rfl
    · rw [State.faultOf_afterLatch]
      exact s.storeAfterLatch_image ..
    · rw [State.faultOf_afterLatch]
      exact s.storeAfterLatch_queued ..
    · change (alloc.get h.pad).mode.holdFields.map (·.2) = some 8
      rw [hself.mode_eq, State.allocAfterLatch, helig]
      rfl
    · simp only [State.afterLatch, hname, ne_eq, not_false_eq_true, decide_true, Bool.or_true, Bool.and_true]
      rfl
    · simp only [State.afterLatch, helig, Bool.false_and, Bool.or_false, Bool.false_eq_true, if_false]
  case seen =>
    intro h rest s seen hs hn hb hstate
    refine hs.sessionReport_setBody hn ?_ ?_
    · rw [State.takeAtSession_of_no_meter (by rw [hb]; rfl) (by rw [hb]; rfl) hstate]
      simp only [State.reportTransition, hb]
      cases h.report.tag with
      | some t => rfl
      | none => by_cases hempty : h.report.state = .empty <;> simp only [hempty, if_true, if_false]
    · cases h.report.tag with
      | some t => simp [SessionRec.reported, hb, PadBody.name, PadBody.token, PadBody.tag, PadBody.terms, eq_comm]
      | none =>
        by_cases hempty : h.report.state = .empty <;>
          simp [SessionRec.reported, hb, hempty, PadBody.name, PadBody.token, PadBody.tag, PadBody.terms]
  case clearing =>
    intro h rest s seen hs hn hb hstate
    refine hs.sessionReport_setBody hn ?_ ?_
    · rw [State.takeAtSession_of_no_meter (by rw [hb]; rfl) (by rw [hb]; rfl) hstate]
      simp only [State.reportTransition, hb]
      cases h.report.tag with
      | some t => rfl
      | none => by_cases hempty : h.report.state = .empty <;> simp only [hempty, if_true, if_false]
    · cases h.report.tag with
      | some t => simp [SessionRec.reported, hb, PadBody.name, PadBody.token, PadBody.tag, PadBody.terms, eq_comm]
      | none =>
        by_cases hempty : h.report.state = .empty <;>
          simp [SessionRec.reported, hb, hempty, PadBody.name, PadBody.token, PadBody.tag, PadBody.terms]
  case offline =>
    intro h rest s hs hn hb hlink hlost hstate
    have htakes : s.takeAtSession h (s.beforeOf h) = ⟨s.setBody h.pad (seenOrVacant h.report.tag), false⟩ := by
      rw [State.takeAtSession_of_no_meter (by rw [hb]; rfl) (by rw [hb]; rfl) hstate]
      simp only [State.reportTransition, hb, hlink, hlost, Bool.false_eq_true, or_self, if_false]
    have hname : (s.session h.pad).body.name ≠ (seenOrVacant h.report.tag).name := by
      rw [hb]
      cases h.report.tag <;> exact nofun
    obtain ⟨t, hstep, hsessions, hhanded, hports, hframe⟩ :=
      hs.sessionReport_setBody hn htakes (decide_eq_true (SessionRec.reported_ne hname))
    simp only [Bool.and_true] at hports
    exact ⟨t, hstep, hsessions, hhanded, hports, hframe⟩
  case stays =>
    intro h rest s hs hn hb hstate
    refine hs.sessionReport_same hn ?_
    obtain ⟨hb, hlost⟩ | hb | hb := hb
    · rw [State.takeAtSession_of_no_meter (by rw [hb]; rfl) (by rw [hb]; rfl) hstate]
      simp only [State.reportTransition, hb, hlost, if_true]
    all_goals
      rw [State.takeAtSession_of_no_meter (by rw [hb]; rfl) (by rw [hb]; rfl) hstate]
      simp only [State.reportTransition, hb]

end Sys2Proof.Machine
end

section
/-! PROOFS. The three latches that a report brings (R19 to R21, R23). -/

namespace Sys2Proof.Machine

/-! ### Pads off both collections -/

theorem PadBody.isEligible_iff (b : PadBody) : b.isEligible = true ↔ b.name = .eligible := by
  cases b with
  | matched phase => cases phase <;> simp [PadBody.isEligible, PadBody.name]
  | _ => simp [PadBody.isEligible, PadBody.name]

/-- Under the membership law a pad is on a collection only while ELIGIBLE (R28). -/
theorem State.MembershipLaw.not_mem {s : State} (hlaw : s.MembershipLaw) {p : Pad}
    (he : (s.session p).body.isEligible = false) : p ∉ s.queue ∧ p ∉ s.active := by
  obtain ⟨-, -, -, hmem⟩ := hlaw
  have hstate : s.padState p ≠ .eligible := fun h => by
    rw [(s.session p).body.isEligible_iff.mpr h] at he
    cases he
  exact not_or.mp fun h => hstate ((hmem p).mpr h)

/-- A latch takes the pad off both collections, whether it was on one or not. -/
theorem State.MembershipLaw.not_mem_latched {s : State} (hlaw : s.MembershipLaw) (p : Pad) :
    (p ∉ if (s.session p).body.isEligible then s.queue.erase p else s.queue) ∧
      p ∉ if (s.session p).body.isEligible then s.active.erase p else s.active := by
  cases he : (s.session p).body.isEligible with
  | true => exact hlaw.not_mem_erase p
  | false => exact hlaw.not_mem he

/-- A latch asks for a round exactly when the pad was ACTIVE (R33). -/
theorem State.MembershipLaw.isEligible_and_mem_active {s : State} (hlaw : s.MembershipLaw) (p : Pad) :
    ((s.session p).body.isEligible && decide (p ∈ s.active)) = decide (p ∈ s.active) := by
  cases he : (s.session p).body.isEligible with
  | true => rfl
  | false =>
    obtain ⟨-, hactive⟩ := hlaw.not_mem he
    simp [hactive]

/-- A latch leaves setpoint and target at 0 and the pad in the hold. -/
theorem State.IdleOffList.allocAfterLatch {s : State} (hidle : s.IdleOffList) (hlaw : s.MembershipLaw) (p : Pad)
    (holdValue : Nat) :
    (s.allocAfterLatch p holdValue).mode = .hold holdValue 8 ∧ (s.allocAfterLatch p holdValue).setpoint = 0 ∧
      (s.allocAfterLatch p holdValue).target = 0 := by
  unfold State.allocAfterLatch
  cases he : (s.session p).body.isEligible with
  | true => exact ⟨rfl, rfl, rfl⟩
  | false =>
    obtain ⟨-, hactive⟩ := hlaw.not_mem he
    obtain ⟨hsetpoint, htarget, -⟩ := hidle p hactive
    exact ⟨rfl, hsetpoint, htarget⟩

/-! ### The session record that a latch leaves -/

/-- A latched pad has no session. -/
theorem PadBody.latched_token (b : PadBody) : b.latched.token = 0 := by
  cases b <;> rfl

theorem PadBody.latched_name (b : PadBody) : b.latched.name = if b.name = .locked then .locked else .faulted := by
  cases b with
  | matched phase => cases phase <;> rfl
  | _ => rfl

/-- An open session's ending is written, with what the report brought accounted or not. -/
theorem outcomeOf_account_ending {b : PadBody} (h : b.terms.isSome = true) (meter : Option Word16) (ending : Ending)
    (slot : Word16) : (outcomeOf (b.account meter) ending slot).map (·.ending) = some ending := by
  cases b <;> first | rfl | cases h

theorem outcomeOf_account_of_no_terms {b : PadBody} (h : b.terms = none) (meter : Option Word16) (ending : Ending)
    (slot : Word16) : outcomeOf (b.account meter) ending slot = none := by
  cases b <;> first | rfl | cases h

/-! ### What a latch from a report leaves -/

/-- What a report leaves that latched the fault record `record`, as LatchingReports says of each of the three latches. -/
def State.LatchLeaves (s : State) (h : Handed) (rest : List Handed) (record : FaultRec) (t : State) : Prop :=
  t.faultOf h.pad = some record ∧
  t.padState h.pad = (if s.padState h.pad = .locked then .locked else .faulted) ∧
  (t.session h.pad).body.token = 0 ∧
  ((s.session h.pad).body.terms.isSome = true → (t.session h.pad).last.map (·.ending) = some .fault) ∧
  ((s.session h.pad).body.terms = none → (t.session h.pad).last = (s.session h.pad).last) ∧
  (∀ q, q ≠ h.pad → t.session q = s.session q ∧ (s.allocOf q).Released (t.allocOf q)) ∧
  (t.allocOf h.pad).mode = .hold (s.latchHoldValue h (s.beforeOf h)) 8 ∧
  (t.allocOf h.pad).setpoint = 0 ∧
  (t.allocOf h.pad).target = 0 ∧
  h.pad ∉ t.queue ∧
  h.pad ∉ t.active ∧
  t.store.image = { s.store.image with fault := s.store.image.fault.set h.pad (t.faultOf h.pad) } ∧
  (if t.faultOf h.pad = s.faultOf h.pad then t.store = s.store else s.store.Queued t.store [⟨.fault, h.pad⟩]) ∧
  t.ports = (s.enterPads fun q => decide (q = h.pad) && (decide (t.faultOf h.pad ≠ s.faultOf h.pad) ||
    decide ((s.session h.pad).reported ≠ (t.session h.pad).reported))).ports ∧
  t.handed = s.handedAfterSession h rest true ∧
  t.roundRequest = (s.roundRequest || decide (h.pad ∈ s.active)) ∧
  t = { s with
        sessions := t.sessions, alloc := t.alloc, queue := t.queue, active := t.active, roundRequest := t.roundRequest,
        handed := t.handed, ports := t.ports, store := t.store }

variable {s : State} {h : Handed} {rest : List Handed}

theorem State.afterLatch_leaves (hlaw : s.MembershipLaw) (hidle : s.IdleOffList) {record : FaultRec}
    {alloc : Table 24 AllocRec}
    (hself : (s.allocAfterLatch h.pad (s.latchHoldValue h (s.beforeOf h))).Released (alloc.get h.pad))
    (hne : ∀ q, q ≠ h.pad → (s.allocOf q).Released (alloc.get q)) :
    s.LatchLeaves h rest record (s.afterLatch h (s.handedAfterSession h rest true) record alloc) := by
  have hsession : (s.afterLatch h (s.handedAfterSession h rest true) record alloc).session h.pad =
      s.recordAfterLatch h := Table.get_set_self ..
  obtain ⟨hmode, hsetpoint, htarget⟩ := hidle.allocAfterLatch hlaw h.pad (s.latchHoldValue h (s.beforeOf h))
  have hkept : alloc.get h.pad = s.allocAfterLatch h.pad (s.latchHoldValue h (s.beforeOf h)) :=
    hself.eq (by rw [htarget]; exact Nat.zero_le _)
  obtain ⟨hqueue, hactive⟩ := hlaw.not_mem_latched h.pad
  unfold State.LatchLeaves
  rw [State.faultOf_afterLatch, State.padState, hsession]
  refine ⟨rfl, PadBody.latched_name _, PadBody.latched_token _, fun hopen => ?_, fun hnone => ?_,
    fun q hq => ⟨Table.get_set_ne _ _ hq, hne q hq⟩, .trans (congrArg _ hkept) hmode, .trans (congrArg _ hkept) hsetpoint,
    .trans (congrArg _ hkept) htarget, hqueue, hactive, s.storeAfterLatch_image .., s.storeAfterLatch_queued .., rfl, rfl,
    ?_, rfl⟩
  · have hending := outcomeOf_account_ending hopen h.report.meter .fault s.timer.slot
    rw [State.recordAfterLatch]
    cases ho : outcomeOf ((s.session h.pad).body.account h.report.meter) .fault s.timer.slot with
    | none => rw [ho] at hending; cases hending
    | some o => rw [ho] at hending; exact hending
  · rw [State.recordAfterLatch, outcomeOf_account_of_no_terms hnone]
    rfl
  · simp only [State.afterLatch, hlaw.isEligible_and_mem_active]

/-- A report that latches at the session controller. -/
theorem State.Ready.sessionReport_latch (hs : s.Ready) (hn : s.SessionNext h rest) (hlaw : s.MembershipLaw)
    (hidle : s.IdleOffList) {cause : FaultCause} {code tag : Option Nat}
    (hu : s.takeAtSession h (s.beforeOf h) =
      ⟨(s.accounted h).latch h.pad cause code tag (s.latchHoldValue h (s.beforeOf h)), true⟩) :
    ∃ t, exec .sessionReport s = .next t ∧
      s.LatchLeaves h rest (latchedRecord (s.faultOf h.pad) cause code s.timer.slot tag) t := by
  obtain ⟨alloc, hevent, hself, hne⟩ := hs.event_latch h (s.handedAfterSession h rest true) cause code tag
    (s.latchHoldValue h (s.beforeOf h))
  refine ⟨_, .trans ?_ hevent, State.afterLatch_leaves hlaw hidle hself hne⟩
  change s.event s.sessionTakes = _
  rw [hn.takes, hu]

/-- SOFT_PERSIST_LATCH is the taking of the report that is due for it. -/
theorem State.SessionNext.softPersistLatch (hn : s.SessionNext h rest) (hdue : s.softPersistDue h = true) :
    exec .softPersistLatch s = exec .sessionReport s := by
  obtain ⟨hhanded, hby, -⟩ := hn
  change execSoftPersistLatch s = execSessionReport s
  simp only [execSoftPersistLatch, execSessionReport, hhanded, firstUntaken, hby, Bool.false_eq_true, if_false, hdue,
    if_true]

/-- A latching report behind an earlier one of its pad, which the allocator has still to take (notes/assumptions/12.md). -/
theorem State.sessionTakes_behind {g : Handed} (hhanded : s.handed = g :: h :: rest) (hpad : g.pad = h.pad)
    (hg : g.bySession = true) (hh : h.bySession = false) (hnon : h.noncompliant = false)
    (hlatched : (s.takeAtSession h (s.beforeOf h)).latched = true) :
    s.sessionTakes.handed = { g with heldSince := true } :: s.handedAfterSession h rest true := by
  simp [State.sessionTakes, hhanded, firstUntaken, hg, hh, hnon, hlatched, Handed.startHold, hpad,
    State.handedAfterSession]

/-- Settles O35: each latch by the step of R6 that makes it. -/
theorem latchingReports : Obligations.LatchingReports := by
  unfold Obligations.LatchingReports
  refine ⟨?chargerHard, ?tagChange, ?softPersist, ?behind⟩
  case chargerHard =>
    intro h rest s hs hn hlaw hidle hstate hecho
    exact hs.sessionReport_latch hn hlaw hidle
      (State.takeAtSession_of_hardFault (PadBody.takesAsCurrent_of_token hecho) hstate)
  case tagChange =>
    intro h rest s phase token tag other terms m hs hn hlaw hidle hb hecho hstate htag hother
    have hcurrent : (s.session h.pad).body.takesAsCurrent h.report.echo = true :=
      PadBody.takesAsCurrent_of_token (.inr (by rw [hb]; exact hecho))
    have hdiffers : (s.session h.pad).body.tagDiffers h.report.tag = true := by
      rw [hb, htag]
      exact decide_eq_true hother
    have hu := State.takeAtSession_of_tagDiffers (before := s.beforeOf h) hcurrent hstate hdiffers
    rw [htag] at hu
    exact hs.sessionReport_latch hn hlaw hidle hu
  case softPersist =>
    intro h rest s phase token tag terms m hs hn hlaw hidle hb hecho hstate htag hrun
    have hcurrent : (s.session h.pad).body.takesAsCurrent h.report.echo = true :=
      PadBody.takesAsCurrent_of_token (.inr (by rw [hb]; exact hecho))
    have hhard : h.report.state ≠ .hardFault := by rw [hstate]; exact nofun
    have hdiffers : (s.session h.pad).body.tagDiffers h.report.tag = false := by rw [hb, htag]; rfl
    have hsoft : (s.session h.pad).body.softLimit h.report.state = true := by
      rw [hb, hstate]
      simp only [PadBody.softLimit, decide_true, Bool.true_and, decide_eq_true_eq]
      omega
    have hdue : s.softPersistDue h = true := by
      simp [State.softPersistDue, hcurrent, hhard, hdiffers, hsoft]
    have hu := State.takeAtSession_of_softLimit (before := s.beforeOf h) hcurrent hhard hdiffers hsoft
    rw [show (s.session h.pad).body.tag = some tag by rw [hb]; rfl] at hu
    obtain ⟨t, hstep, hleaves⟩ := hs.sessionReport_latch hn hlaw hidle hu
    exact ⟨t, (hn.softPersistLatch hdue).trans hstep, hstep, hleaves⟩
  case behind =>
    intro g h rest s hs hhanded hpad hg hh hnon hstate hecho
    have hlatched : (s.takeAtSession h (s.beforeOf h)).latched = true := by
      rw [State.takeAtSession_of_hardFault (PadBody.takesAsCurrent_of_token hecho) hstate]
    obtain ⟨hpowered, -, -⟩ := hs
    obtain ⟨alloc, hevent, -⟩ := State.event_released hpowered s.sessionTakes
    exact ⟨_, hevent, State.sessionTakes_behind hhanded hpad hg hh hnon hlatched⟩

end Sys2Proof.Machine
end

section
/-! PROOFS. Reports that settle a bind, that a matched session accounts, and that top it, end it or keep it (R10, R14, R15,
R18, R20). -/

namespace Sys2Proof.Machine

/-! ### A bind settled (R10) -/

/-- Settles O32: the pad has no meter fields yet, so the report is its transition alone. -/
theorem reportSettlesBind : Obligations.ReportSettlesBind := by
  unfold Obligations.ReportSettlesBind
  refine ⟨?settles, ?mismatch, ?stays⟩
  case settles =>
    intro h rest s token tag e terms hs hn hb hecho hstate htag
    have hhard : h.report.state ≠ .hardFault := by obtain hc | hc := hstate <;> rw [hc] <;> exact nofun
    have hu := State.takeAtSession_of_no_meter (before := s.beforeOf h) (by rw [hb]; rfl)
      (PadBody.takesAsCurrent_of_token (.inr (by rw [hb]; exact hecho))) hhard
    simp only [State.reportTransition, hb, if_pos hstate, htag, if_true] at hu
    rw [State.setBody_of_name_ne (by rw [hb]; exact nofun)] at hu
    exact ⟨_, hs.sessionReport hn hu rfl rfl rfl, rfl, rfl, rfl, rfl, rfl, rfl⟩
  case mismatch =>
    intro h rest s token tag e other terms hs hn hb hecho hstate htag hother
    have hhard : h.report.state ≠ .hardFault := by obtain hc | hc := hstate <;> rw [hc] <;> exact nofun
    have hu := State.takeAtSession_of_no_meter (before := s.beforeOf h) (by rw [hb]; rfl)
      (PadBody.takesAsCurrent_of_token (.inr (by rw [hb]; exact hecho))) hhard
    simp only [State.reportTransition, hb, if_pos hstate, htag, if_neg hother] at hu
    rw [State.closePad_of_not_eligible (by rw [hb]; rfl) (by rw [hb]; exact nofun), hb] at hu
    exact ⟨_, hs.sessionReport hn hu rfl rfl rfl, rfl, rfl, rfl, rfl⟩
  case stays =>
    intro h rest s token tag e terms hs hn hb h0 hkind
    have hmeter : (s.session h.pad).body.meter = none := by rw [hb]; rfl
    refine hs.sessionReport_same hn ?_
    by_cases hecho : h.report.echo = token
    · have hlisted := hkind.resolve_left (not_not_intro hecho)
      have hhard : h.report.state ≠ .hardFault := fun hc => by rw [hc] at hlisted; exact absurd hlisted (by decide)
      have hsettles : ¬ (h.report.state = .coupling ∨ h.report.state = .ready) := by
        rintro (hc | hc) <;> rw [hc] at hlisted <;> exact absurd hlisted (by decide)
      rw [State.takeAtSession_of_no_meter hmeter (PadBody.takesAsCurrent_of_token (.inr (by rw [hb]; exact hecho))) hhard]
      simp only [State.reportTransition, hb, if_neg hsettles]
    · rw [State.takeAtSession_of_stale (PadBody.takesAsCurrent_of_stale (by rw [hb]; exact h0) (by rw [hb]; exact hecho)),
        State.accounted_of_no_meter hmeter]

/-! ### The transition of a matched session (R15, R18, R20) -/

/-- The meter fields once a current report is accounted and its soft fault counted (R14, R21). -/
def Meter.counted (m : Meter) (r : Report) : Meter :=
  { m.account r.meter with softRun := if r.state = .softFault then m.softRun + 1 else 0 }

/-- The meter fields of a record that stays open, or the outcome of one that ended, are those of `m` (R14, R22). -/
def SessionRec.Accounted (m : Meter) (r : SessionRec) : Prop :=
  (∀ m' ∈ r.body.meter, m'.delivered = m.delivered ∧ m'.ref = m.ref ∧ m'.jumps = m.jumps) ∧
    (r.body.meter = none → r.last.map (·.delivered) = some m.delivered)

theorem SessionRec.accounted_of_matched {m m' : Meter} {phase : Matched} {token tag seq : Nat} {terms : Terms}
    {last : Option LastOutcome} (hd : m'.delivered = m.delivered) (hr : m'.ref = m.ref) (hj : m'.jumps = m.jumps) :
    SessionRec.Accounted m ⟨.matched phase token tag terms m', seq, last⟩ :=
  ⟨fun _ h => (by cases h; exact ⟨hd, hr, hj⟩), nofun⟩

theorem SessionRec.accounted_of_ended {m : Meter} {b : PadBody} {seq : Nat} {last : LastOutcome}
    (hb : b.meter = none) (hd : last.delivered = m.delivered) : SessionRec.Accounted m ⟨b, seq, some last⟩ :=
  ⟨fun _ h => (by rw [hb] at h; cases h), fun _ => congrArg some hd⟩

section Matched

variable {s : State} {h : Handed} {rest : List Handed} {phase : Matched} {token tag : Nat} {terms : Terms} {m : Meter}

/-- A matched session that ends leaves the delivered energy in its outcome. -/
theorem State.accounted_closePad {p : Pad} (hb : (s.session p).body = .matched phase token tag terms m) {b : PadBody}
    (hclosed : b.meter = none) (ending : Ending) : SessionRec.Accounted m ((s.closePad p ending b).session p) := by
  rw [State.session_closePad_self, hb]
  exact SessionRec.accounted_of_ended hclosed rfl

/-- Whatever a matched session's transition is, the accounted fields stay with the session or go into its outcome. -/
theorem State.accounted_reportTransition {p : Pad} (hb : (s.session p).body = .matched phase token tag terms m)
    (r : Report) (lostSince : Bool) : SessionRec.Accounted m ((s.reportTransition p r lostSince).session p) := by
  have hstays : SessionRec.Accounted m (s.session p) := by
    rw [show s.session p = ⟨.matched phase token tag terms m, (s.session p).tokenSeq, (s.session p).last⟩ by rw [← hb]]
    exact SessionRec.accounted_of_matched rfl rfl rfl
  cases phase with
  | eligible =>
    simp only [State.reportTransition, hb]
    split
    · exact State.accounted_closePad hb rfl _
    · split
      · rw [State.leaveEligibility_setBody]
        rw [State.session, Table.get_set_self]
        exact SessionRec.accounted_of_matched rfl rfl rfl
      · exact hstays
  | topped =>
    simp only [State.reportTransition, hb]
    split
    · exact State.accounted_closePad hb rfl _
    · exact hstays
  | releasing =>
    simp only [State.reportTransition, hb]
    split
    · exact State.accounted_closePad hb rfl _
    · split
      · exact State.accounted_closePad hb rfl _
      · exact hstays

/-- A matched session counted: the meter fields alone change. -/
theorem State.counted_of_matched (hb : (s.session h.pad).body = .matched phase token tag terms m) :
    s.counted h = s.putBody h.pad (.matched phase token tag terms (m.counted h.report)) := by
  simp only [State.counted, hb, PadBody.account, PadBody.countSoft, Meter.account_softRun, Meter.counted]

/-- The record that a latch leaves of a matched session holds the accounted energy in its outcome. -/
theorem State.accounted_latch (hb : (s.session h.pad).body = .matched phase token tag terms m) (cause : FaultCause)
    (code found : Option Nat) (holdValue : Nat) :
    SessionRec.Accounted (m.account h.report.meter)
      (((s.accounted h).latch h.pad cause code found holdValue).session h.pad) := by
  rw [State.latch_accounted, State.session]
  simp only [State.afterLatch, Table.get_set_self, State.recordAfterLatch, hb]
  exact SessionRec.accounted_of_ended rfl rfl

/-- Every report taken on a matched session is accounted, whichever way R6 goes. -/
theorem State.accounted_takeAtSession (hb : (s.session h.pad).body = .matched phase token tag terms m)
    (before : Before) :
    SessionRec.Accounted (m.account h.report.meter) ((s.takeAtSession h before).state.session h.pad) := by
  cases hcurrent : (s.session h.pad).body.takesAsCurrent h.report.echo with
  | false =>
    rw [State.takeAtSession_of_stale hcurrent, State.accounted, State.session_putBody_self, hb]
    exact SessionRec.accounted_of_matched rfl rfl rfl
  | true =>
    by_cases hstate : h.report.state = .hardFault
    · rw [State.takeAtSession_of_hardFault hcurrent hstate]
      exact State.accounted_latch hb ..
    cases htag : (s.session h.pad).body.tagDiffers h.report.tag with
    | true =>
      rw [State.takeAtSession_of_tagDiffers hcurrent hstate htag]
      exact State.accounted_latch hb ..
    | false =>
      cases hsoft : (s.session h.pad).body.softLimit h.report.state with
      | true =>
        rw [State.takeAtSession_of_softLimit hcurrent hstate htag hsoft]
        exact State.accounted_latch hb ..
      | false =>
        rw [State.takeAtSession_of_transition hcurrent hstate htag hsoft, State.counted_of_matched hb]
        exact State.accounted_reportTransition (m := m.counted h.report)
          (by rw [State.session_putBody_self]) h.report h.lostSince

end Matched

/-- Settles O33: the meter step by its cases, and every taking by `State.accounted_takeAtSession`. -/
theorem energyAccounting : Obligations.EnergyAccounting := by
  unfold Obligations.EnergyAccounting
  refine ⟨?first, ?adds, ?jumps, fun _ => rfl, ?taken, ?stale⟩
  case first =>
    intro m v hr
    simp only [Meter.account, hr]
  case adds =>
    intro m u v hr hd
    simp only [Meter.account, hr, if_pos hd]
  case jumps =>
    intro m u v hr hd
    simp only [Meter.account, hr, if_neg (Nat.not_le.mpr hd)]
  case taken =>
    intro h rest s phase token tag terms m hs hn hb
    obtain ⟨hpowered, -, -⟩ := hs
    obtain ⟨alloc, hevent, -⟩ := State.event_released hpowered s.sessionTakes
    refine ⟨_, hevent, ?_⟩
    rw [hn.takes]
    exact State.accounted_takeAtSession hb (s.beforeOf h)
  case stale =>
    intro h rest s phase token tag terms m hs hn hb h0 hecho
    have hu := State.takeAtSession_of_stale (before := s.beforeOf h)
      (PadBody.takesAsCurrent_of_stale (by rw [hb]; exact h0) (by rw [hb]; exact hecho))
    refine ⟨_, hs.sessionReport hn hu rfl rfl rfl, ?_, rfl, rfl⟩
    simp only [State.accounted, State.putBody, hb, PadBody.account]

end Sys2Proof.Machine
end

section
/-! PROOFS. A matched session's current report that latches nothing: it tops, ends or stays (R15, R18, R20, R33). -/

namespace Sys2Proof.Machine

/-- Closing an ELIGIBLE pad writes the outcome, enters the pad into the change sets and leaves eligibility (R22, R33). -/
theorem State.closePad_of_eligible {s : State} {p : Pad} {ending : Ending} {b : PadBody}
    (he : (s.session p).body.isEligible = true) (h : (s.session p).body.name ≠ b.name) :
    s.closePad p ending b =
      { s.enterPad p with
        sessions := s.sessions.set p
          ⟨b, (s.session p).tokenSeq, (outcomeOf (s.session p).body ending s.timer.slot).or (s.session p).last⟩
        alloc := s.alloc.set p (s.allocOf p).idle
        queue := s.queue.erase p
        active := s.active.erase p
        roundRequest := s.roundRequest || decide (p ∈ s.active) } := by
  rw [State.closePad_eq]
  have hne := SessionRec.reported_ne (r := s.session p)
    (r' := ⟨b, (s.session p).tokenSeq, (outcomeOf (s.session p).body ending s.timer.slot).or (s.session p).last⟩) h
  simp only [he, hne, if_true, Bool.true_and, ne_eq, not_false_eq_true, decide_true, Bool.and_true]
  rfl

section Matched

variable {s : State} {h : Handed} {rest : List Handed} {phase : Matched} {token tag : Nat} {terms : Terms} {m : Meter}

/-- The session record of the pad with its meter fields counted. -/
def State.countedSession (s : State) (h : Handed) (phase : Matched) (token tag : Nat) (terms : Terms) (m : Meter) :
    State :=
  s.putBody h.pad (.matched phase token tag terms (m.counted h.report))

/-- A current report of a matched session that latches nothing makes its transition on the counted session. -/
theorem State.takeAtSession_of_matched (hb : (s.session h.pad).body = .matched phase token tag terms m)
    (hecho : h.report.echo = token) (hstate : h.report.state ≠ .hardFault)
    (htag : h.report.tag = none ∨ h.report.tag = some tag) (hsoft : h.report.state = .softFault → m.softRun < 119)
    (before : Before) :
    s.takeAtSession h before =
      ⟨(s.countedSession h phase token tag terms m).reportTransition h.pad h.report h.lostSince, false⟩ := by
  have hdiffers : (s.session h.pad).body.tagDiffers h.report.tag = false := by
    rw [hb]
    obtain ht | ht := htag <;> rw [ht]
    · rfl
    · exact decide_eq_false (not_not_intro rfl)
  have hlimit : (s.session h.pad).body.softLimit h.report.state = false := by
    rw [hb]
    simp only [PadBody.softLimit, Bool.and_eq_false_imp, decide_eq_true_eq, decide_eq_false_iff_not]
    intro hc
    have := hsoft hc
    omega
  rw [State.takeAtSession_of_transition (PadBody.takesAsCurrent_of_token (.inr (by rw [hb]; exact hecho))) hstate hdiffers
    hlimit, State.counted_of_matched hb]
  rfl

theorem State.body_countedSession :
    ((s.countedSession h phase token tag terms m).session h.pad).body =
      .matched phase token tag terms (m.counted h.report) := by
  rw [State.countedSession, State.session_putBody_self]

/-- A matched session that is not ELIGIBLE ends. -/
theorem State.closePad_countedSession (hphase : phase ≠ .eligible) {ending : Ending} {b : PadBody}
    (hname : (PadBody.matched phase token tag terms (m.counted h.report)).name ≠ b.name) :
    (s.countedSession h phase token tag terms m).closePad h.pad ending b =
      { s.enterPad h.pad with
        sessions := s.sessions.set h.pad ⟨b, (s.session h.pad).tokenSeq,
          some ⟨ending, (m.account h.report.meter).delivered, tag, s.timer.slot⟩⟩ } := by
  have hnot : ((s.countedSession h phase token tag terms m).session h.pad).body.isEligible = false := by
    rw [State.body_countedSession]
    cases phase <;> first | rfl | exact absurd rfl hphase
  rw [State.closePad_of_not_eligible hnot (by rw [State.body_countedSession]; exact hname), State.body_countedSession]
  simp only [State.countedSession, State.session_putBody_self]
  simp only [State.putBody, Table.set_set]
  rfl

/-- The counted session stays. -/
theorem State.Ready.sessionReport_stays (hs : s.Ready) (hn : s.SessionNext h rest)
    (hu : s.takeAtSession h (s.beforeOf h) = ⟨s.countedSession h phase token tag terms m, false⟩) :
    ∃ t : State, exec .sessionReport s = .next t ∧
      t.sessions = s.sessions.set h.pad
        { s.session h.pad with body := .matched phase token tag terms (m.counted h.report) } ∧
      t.handed = s.handedAfterSession h rest false ∧
      t = { s with sessions := t.sessions, handed := t.handed } :=
  ⟨_, hs.sessionReport hn hu rfl rfl rfl, rfl, rfl, rfl⟩

/-- A matched session that is not ELIGIBLE has ended. -/
theorem State.Ready.sessionReport_ends (hs : s.Ready) (hn : s.SessionNext h rest) (hphase : phase ≠ .eligible)
    {ending : Ending} {b : PadBody} (hname : (PadBody.matched phase token tag terms (m.counted h.report)).name ≠ b.name)
    (hu : s.takeAtSession h (s.beforeOf h) =
      ⟨(s.countedSession h phase token tag terms m).closePad h.pad ending b, false⟩) :
    ∃ t : State, exec .sessionReport s = .next t ∧
      t.sessions = s.sessions.set h.pad ⟨b, (s.session h.pad).tokenSeq,
        some ⟨ending, (m.account h.report.meter).delivered, tag, s.timer.slot⟩⟩ ∧
      t.handed = s.handedAfterSession h rest false ∧
      t.ports = (s.enterPad h.pad).ports ∧
      t = { s with sessions := t.sessions, handed := t.handed, ports := t.ports } := by
  rw [State.closePad_countedSession hphase hname] at hu
  exact ⟨_, hs.sessionReport hn hu rfl rfl rfl, rfl, rfl, rfl, rfl⟩

/-- An ELIGIBLE session that tops or ends leaves its collection with the pad idle (R33). -/
theorem State.Ready.sessionReport_leaves (hs : s.Ready) (hn : s.SessionNext h rest) {r : SessionRec}
    (hu : s.takeAtSession h (s.beforeOf h) =
      ⟨{ s.enterPad h.pad with
          sessions := s.sessions.set h.pad r
          alloc := s.alloc.set h.pad (s.allocOf h.pad).idle
          queue := s.queue.erase h.pad
          active := s.active.erase h.pad
          roundRequest := s.roundRequest || decide (h.pad ∈ s.active) }, false⟩) :
    ∃ t : State, exec .sessionReport s = .next t ∧
      t.sessions = s.sessions.set h.pad r ∧
      t.handed = s.handedAfterSession h rest false ∧
      t.ports = (s.enterPad h.pad).ports ∧
      t.queue = s.queue.erase h.pad ∧
      t.active = s.active.erase h.pad ∧
      t.allocOf h.pad =
        { s.allocOf h.pad with target := 0, setpoint := 0, rampBase := 0, starvation := 0, paused := false } ∧
      (∀ q, q ≠ h.pad → (s.allocOf q).Released (t.allocOf q)) ∧
      t.roundRequest = (s.roundRequest || decide (h.pad ∈ s.active)) ∧
      t = { s with
            sessions := t.sessions, alloc := t.alloc, queue := t.queue, active := t.active,
            roundRequest := t.roundRequest, handed := t.handed, ports := t.ports } := by
  change ∃ t : State, s.event s.sessionTakes = .next t ∧ _
  rw [hn.takes, hu]
  exact hs.event_idled (p := h.pad) rfl rfl fun alloc hself hne => ⟨rfl, rfl, rfl, rfl, rfl, hself, hne, rfl, rfl⟩

/-- An ELIGIBLE session ends. -/
theorem State.closePad_countedSession_eligible {ending : Ending} {b : PadBody} (hname : PadStateName.eligible ≠ b.name) :
    (s.countedSession h .eligible token tag terms m).closePad h.pad ending b =
      { s.enterPad h.pad with
        sessions := s.sessions.set h.pad ⟨b, (s.session h.pad).tokenSeq,
          some ⟨ending, (m.account h.report.meter).delivered, tag, s.timer.slot⟩⟩
        alloc := s.alloc.set h.pad (s.allocOf h.pad).idle
        queue := s.queue.erase h.pad
        active := s.active.erase h.pad
        roundRequest := s.roundRequest || decide (h.pad ∈ s.active) } := by
  rw [State.closePad_of_eligible (by rw [State.body_countedSession]; rfl)
    (by rw [State.body_countedSession]; exact hname), State.body_countedSession]
  simp only [State.countedSession, State.session_putBody_self]
  simp only [State.putBody, Table.set_set]
  rfl

/-- An ELIGIBLE session tops. -/
theorem State.topped_countedSession :
    ((s.countedSession h .eligible token tag terms m).leaveEligibility h.pad).setBody h.pad
        (.matched .topped token tag terms (m.counted h.report)) =
      { s.enterPad h.pad with
        sessions := s.sessions.set h.pad
          { s.session h.pad with body := .matched .topped token tag terms (m.counted h.report) }
        alloc := s.alloc.set h.pad (s.allocOf h.pad).idle
        queue := s.queue.erase h.pad
        active := s.active.erase h.pad
        roundRequest := s.roundRequest || decide (h.pad ∈ s.active) } := by
  have hne : ((s.countedSession h .eligible token tag terms m).session h.pad).reported ≠ SessionRec.reported
      { (s.countedSession h .eligible token tag terms m).session h.pad with
        body := .matched .topped token tag terms (m.counted h.report) } :=
    SessionRec.reported_ne (by rw [State.body_countedSession]; exact nofun)
  rw [State.leaveEligibility_setBody]
  simp only [hne, ne_eq, not_false_eq_true, decide_true, Bool.and_true]
  simp only [State.countedSession, State.session_putBody_self]
  simp only [State.putBody, Table.set_set]
  rfl

end Matched

/-- Settles O34: the transition of step 5 of R6, by the phase of the session and the state reported. -/
theorem sessionEndsOrTops : Obligations.SessionEndsOrTops := by
  unfold Obligations.SessionEndsOrTops
  refine ⟨?departs, ?tops, ?stays, ?toppedDeparts, ?toppedStays, ?released, ?clearing, ?releasing⟩
  case departs =>
    intro h rest s token tag terms m hs hn _ hb hecho hstate htag hsoft hempty
    have hu := State.takeAtSession_of_matched hb hecho hstate htag hsoft (s.beforeOf h)
    simp only [State.reportTransition, State.body_countedSession, if_pos hempty] at hu
    rw [State.closePad_countedSession_eligible (by exact nofun)] at hu
    exact hs.sessionReport_leaves hn hu
  case tops =>
    intro h rest s token tag terms m hs hn _ hb hecho hstate htag hsoft hempty htarget
    have hu := State.takeAtSession_of_matched hb hecho hstate htag hsoft (s.beforeOf h)
    have hreached : terms.target ≤ (m.counted h.report).delivered := htarget
    simp only [State.reportTransition, State.body_countedSession, if_neg hempty, if_pos hreached] at hu
    rw [State.topped_countedSession] at hu
    exact hs.sessionReport_leaves hn hu
  case stays =>
    intro h rest s token tag terms m hs hn _ hb hecho hstate htag hsoft hempty htarget
    have hu := State.takeAtSession_of_matched hb hecho hstate htag hsoft (s.beforeOf h)
    have hshort : ¬ terms.target ≤ (m.counted h.report).delivered := Nat.not_le.mpr htarget
    simp only [State.reportTransition, State.body_countedSession, if_neg hempty, if_neg hshort] at hu
    exact hs.sessionReport_stays hn hu
  case toppedDeparts =>
    intro h rest s token tag terms m hs hn _ hb hecho hstate htag hsoft hempty
    have hu := State.takeAtSession_of_matched hb hecho hstate htag hsoft (s.beforeOf h)
    simp only [State.reportTransition, State.body_countedSession, if_pos hempty] at hu
    exact hs.sessionReport_ends hn (by exact nofun) (by exact nofun) hu
  case toppedStays =>
    intro h rest s token tag terms m hs hn _ hb hecho hstate htag hsoft hempty
    have hu := State.takeAtSession_of_matched hb hecho hstate htag hsoft (s.beforeOf h)
    simp only [State.reportTransition, State.body_countedSession, if_neg hempty] at hu
    exact hs.sessionReport_stays hn hu
  case released =>
    intro h rest s token tag terms m hs hn _ hb hecho hstate htag hsoft hempty
    have hu := State.takeAtSession_of_matched hb hecho hstate htag hsoft (s.beforeOf h)
    simp only [State.reportTransition, State.body_countedSession, if_pos hempty] at hu
    exact hs.sessionReport_ends hn (by exact nofun) (by exact nofun) hu
  case clearing =>
    intro h rest s token tag terms m hs hn _ hb hecho hstate htag hsoft hempty hdelivering hlow
    have hu := State.takeAtSession_of_matched hb hecho hstate htag hsoft (s.beforeOf h)
    simp only [State.reportTransition, State.body_countedSession, if_neg hempty] at hu
    rw [if_pos ⟨hdelivering, hstate, hlow⟩] at hu
    exact hs.sessionReport_ends hn (by exact nofun) (by exact nofun) hu
  case releasing =>
    intro h rest s token tag terms m hs hn _ hb hecho hstate htag hsoft hempty hgoing
    have hu := State.takeAtSession_of_matched hb hecho hstate htag hsoft (s.beforeOf h)
    have hnot : ¬ (h.report.state ≠ .delivering ∧ h.report.state ≠ .hardFault ∧ h.report.measured ≤ 3) := by
      rintro ⟨hdelivering, -, hlow⟩
      exact hgoing.elim hdelivering (Nat.not_lt.mpr hlow)
    simp only [State.reportTransition, State.body_countedSession, if_neg hempty] at hu
    rw [if_neg hnot] at hu
    exact hs.sessionReport_stays hn hu

end Sys2Proof.Machine
end

section
/-! PROOFS. LOCK PADS (R157, R24): what the locking of a list of pads leaves, and the answer held for its writes (R164). -/

namespace Sys2Proof.Machine

/-! ### The service controller's requests (R154, R164) -/

/-- A request that the gating lets through is carried out. -/
theorem State.gated_of_take {s : State} {k : RequestKind} (h : gate s.service k = .take) (act : State → State) :
    s.gated k act = act s := by
  simp only [State.gated, h]

/-- LOCK PADS and READ FAULT are taken in CLOSED and OPEN. -/
theorem gate_of_not_opening {v : ServiceState} (h : v ≠ .opening) :
    gate v .lockPads = .take ∧ gate v .readFault = .take := by
  cases v with
  | opening => exact absurd rfl h
  | _ => exact ⟨rfl, rfl⟩

theorem State.handedRequest_of_pending {s : State} {code tag : Byte} {r : Request}
    (h : s.ports.s.pending = some ⟨code, tag, .handed r⟩) : s.handedRequest .s = some r := by
  change (match s.ports.s.pending with
    | some ⟨_, _, .handed r⟩ => some r
    | _ => none) = some r
  rw [h]

/-- The answer is held for the writes it waits for. -/
theorem State.answerAfter_of_waits {s : State} {code tag : Byte} {stage : Stage} {waits : List StoreWait}
    (hpending : s.ports.s.pending = some ⟨code, tag, stage⟩) (hwaits : waits ≠ []) (status : Status) (body : List Byte) :
    s.answerAfter .s waits status body =
      s.setPort .s { s.port .s with pending := some ⟨code, tag, .held waits status body⟩ } := by
  have hport : (s.port .s).pending = some ⟨code, tag, stage⟩ := hpending
  simp only [State.answerAfter, if_neg hwaits, hport]

theorem State.answerAfter_nil (s : State) (port : Port) (status : Status) (body : List Byte) :
    s.answerAfter port [] status body = s.answer port status body :=
  if_pos rfl

/-- A wait skips the completion of the write that was in progress. -/
theorem Store.waitFor_eq (st : Store) (id : RecordId) :
    st.waitFor id = ⟨id, decide (st.writing.map (·.id) = some id)⟩ := by
  unfold Store.waitFor
  cases st.writing <;> simp

theorem Store.eq_of_fields {a b : Store} (himage : a.image = b.image) (hcells : a.cells = b.cells)
    (hwrites : a.writes = b.writes) (hwriting : a.writing = b.writing) : a = b := by
  obtain ⟨_, _, _, _⟩ := a
  obtain ⟨_, _, _, _⟩ := b
  simp_all

theorem queueIds_append (writes ids ids' : List RecordId) :
    queueIds writes (ids ++ ids') = queueIds (queueIds writes ids) ids' :=
  List.foldl_append ..

/-! ### The event of a request that changes records -/

/-- The event of a request that changed records: its answer is made or held, a write begins if it can, and raises may be
released. -/
theorem State.Ready.event_answerAfter {s u : State} (hs : s.Ready) {ids : List RecordId}
    (hcells : u.store.cells = s.store.cells) (hwriting : u.store.writing = s.store.writing)
    (hwrites : u.store.writes = queueIds s.store.writes ids) (port : Port) (waits : List StoreWait) (status : Status)
    (body : List Byte) :
    ∃ alloc store,
      s.event (u.answerAfter port waits status body) =
        .next { u with alloc := alloc, store := store, ports := (u.answerAfter port waits status body).ports } ∧
      store.image = u.store.image ∧ s.store.Queued store ids ∧ ∀ q, (u.allocOf q).Released (alloc.get q) := by
  obtain ⟨hpowered, -, -⟩ := hs
  obtain ⟨himage, -, -⟩ := u.store.beginWrite_frame
  rw [State.answerAfter_frame]
  obtain ⟨alloc, hevent, hreleased⟩ :=
    State.event_released hpowered { u with ports := (u.answerAfter port waits status body).ports }
  exact ⟨alloc, u.store.beginWrite, hevent, himage, Store.queued_beginWrite hcells hwriting hwrites, hreleased⟩

/-- The ports after an answer that is held, in the terms of the state before the request. -/
theorem State.answerAfter_ports_of_waits {s u : State} {pads : Pad → Bool} {code tag : Byte} {stage : Stage}
    {waits : List StoreWait} (hports : u.ports = (s.enterPads pads).ports)
    (hpending : s.ports.s.pending = some ⟨code, tag, stage⟩) (hwaits : waits ≠ []) (status : Status) (body : List Byte) :
    (u.answerAfter .s waits status body).ports =
      ((s.enterPads pads).setPort .s
        { (s.enterPads pads).port .s with pending := some ⟨code, tag, .held waits status body⟩ }).ports := by
  have hu : u.ports.s.pending = some ⟨code, tag, stage⟩ := by rw [hports]; exact hpending
  rw [State.answerAfter_of_waits hu hwaits]
  simp only [State.setPort, State.port, hports]

/-! ### Locking a list of pads (R24) -/

/-- The session record of a pad that a LOCK PADS has locked. -/
def State.lockRecord (s : State) (p : Pad) : SessionRec :=
  ⟨.locked, (s.session p).tokenSeq, (outcomeOf (s.session p).body .lockout s.timer.slot).or (s.session p).last⟩

/-- The locking of one pad, with its whole frame. -/
theorem State.lockPad_frame (s : State) (p : Pad) :
    s.lockPad p =
      { s with
        sessions := s.sessions.set p (s.lockRecord p)
        alloc := if (s.session p).body.isEligible then s.alloc.set p (s.allocOf p).idle else s.alloc
        queue := if (s.session p).body.isEligible then s.queue.erase p else s.queue
        active := if (s.session p).body.isEligible then s.active.erase p else s.active
        roundRequest := s.roundRequest || ((s.session p).body.isEligible && decide (p ∈ s.active))
        store := s.store.change p (.lockout true)
        ports := s.ports.enter (fun q => decide (q = p)) false } := by
  unfold State.lockPad
  rw [State.closePad_eq]
  simp only [State.changeRecord, State.enterPad, State.enterPads, Ports.enter_again]
  rfl

/-- The state that the locking of the pads of a list leaves, when none of them was LOCKED. -/
def State.afterLocks (s : State) (pads : List Pad) : State :=
  { s with
    sessions := .tabulate fun p => if p ∈ pads then s.lockRecord p else s.session p
    alloc := .tabulate fun p => if p ∈ pads then (s.allocOf p).idle else s.allocOf p
    queue := s.queue.filter fun p => decide (p ∉ pads)
    active := s.active.filter fun p => decide (p ∉ pads)
    roundRequest := s.roundRequest || s.active.any fun p => decide (p ∈ pads)
    store :=
      { s.store with
        image := { s.store.image with lockout := .tabulate fun p => s.lockout p || decide (p ∈ pads) }
        writes := queueIds s.store.writes (pads.map fun p => ⟨.lockout, p⟩) }
    ports := s.ports.enter (fun p => decide (p ∈ pads)) false }

theorem State.afterLocks_nil (s : State) : s.afterLocks [] = s := by
  have hsessions : Table.tabulate (fun p => s.session p) = s.sessions := Table.ext_get fun p => Table.get_tabulate ..
  have halloc : Table.tabulate (fun p => s.allocOf p) = s.alloc := Table.ext_get fun p => Table.get_tabulate ..
  have hlockout : Table.tabulate (fun p => s.lockout p) = s.store.image.lockout :=
    Table.ext_get fun p => Table.get_tabulate ..
  have hany : (s.active.any fun p => decide (p ∈ ([] : List Pad))) = false := List.any_eq_false.mpr (by simp)
  simp only [State.afterLocks, hany]
  simp [hsessions, halloc, hlockout, queueIds]

section Step

variable {s : State} {pads : List Pad} {p : Pad}

theorem State.session_afterLocks (s : State) (pads : List Pad) (p : Pad) :
    (s.afterLocks pads).session p = if p ∈ pads then s.lockRecord p else s.session p :=
  Table.get_tabulate ..

theorem State.allocOf_afterLocks (s : State) (pads : List Pad) (p : Pad) :
    (s.afterLocks pads).allocOf p = if p ∈ pads then (s.allocOf p).idle else s.allocOf p :=
  Table.get_tabulate ..

/-- An entry removed only where it may stand is filtered out (R28). -/
theorem erase_or_absent {l : List Pad} (hl : l.Nodup) {b : Bool} (h : b = false → p ∉ l) :
    (if b then l.erase p else l) = l.filter fun q => decide (q ≠ p) := by
  cases b with
  | true => exact (hl.erase_eq_filter p).trans (List.filter_congr fun q _ => by rw [Bool.eq_iff_iff]; simp)
  | false =>
    refine (List.filter_eq_self.mpr fun q hq => decide_eq_true ?_).symm
    rintro rfl
    exact h rfl hq

/-- A collection without the pads locked before, from which one more pad is taken. -/
theorem filter_locked_step {l : List Pad} (hl : l.Nodup) {b : Bool} (h : b = false → p ∉ l) :
    (if b then (l.filter fun q => decide (q ∉ pads)).erase p else l.filter fun q => decide (q ∉ pads)) =
      l.filter fun q => decide (q ∉ pads ++ [p]) := by
  rw [erase_or_absent (hl.filter _) fun hb hmem => h hb (List.mem_of_mem_filter hmem), List.filter_filter]
  congr 1
  funext q
  simp [and_comm]

/-- A pad off the active list is idle already (R33, R39, R41, R147). -/
theorem State.IdleOffList.idle_eq (hidle : s.IdleOffList) (h : p ∉ s.active) : (s.allocOf p).idle = s.allocOf p := by
  obtain ⟨hsetpoint, htarget, hramp, hstarvation, hpaused⟩ := hidle p h
  cases ha : s.allocOf p
  simp_all [AllocRec.idle]

/-- One more pad locked. -/
theorem State.lockPad_afterLocks (hlaw : s.MembershipLaw) (hidle : s.IdleOffList) (hp : p ∉ pads) :
    (s.afterLocks pads).lockPad p = s.afterLocks (pads ++ [p]) := by
  have hoff : (s.session p).body.isEligible = false → p ∉ s.queue ∧ p ∉ s.active := hlaw.not_mem
  obtain ⟨hqueue, hactive, -, -⟩ := id hlaw
  have hsession : (s.afterLocks pads).session p = s.session p := by rw [State.session_afterLocks, if_neg hp]
  have halloc : (s.afterLocks pads).allocOf p = s.allocOf p := by rw [State.allocOf_afterLocks, if_neg hp]
  rw [State.lockPad_frame, State.lockRecord, hsession, halloc]
  unfold State.afterLocks
  congr 1
  case e_sessions =>
    refine Table.ext_get fun q => ?_
    by_cases hq : q = p
    · subst hq; simp [State.lockRecord]
    · simp [hq]
  case e_alloc =>
    refine Table.ext_get fun q => ?_
    by_cases hq : q = p
    · subst hq
      cases he : (s.session q).body.isEligible with
      | true => simp
      | false =>
        obtain ⟨-, hq⟩ := hoff he
        simp [hp, hidle.idle_eq hq]
    · split <;> simp [hq]
  case e_queue => exact filter_locked_step hqueue fun he => (hoff he).1
  case e_active => exact filter_locked_step hactive fun he => (hoff he).2
  case e_roundRequest =>
    have hmem : decide (p ∈ s.active.filter fun q => decide (q ∉ pads)) = decide (p ∈ s.active) := by simp [hp]
    change ((s.roundRequest || s.active.any fun q => decide (q ∈ pads)) || ((s.session p).body.isEligible &&
      decide (p ∈ s.active.filter fun q => decide (q ∉ pads)))) = _
    rw [hmem, hlaw.isEligible_and_mem_active, Bool.or_assoc]
    congr 1
    rw [Bool.eq_iff_iff]
    simp only [Bool.or_eq_true, List.any_eq_true, decide_eq_true_eq, List.mem_append, List.mem_singleton]
    constructor
    · rintro (⟨q, hq, hin⟩ | hq)
      · exact ⟨q, hq, .inl hin⟩
      · exact ⟨p, hq, .inr rfl⟩
    · rintro ⟨q, hq, hin | rfl⟩
      · exact .inl ⟨q, hq, hin⟩
      · exact .inr hq
  case e_store =>
    refine Store.eq_of_fields ?_ (Store.change_cells ..) ?_ (Store.change_writing ..)
    · rw [Store.change_image]
      simp only [StoreImage.put, StoreImage.mk.injEq, and_true]
      refine Table.ext_get fun q => ?_
      by_cases hq : q = p
      · subst hq; simp
      · simp [hq]
    · rw [Store.change_writes, List.map_append, queueIds_append]
      rfl
  case e_ports =>
    rw [Ports.enter_enter]
    congr 1
    funext q
    simp

theorem State.foldl_lockPad (hlaw : s.MembershipLaw) (hidle : s.IdleOffList) (hpads : pads.Nodup) :
    pads.foldl State.lockPad s = s.afterLocks pads := by
  induction pads using List.reverseRecOn with
  | nil => exact s.afterLocks_nil.symm
  | append_singleton pads p ih =>
    obtain ⟨hnodup, -, hdisjoint⟩ := List.nodup_append.mp hpads
    rw [List.foldl_append, ih hnodup, List.foldl_cons, List.foldl_nil,
      State.lockPad_afterLocks hlaw hidle fun h => hdisjoint _ h _ (List.mem_singleton_self _) rfl]

end Step

/-! ### LOCK PADS -/

/-- A pad matches a selector when it agrees with the base in each unmasked digit (R157). -/
theorem selects_iff (base mask : Byte) (p : Pad) :
    selects base mask p = true ↔
      ∀ k : Fin 5, mask.getLsbD k.val = true ∨ p.val.testBit k.val = base.getLsbD k.val := by
  simp [selects, Fin.forall_fin_succ]

theorem selectorInRange_of_outOfRange {base mask : Byte} (h : 31 < base.toNat ∨ 31 < mask.toNat) :
    selectorInRange base mask = false := by
  rw [selectorInRange, Bool.and_eq_false_iff, decide_eq_false_iff_not, decide_eq_false_iff_not]
  omega

/-- The pads that a LOCK PADS locks: those matched that are not LOCKED yet. -/
def State.newlyLocked (s : State) (base mask : Byte) : List Pad :=
  padList.filter fun p => selects base mask p && decide (s.padState p ≠ .locked)

section Locks

variable {s : State} {base mask : Byte}

theorem State.mem_newlyLocked {p : Pad} :
    p ∈ s.newlyLocked base mask ↔ selects base mask p = true ∧ s.padState p ≠ .locked := by
  simp [State.newlyLocked]

/-- A matched pad was LOCKED already or is newly locked. -/
theorem State.locked_or_mem {p : Pad} (h : selects base mask p = true) :
    (p ∉ s.newlyLocked base mask ∧ (s.session p).body = .locked) ∨ p ∈ s.newlyLocked base mask := by
  by_cases hstate : s.padState p = .locked
  · refine .inl ⟨fun hmem => (State.mem_newlyLocked.mp hmem).2 hstate, ?_⟩
    rw [State.padState] at hstate
    cases hb : (s.session p).body with
    | locked => rfl
    | matched phase => cases phase <;> rw [hb] at hstate <;> cases hstate
    | _ => rw [hb] at hstate; cases hstate
  · exact .inr (State.mem_newlyLocked.mpr ⟨h, hstate⟩)

theorem State.not_mem_of_not_selects {p : Pad} (h : selects base mask p = false) : p ∉ s.newlyLocked base mask :=
  fun hmem => by
    obtain ⟨hsel, -⟩ := State.mem_newlyLocked.mp hmem
    rw [h] at hsel
    cases hsel

/-- The session record of a matched pad after LOCK PADS, with the outcome of a session that was open (R24). -/
theorem State.session_afterLocks_selected {p : Pad} (h : selects base mask p = true) {r : SessionRec}
    (hr : r = (s.afterLocks (s.newlyLocked base mask)).session p) :
    r = { s.session p with body := .locked, last := r.last } ∧
      ((s.session p).body.terms.isSome = true → r.last = some ⟨.lockout,
        ((s.session p).body.meter.map (·.delivered)).getD 0, (s.session p).body.tag.getD 0, s.timer.slot⟩) ∧
      ((s.session p).body.terms = none → r.last = (s.session p).last) := by
  rw [State.session_afterLocks] at hr
  obtain ⟨hnot, hb⟩ | hmem := s.locked_or_mem h
  · rw [if_neg hnot] at hr
    subst hr
    exact ⟨SessionRec.eq_of_body hb, fun ht => (by rw [hb] at ht; cases ht), fun _ => rfl⟩
  · rw [if_pos hmem, State.lockRecord] at hr
    subst hr
    refine ⟨rfl, fun ht => ?_, fun ht => ?_⟩
    all_goals cases hb : (s.session p).body <;> first | rfl | (rw [hb] at ht; cases ht)

/-- The allocator record of a matched pad after LOCK PADS (R33). -/
theorem State.allocOf_afterLocks_selected (hlaw : s.MembershipLaw) (hidle : s.IdleOffList) {p : Pad}
    (h : selects base mask p = true) :
    (s.afterLocks (s.newlyLocked base mask)).allocOf p = (s.allocOf p).idle := by
  rw [State.allocOf_afterLocks]
  obtain ⟨hnot, hb⟩ | hmem := s.locked_or_mem h
  · obtain ⟨-, hactive⟩ := hlaw.not_mem (p := p) (by rw [hb]; rfl)
    rw [if_neg hnot, hidle.idle_eq hactive]
  · rw [if_pos hmem]

/-- A pad on a collection is not LOCKED, so a matched one is newly locked (R28). -/
theorem State.MembershipLaw.mem_newlyLocked_iff (hlaw : s.MembershipLaw) {p : Pad} (h : p ∈ s.queue ∨ p ∈ s.active) :
    p ∈ s.newlyLocked base mask ↔ selects base mask p = true := by
  obtain ⟨-, -, -, hmem⟩ := hlaw
  have hstate : s.padState p ≠ .locked := by rw [(hmem p).mpr h]; exact nofun
  rw [State.mem_newlyLocked]
  exact and_iff_left hstate

theorem State.MembershipLaw.filter_newlyLocked (hlaw : s.MembershipLaw) {l : List Pad}
    (hl : ∀ p ∈ l, p ∈ s.queue ∨ p ∈ s.active) :
    l.filter (fun p => decide (p ∉ s.newlyLocked base mask)) = l.filter fun p => !selects base mask p :=
  List.filter_congr fun p hp => by
    rw [Bool.eq_iff_iff, decide_eq_true_eq, hlaw.mem_newlyLocked_iff (hl p hp)]
    simp

theorem State.MembershipLaw.any_newlyLocked (hlaw : s.MembershipLaw) :
    (s.active.any fun p => decide (p ∈ s.newlyLocked base mask)) = s.active.any (selects base mask) := by
  rw [Bool.eq_iff_iff]
  simp only [List.any_eq_true, decide_eq_true_eq]
  exact exists_congr fun p => and_congr_right fun hp => hlaw.mem_newlyLocked_iff (.inr hp)

/-- The flags after LOCK PADS: those of the matched pads are set (R24). -/
theorem State.HeldStatesLaw.lockout_newlyLocked (hheld : s.HeldStatesLaw) :
    (fun p => s.lockout p || decide (p ∈ s.newlyLocked base mask)) = fun p => s.lockout p || selects base mask p := by
  funext p
  obtain ⟨hlocked, -⟩ := hheld p
  by_cases hstate : s.padState p = .locked
  · rw [hlocked.mp hstate, Bool.true_or, Bool.true_or]
  · simp [State.mem_newlyLocked, hstate]

/-- The event of a LOCK PADS that is taken. -/
theorem exec_lockPads_of_inRange (hlaw : s.MembershipLaw) (hidle : s.IdleOffList) (hservice : s.service ≠ .opening)
    (hr : s.handedRequest .s = some (.lockPads base mask)) (hb : base.toNat ≤ 31) (hm : mask.toNat ≤ 31) :
    exec .lockPads s = s.event ((s.afterLocks (s.newlyLocked base mask)).answerAfter .s
      ((s.newlyLocked base mask).map fun p => s.store.waitFor ⟨.lockout, p⟩) .ok (padSetBytes (selects base mask))) := by
  obtain ⟨hgate, -⟩ := gate_of_not_opening hservice
  have hpads : (selectedPads base mask).filter (fun p => decide (s.padState p ≠ .locked)) = s.newlyLocked base mask := by
    rw [selectedPads, List.filter_filter]
    exact List.filter_congr fun p _ => Bool.and_comm ..
  have hnodup : (s.newlyLocked base mask).Nodup := padList_nodup.filter _
  change execLockPads s = _
  simp only [execLockPads, hr, State.gated_of_take hgate, State.lockPads, selectorInRange, hb, hm, decide_true,
    Bool.and_true, if_true, hpads, State.foldl_lockPad hlaw hidle hnodup]

end Locks

/-- Settles O57: the newly locked pads folded by `State.foldl_lockPad`, the answer held for their writes. -/
theorem lockPadsTaken : Obligations.LockPadsTaken := by
  unfold Obligations.LockPadsTaken
  refine ⟨?taken, ?range⟩
  case taken =>
    intro base mask code tag news s hs hlaw hheld hidle hservice hpending hb hm hnews
    obtain rfl : news = s.newlyLocked base mask := hnews
    rw [exec_lockPads_of_inRange hlaw hidle hservice (State.handedRequest_of_pending hpending) hb hm]
    obtain ⟨alloc, store, hevent, himage, hqueued, hreleased⟩ :=
      hs.event_answerAfter (u := s.afterLocks (s.newlyLocked base mask)) rfl rfl rfl .s
        ((s.newlyLocked base mask).map fun p => s.store.waitFor ⟨.lockout, p⟩) .ok (padSetBytes (selects base mask))
    have halloc : ∀ p, selects base mask p = true → alloc.get p = (s.allocOf p).idle := fun p h => by
      have hp := hreleased p
      rw [State.allocOf_afterLocks_selected hlaw hidle h] at hp
      exact hp.eq (Nat.le_refl _)
    refine ⟨_, hevent, selects_iff base mask, fun p h => State.session_afterLocks_selected h rfl, halloc,
      hlaw.filter_newlyLocked fun p hp => .inl hp, hlaw.filter_newlyLocked fun p hp => .inr hp,
      congrArg (s.roundRequest || ·) hlaw.any_newlyLocked, fun p h => ⟨?_, ?_⟩, himage.trans ?_, hqueued,
      fun hnone => ?_, fun hsome => ?_, rfl⟩
    · exact (State.session_afterLocks ..).trans (if_neg (State.not_mem_of_not_selects h))
    · have hp := hreleased p
      rwa [State.allocOf_afterLocks, if_neg (State.not_mem_of_not_selects h)] at hp
    · exact congrArg (fun f => { s.store.image with lockout := Table.tabulate f }) hheld.lockout_newlyLocked
    · rw [hnone, List.map_nil, State.answerAfter_nil]
      exact State.answer_ports_congr (by rw [State.afterLocks_nil]) ..
    · simp only [← Store.waitFor_eq]
      exact State.answerAfter_ports_of_waits (u := s.afterLocks (s.newlyLocked base mask)) rfl hpending
        (fun hmap => hsome (List.map_eq_nil_iff.mp hmap)) ..
  case range =>
    intro base mask s hs hservice hr hout
    obtain ⟨hgate, -⟩ := gate_of_not_opening hservice
    rw [← hs.event_answer .s .range [] rfl rfl rfl]
    change execLockPads s = _
    simp only [execLockPads, hr, State.gated_of_take hgate, State.lockPads,
      selectorInRange_of_outOfRange hout, Bool.false_eq_true, if_false]

end Sys2Proof.Machine
end

section
/-! PROOFS. UNLOCK PADS, CLEAR FAULT, SET RATING and READ FAULT (R158 to R161). -/

namespace Sys2Proof.Machine

/-! ### Pads whose records are cleared -/

/-- The event of a request that changed records but no allocator record, rating or limit: no raise is released. -/
theorem State.Ready.event_answerAfter_kept {s u : State} (hs : s.Ready) (halloc : u.alloc = s.alloc)
    (hrating : u.store.image.rating = s.store.image.rating) (hfeeder : u.feeder = s.feeder) {ids : List RecordId}
    (hcells : u.store.cells = s.store.cells) (hwriting : u.store.writing = s.store.writing)
    (hwrites : u.store.writes = queueIds s.store.writes ids) (port : Port) (waits : List StoreWait) (status : Status)
    (body : List Byte) :
    ∃ store,
      s.event (u.answerAfter port waits status body) =
        .next { u with store := store, ports := (u.answerAfter port waits status body).ports } ∧
      store.image = u.store.image ∧ s.store.Queued store ids := by
  obtain ⟨hpowered, -, -⟩ := hs
  obtain ⟨himage, -, -⟩ := u.store.beginWrite_frame
  refine ⟨u.store.beginWrite, ?_, himage, Store.queued_beginWrite hcells hwriting hwrites⟩
  rw [State.answerAfter_frame, State.event_of_powered hpowered]
  exact congrArg _ (finishEvent_of_same halloc hrating (congrArg _ hfeeder))

/-- The session record of a pad that no record of the store holds any more (R3). -/
def State.freedRecord (s : State) (p : Pad) : SessionRec :=
  { s.session p with body := if (s.linkOf p).state = .lost then .offline else .vacant }

/-- A pad with both records clear takes its resolved state. -/
theorem State.resolve_frame {s : State} {p : Pad} (hl : s.lockout p = false) (hf : s.faultOf p = none) :
    (s.setBody p (s.resolvedBody p)).enterPad p =
      { s with
        sessions := s.sessions.set p (s.freedRecord p)
        ports := s.ports.enter (fun q => decide (q = p)) false } := by
  rw [State.resolvedBody_of_clear hl hf, State.setBody_eq]
  simp only [State.enterPad, State.enterPads, Ports.enter_again]
  rfl

/-- The state that the clearing of a pad's fault record leaves. -/
def State.afterClear (s : State) (p : Pad) : State :=
  { s with
    sessions := s.sessions.set p (s.freedRecord p)
    store := s.store.change p (.fault none)
    ports := s.ports.enter (fun q => decide (q = p)) false }

theorem State.clearFaultOf_frame {s : State} {p : Pad} (hl : s.lockout p = false) :
    s.clearFaultOf p = s.afterClear p := by
  have hlockout : (s.changeRecord p (.fault none)).lockout p = false := by
    rw [← hl]
    simp [State.lockout, StoreImage.put]
  have hfault : (s.changeRecord p (.fault none)).faultOf p = none := by simp [State.faultOf, StoreImage.put]
  unfold State.clearFaultOf
  rw [State.resolve_frame hlockout hfault]
  rfl

/-! ### Unlocking a list of pads (R158) -/

/-- The store with flag and fault record of a pad cleared. -/
def State.storeUnlocked (s : State) (p : Pad) : Store :=
  if (s.faultOf p).isSome then (s.store.change p (.lockout false)).change p (.fault none)
  else s.store.change p (.lockout false)

theorem State.storeUnlocked_image (s : State) (p : Pad) :
    (s.storeUnlocked p).image =
      { s.store.image with
        lockout := s.store.image.lockout.set p false
        fault := s.store.image.fault.set p none } := by
  unfold State.storeUnlocked
  split
  · simp [StoreImage.put]
  · rename_i h
    have hnone : s.store.image.fault.get p = none := Option.not_isSome_iff_eq_none.mp h
    rw [← hnone]
    simp [StoreImage.put]

theorem State.storeUnlocked_writes (s : State) (p : Pad) :
    (s.storeUnlocked p).writes = queueIds s.store.writes (s.unlockRecords p) := by
  unfold State.storeUnlocked State.unlockRecords
  split
  · rw [Store.change_writes, Store.change_writes]; rfl
  · exact Store.change_writes ..

theorem State.storeUnlocked_kept (s : State) (p : Pad) :
    (s.storeUnlocked p).cells = s.store.cells ∧ (s.storeUnlocked p).writing = s.store.writing := by
  unfold State.storeUnlocked
  split <;> simp

/-- The unlocking of one pad, with its whole frame. -/
theorem State.unlockPad_frame (s : State) (p : Pad) :
    s.unlockPad p =
      { s with
        sessions := s.sessions.set p (s.freedRecord p)
        store := s.storeUnlocked p
        ports := s.ports.enter (fun q => decide (q = p)) false } := by
  have hchanged : (if (s.faultOf p).isSome then (s.changeRecord p (.lockout false)).changeRecord p (.fault none)
      else s.changeRecord p (.lockout false)) = { s with store := s.storeUnlocked p } := by
    unfold State.storeUnlocked
    split <;> rfl
  have hlockout : ({ s with store := s.storeUnlocked p } : State).lockout p = false := by
    simp [State.lockout, State.storeUnlocked_image]
  have hfault : ({ s with store := s.storeUnlocked p } : State).faultOf p = none := by
    simp [State.faultOf, State.storeUnlocked_image]
  unfold State.unlockPad
  dsimp only
  rw [hchanged, State.resolve_frame hlockout hfault]
  rfl

/-- The state that the unlocking of the pads of a list leaves. -/
def State.afterUnlocks (s : State) (pads : List Pad) : State :=
  { s with
    sessions := .tabulate fun p => if p ∈ pads then s.freedRecord p else s.session p
    store :=
      { s.store with
        image :=
          { s.store.image with
            lockout := .tabulate fun p => s.lockout p && !decide (p ∈ pads)
            fault := .tabulate fun p => if p ∈ pads then none else s.faultOf p }
        writes := queueIds s.store.writes (pads.flatMap s.unlockRecords) }
    ports := s.ports.enter (fun p => decide (p ∈ pads)) false }

theorem State.afterUnlocks_nil (s : State) : s.afterUnlocks [] = s := by
  have hsessions : Table.tabulate (fun p => s.session p) = s.sessions := Table.ext_get fun p => Table.get_tabulate ..
  have hfault : Table.tabulate (fun p => s.faultOf p) = s.store.image.fault :=
    Table.ext_get fun p => Table.get_tabulate ..
  have hlockout : Table.tabulate (fun p => s.lockout p) = s.store.image.lockout :=
    Table.ext_get fun p => Table.get_tabulate ..
  simp [State.afterUnlocks, hsessions, hfault, hlockout, queueIds]

/-- One more pad unlocked. -/
theorem State.unlockPad_afterUnlocks {s : State} {pads : List Pad} {p : Pad} (hp : p ∉ pads) :
    (s.afterUnlocks pads).unlockPad p = s.afterUnlocks (pads ++ [p]) := by
  have hsession : (s.afterUnlocks pads).session p = s.session p := (Table.get_tabulate ..).trans (if_neg hp)
  have hfault : (s.afterUnlocks pads).faultOf p = s.faultOf p := (Table.get_tabulate ..).trans (if_neg hp)
  have hrecords : (s.afterUnlocks pads).unlockRecords p = s.unlockRecords p := by
    simp only [State.unlockRecords, hfault]
  have hfreed : (s.afterUnlocks pads).freedRecord p = s.freedRecord p := by
    rw [State.freedRecord, hsession]
    rfl
  obtain ⟨hcells, hwriting⟩ := (s.afterUnlocks pads).storeUnlocked_kept p
  have hstore : (s.afterUnlocks pads).storeUnlocked p = (s.afterUnlocks (pads ++ [p])).store := by
    refine Store.eq_of_fields ?_ hcells ?_ hwriting
    · rw [State.storeUnlocked_image]
      simp only [State.afterUnlocks, StoreImage.mk.injEq, true_and]
      refine ⟨Table.ext_get fun q => ?_, Table.ext_get fun q => ?_⟩
      all_goals
        by_cases hq : q = p
        · subst hq; simp
        · simp [hq]
    · rw [State.storeUnlocked_writes, hrecords]
      simp only [State.afterUnlocks, List.flatMap_append, List.flatMap_singleton, queueIds_append]
  rw [State.unlockPad_frame, hfreed, hstore]
  unfold State.afterUnlocks
  congr 1
  case e_sessions =>
    refine Table.ext_get fun q => ?_
    by_cases hq : q = p
    · subst hq; simp
    · simp [hq]
  case e_ports =>
    rw [Ports.enter_enter]
    congr 1
    funext q
    simp

theorem State.foldl_unlockPad (s : State) {pads : List Pad} (hpads : pads.Nodup) :
    pads.foldl State.unlockPad s = s.afterUnlocks pads := by
  induction pads using List.reverseRecOn with
  | nil => exact s.afterUnlocks_nil.symm
  | append_singleton pads p ih =>
    obtain ⟨hnodup, -, hdisjoint⟩ := List.nodup_append.mp hpads
    rw [List.foldl_append, ih hnodup, List.foldl_cons, List.foldl_nil,
      State.unlockPad_afterUnlocks fun h => hdisjoint _ h _ (List.mem_singleton_self _) rfl]

/-! ### The requests taken -/

section Requests

variable {s : State} {base mask pad : Byte} {p : Pad}

theorem gate_opened : gate .opened .unlockPads = .take ∧ gate .opened .clearFault = .take ∧
    gate .opened .setRating = .take ∧ gate .opened .readFault = .take :=
  ⟨rfl, rfl, rfl, rfl⟩

theorem exec_unlockPads_of_inRange (hservice : s.service = .opened)
    (hr : s.handedRequest .s = some (.unlockPads base mask)) (hb : base.toNat ≤ 31) (hm : mask.toNat ≤ 31)
    {free : List Pad} (hfree : free = padList.filter fun p => selects base mask p && decide (s.padState p = .locked)) :
    exec .unlockPads s = s.event ((s.afterUnlocks free).answerAfter .s
      ((free.flatMap s.unlockRecords).map s.store.waitFor) .ok (padSetBytes fun p => decide (p ∈ free))) := by
  have hgate : gate s.service .unlockPads = .take := by rw [hservice]; rfl
  have hpads : (selectedPads base mask).filter (fun p => decide (s.padState p = .locked)) = free := by
    rw [selectedPads, List.filter_filter, hfree]
    exact List.filter_congr fun p _ => Bool.and_comm ..
  have hnodup : free.Nodup := hfree ▸ padList_nodup.filter _
  change execUnlockPads s = _
  simp only [execUnlockPads, hr, State.gated_of_take hgate, State.unlockPads, selectorInRange, hb, hm, decide_true,
    Bool.and_true, if_true, hpads, State.foldl_unlockPad s hnodup]

theorem exec_clearFault_of_pad (hservice : s.service = .opened) (hr : s.handedRequest .s = some (.clearFault pad))
    (hp : pad.toNat = p.val) :
    exec .clearFault s = s.event (if s.padState p = .faulted then
      (s.clearFaultOf p).answerAfter .s [s.store.waitFor ⟨.fault, p⟩] .ok (padSetBytes fun q => decide (q = p))
      else s.answer .s .state []) := by
  have hgate : gate s.service .clearFault = .take := by rw [hservice]; rfl
  change execClearFault s = _
  simp only [execClearFault, hr, State.gated_of_take hgate, State.clearFault, padOf_of_eq hp]

theorem exec_setRating_of_pad {rating : Word16} (hservice : s.service = .opened)
    (hr : s.handedRequest .s = some (.setRating pad rating)) (hp : pad.toNat = p.val) :
    exec .setRating s = s.event (if s.padState p = .locked then
      if min rating.toNat 400 = s.rating p then
        s.answer .s .ok (padSetBytes (fun q => decide (q = p)) ++ word (min rating.toNat 400))
      else (s.changeRecord p (.rating (min rating.toNat 400))).answerAfter .s [s.store.waitFor ⟨.rating, p⟩] .ok
        (padSetBytes (fun q => decide (q = p)) ++ word (min rating.toNat 400))
      else s.answer .s .state []) := by
  have hgate : gate s.service .setRating = .take := by rw [hservice]; rfl
  change execSetRating s = _
  simp only [execSetRating, hr, State.gated_of_take hgate, State.setRating, padOf_of_eq hp]

theorem exec_readFault_of_pad (hs : s.Ready) (hservice : s.service ≠ .opening)
    (hr : s.handedRequest .s = some (.readFault pad)) (hp : pad.toNat = p.val) :
    exec .readFault s = .next (s.answer .s .ok (s.faultBody p)) := by
  obtain ⟨-, hgate⟩ := gate_of_not_opening hservice
  rw [← hs.event_answer .s .ok _ rfl rfl rfl]
  change execReadFault s = _
  simp only [execReadFault, hr, State.gated_of_take hgate, padOf_of_eq hp]

theorem exec_readFault_of_outOfRange (hs : s.Ready) (hservice : s.service ≠ .opening)
    (hr : s.handedRequest .s = some (.readFault pad)) (hp : 24 ≤ pad.toNat) :
    exec .readFault s = .next (s.answer .s .range []) := by
  obtain ⟨-, hgate⟩ := gate_of_not_opening hservice
  rw [← hs.event_answer .s .range _ rfl rfl rfl]
  change execReadFault s = _
  simp only [execReadFault, hr, State.gated_of_take hgate, padOf_of_le hp]

end Requests

/-! ### The READ FAULT body (R161, R185) -/

/-- The six flags of the second byte stand at their bits. -/
theorem faultFlags_getLsbD : ∀ a b c d e f : Bool,
    let flags := byte (bitAt a 0 + bitAt b 1 + bitAt c 2 + bitAt d 3 + bitAt e 4 + bitAt f 5)
    flags.getLsbD 0 = a ∧ flags.getLsbD 1 = b ∧ flags.getLsbD 2 = c ∧ flags.getLsbD 3 = d ∧ flags.getLsbD 4 = e ∧
      flags.getLsbD 5 = f ∧ flags.getLsbD 6 = false ∧ flags.getLsbD 7 = false := by
  decide

theorem Store.writePending_iff (st : Store) (id : RecordId) :
    st.writePending id = true ↔ id ∈ st.writes ∨ st.writing.map (·.id) = some id := by
  unfold Store.writePending
  cases st.writing <;> simp

/-- Settles O58: each request by the state of its pads, and the READ FAULT body byte by byte. -/
theorem serviceRequestsTaken : Obligations.ServiceRequestsTaken := by
  unfold Obligations.ServiceRequestsTaken
  refine ⟨?unlock, ?clear, ?clearState, ?rate, ?rateSame, ?rateState, ?read, ?body, Store.writePending_iff, ?readRange,
    ?range⟩
  case unlock =>
    intro base mask code tag free ids s hs hservice hpending hb hm hfree hids
    rw [exec_unlockPads_of_inRange hservice (State.handedRequest_of_pending hpending) hb hm hfree]
    obtain rfl : ids = free.flatMap s.unlockRecords := hids
    obtain ⟨store, hevent, himage, hqueued⟩ := hs.event_answerAfter_kept (u := s.afterUnlocks free) rfl rfl rfl rfl rfl rfl
      .s ((free.flatMap s.unlockRecords).map s.store.waitFor) .ok (padSetBytes fun p => decide (p ∈ free))
    refine ⟨_, hevent, fun p => Table.get_tabulate .., himage, hqueued, fun hnone => ?_, fun hsome => ?_, rfl⟩
    · subst hnone
      exact State.answer_ports_congr (by rw [State.afterUnlocks_nil]) ..
    · simp only [← Store.waitFor_eq]
      refine State.answerAfter_ports_of_waits (u := s.afterUnlocks free) rfl hpending (fun hmap => ?_) ..
      obtain ⟨p, hp⟩ := List.exists_mem_of_ne_nil free hsome
      exact List.cons_ne_nil _ _ (List.flatMap_eq_nil_iff.mp (List.map_eq_nil_iff.mp hmap) p hp)
  case clear =>
    intro pad code tag p s hs hheld hservice hpending hp hstate
    obtain ⟨-, hfaulted⟩ := hheld p
    obtain ⟨hlockout, -⟩ := hfaulted.mp hstate
    rw [exec_clearFault_of_pad hservice (State.handedRequest_of_pending hpending) hp, if_pos hstate,
      State.clearFaultOf_frame hlockout]
    have hrating : (s.afterClear p).store.image.rating = s.store.image.rating := by
      simp [State.afterClear, StoreImage.put]
    obtain ⟨store, hevent, himage, hqueued⟩ := hs.event_answerAfter_kept (u := s.afterClear p) rfl hrating rfl
      (Store.change_cells ..) (Store.change_writing ..) (Store.change_writes ..) .s [s.store.waitFor ⟨.fault, p⟩] .ok
      (padSetBytes fun q => decide (q = p))
    refine ⟨_, hevent, rfl, himage.trans (Store.change_image ..), hqueued, ?_, rfl⟩
    simp only [← Store.waitFor_eq]
    exact State.answerAfter_ports_of_waits (u := s.afterClear p) rfl hpending (List.cons_ne_nil _ _) ..
  case clearState =>
    intro pad p s hs hservice hr hp hstate
    rw [exec_clearFault_of_pad hservice hr hp, if_neg hstate]
    exact hs.event_answer .s .state _ rfl rfl rfl
  case rate =>
    intro pad code tag rating p s hs hservice hpending hp hstate hne
    rw [exec_setRating_of_pad hservice (State.handedRequest_of_pending hpending) hp, if_pos hstate, if_neg hne]
    obtain ⟨alloc, store, hevent, himage, hqueued, hreleased⟩ :=
      hs.event_answerAfter (u := s.changeRecord p (.rating (min rating.toNat 400))) (Store.change_cells ..)
        (Store.change_writing ..) (Store.change_writes ..) .s [s.store.waitFor ⟨.rating, p⟩] .ok
        (padSetBytes (fun q => decide (q = p)) ++ word (min rating.toNat 400))
    refine ⟨_, hevent, himage.trans (Store.change_image ..), hqueued, ?_, hreleased, rfl⟩
    simp only [← Store.waitFor_eq]
    rw [State.answerAfter_of_waits (s := s.changeRecord p (.rating (min rating.toNat 400))) hpending
      (List.cons_ne_nil _ _)]
    rfl
  case rateSame =>
    intro pad rating p s hs hservice hr hp hstate heq
    rw [exec_setRating_of_pad hservice hr hp, if_pos hstate, if_pos heq]
    exact hs.event_answer .s .ok _ rfl rfl rfl
  case rateState =>
    intro pad rating p s hs hservice hr hp hstate
    rw [exec_setRating_of_pad hservice hr hp, if_neg hstate]
    exact hs.event_answer .s .state _ rfl rfl rfl
  case read => exact fun pad p s hs hservice hr hp => exec_readFault_of_pad hs hservice hr hp
  case body =>
    intro p s
    refine ⟨rfl, rfl, fun flags hflags => ?_, ?_, ?_⟩
    · obtain rfl := Option.some.inj hflags
      exact faultFlags_getLsbD ..
    · change [((s.faultOf p).map (·.cause.code)).getD 0x00#8, optByte ((s.faultOf p).bind (·.code))] = _
      cases s.faultOf p with
      | none => rfl
      | some f => cases f.cause <;> rfl
    · change optWord ((s.faultOf p).map (·.slot.toNat)) ++ optWord ((s.faultOf p).bind (·.tag)) ++
        [optByte ((s.faultOf p).map (·.repeats))] ++ word (s.rating p) = _
      cases s.faultOf p <;> rfl
  case readRange => exact fun pad s hs hservice hr hp => exec_readFault_of_outOfRange hs hservice hr hp
  case range =>
    intro r pad base mask rating s hs hservice hr hmem hp hout
    have hopening : s.service ≠ .opening := by rw [hservice]; exact nofun
    obtain ⟨hunlock, hclear, hrate, -⟩ := gate_opened
    rw [← hservice] at hunlock hclear hrate
    simp only [List.mem_cons, List.not_mem_nil, or_false] at hmem
    obtain rfl | rfl | rfl | rfl := hmem
    case inr.inr.inl => exact exec_readFault_of_outOfRange hs hopening hr hp
    all_goals rw [← hs.event_answer .s .range [] rfl rfl rfl]
    case inl =>
      change execClearFault s = _
      simp only [execClearFault, hr, State.gated_of_take hclear, State.clearFault, padOf_of_le hp]
    case inr.inl =>
      change execSetRating s = _
      simp only [execSetRating, hr, State.gated_of_take hrate, State.setRating, padOf_of_le hp]
    case inr.inr.inr =>
      change execUnlockPads s = _
      simp only [execUnlockPads, hr, State.gated_of_take hunlock, State.unlockPads,
        selectorInRange_of_outOfRange hout, Bool.false_eq_true, if_false]

end Sys2Proof.Machine
end

section
/-! PROOFS. The slot boundary up to its round (R90, R91): what its stages leave, field by field. -/

namespace Sys2Proof.Machine

/-! ### The shed's countdown (R109) -/

/-- The shed after a boundary: one boundary fewer to run, and none at 0. -/
def State.shedAfter (s : State) : Option Shed :=
  s.feeder.shed.bind fun shed => if shed.toRun ≤ 1 then none else some { shed with toRun := shed.toRun - 1 }

/-- Whether a boundary ends the shed. -/
def State.shedEnds (s : State) : Bool := s.feeder.shed.any fun shed => decide (shed.toRun ≤ 1)

theorem State.countShed_frame (s : State) :
    s.countShed =
      { s with
        feeder := { s.feeder with shed := s.shedAfter }
        ports := s.ports.enter (fun _ => false) s.shedEnds } := by
  unfold State.countShed State.shedAfter State.shedEnds
  cases hs : s.feeder.shed with
  | none =>
    simp only [Option.bind_none, Option.any_none, Ports.enter_none]
    rw [← hs]
  | some shed =>
    by_cases h : shed.toRun ≤ 1
    · simp only [Option.bind_some, Option.any_some, h, if_true, decide_true]
      rfl
    · simp only [Option.bind_some, Option.any_some, h, if_false, decide_false, Ports.enter_none]

/-! ### The ceiling of the new slot (R106, R113) -/

/-- The state with its ceiling formed again at a boundary, with the change sets and the STOP request. -/
theorem State.reformAtBoundary_eq (s : State) :
    s.reformAtBoundary =
      { s with
        feeder := { s.feeder with ceiling := s.formCeiling.value, cause := s.formCeiling.cause }
        ports := s.ports.enter (fun _ => false)
          (decide (s.formCeiling.value ≠ s.feeder.ceiling ∨ s.formCeiling.cause ≠ s.feeder.cause))
        link :=
          { s.link with
            stopRequest := s.link.stopRequest ||
              (decide (0 < s.feeder.ceiling) && decide (s.formCeiling.value = 0)) } } := by
  unfold State.reformAtBoundary
  split
  · rename_i h
    have hstop : (decide (0 < s.feeder.ceiling) && decide (s.feeder.ceiling = 0)) = false := by
      simp only [Bool.and_eq_false_imp, decide_eq_true_eq, decide_eq_false_iff_not]
      omega
    simp [h, hstop]
  · rename_i h
    have hchanged : s.formCeiling.value ≠ s.feeder.ceiling ∨ s.formCeiling.cause ≠ s.feeder.cause := by
      by_contra hsame
      obtain ⟨hvalue, hcause⟩ := not_or.mp hsame
      exact h (by rw [← not_not.mp hvalue, ← not_not.mp hcause])
    rw [s.setCeiling_frame, decide_eq_true hchanged]
    rfl

/-! ### The binds (R11) -/

/-- Whether a boundary ends a pad's bind. -/
def State.bindEnds (s : State) (p : Pad) : Bool := (s.session p).body.elapsed.any fun e => decide (5 ≤ e + 1)

/-- Counting a bind slot changes a reported field exactly when it ends the bind. -/
theorem SessionRec.reported_countBind (r : SessionRec) (slot : Word16) :
    decide (r.reported ≠ (r.countBind slot).reported) = r.body.elapsed.any fun e => decide (5 ≤ e + 1) := by
  unfold SessionRec.countBind
  cases hb : r.body with
  | binding token tag terms e =>
    by_cases he : 5 ≤ e + 1
    · simp only [PadBody.elapsed, Option.any_some, he, decide_true]
      exact decide_eq_true (SessionRec.reported_ne (by rw [hb]; exact nofun))
    · simp only [PadBody.elapsed, Option.any_some, he, decide_false]
      exact decide_eq_false (not_not_intro (by simp [SessionRec.reported, hb, PadBody.name, PadBody.token,
        PadBody.tag, PadBody.terms]))
  | matched phase => cases phase <;> simp [PadBody.elapsed]
  | _ => simp [PadBody.elapsed]

theorem State.countBinds_frame (s : State) :
    s.countBinds =
      { s with
        sessions := .tabulate fun p => (s.session p).countBind s.timer.slot
        ports := s.ports.enter s.bindEnds false } := by
  have hpads : (fun p => decide ((s.sessions.get p).reported ≠
      ((Table.tabulate fun p => (s.session p).countBind s.timer.slot).get p).reported)) = s.bindEnds := by
    funext p
    rw [Table.get_tabulate]
    exact SessionRec.reported_countBind ..
  unfold State.countBinds State.setSessions
  rw [hpads]

/-! ### The stages together (R91) -/

/-- The state whose terms the ceiling of the new slot is formed from. -/
def State.slotStart (s : State) : State :=
  { s with
    plan := s.plan.clearColumn (columnOf s.timer.slot)
    timer := { s.timer with slot := s.timer.slot + 1, phase := 0 }
    feeder := { s.feeder with shed := s.shedAfter } }

/-- The ceiling of the new slot. -/
def State.nextCeiling (s : State) : Term := s.slotStart.formCeiling

/-- Whether a boundary changes the ceiling or its cause. -/
def State.ceilingChanges (s : State) : Bool :=
  decide (s.nextCeiling.value ≠ s.feeder.ceiling ∨ s.nextCeiling.cause ≠ s.feeder.cause)

theorem State.boundaryStages_frame (s : State) :
    s.boundaryStages =
      { s.slotStart with
        feeder :=
          { s.slotStart.feeder with ceiling := s.nextCeiling.value, cause := s.nextCeiling.cause }
        sessions := .tabulate fun p => (s.session p).countBind (s.timer.slot + 1)
        ports := s.ports.enter s.bindEnds (s.ceilingChanges || s.shedEnds)
        link :=
          { s.link with
            stopRequest := s.link.stopRequest ||
              (decide (0 < s.feeder.ceiling) && decide (s.nextCeiling.value = 0)) } } := by
  unfold State.boundaryStages
  rw [State.countShed_frame, State.reformAtBoundary_eq, State.countBinds_frame]
  have hports : (((s.ports.enter (fun _ => false) s.shedEnds).enter (fun _ => false) s.ceilingChanges).enter s.bindEnds
      false) = s.ports.enter s.bindEnds (s.ceilingChanges || s.shedEnds) := by
    rw [Ports.enter_enter, Ports.enter_enter, Bool.or_comm s.shedEnds]
    simp
  rw [← hports]
  rfl

/-- The ceiling after the stages is the one formed from the terms as they then stand (R104, R106). -/
theorem State.boundaryStages_ceilingFormed (s : State) : s.boundaryStages.CeilingFormed := by
  rw [State.boundaryStages_frame]
  rfl

theorem State.session_boundaryStages (s : State) (p : Pad) :
    s.boundaryStages.session p = (s.session p).countBind (s.timer.slot + 1) := by
  rw [State.boundaryStages_frame]
  exact Table.get_tabulate ..

/-- An ELIGIBLE pad's session is as it was. -/
theorem State.session_boundaryStages_of_eligible {s : State} {p : Pad} (h : s.padState p = .eligible) :
    s.boundaryStages.session p = s.session p := by
  rw [State.session_boundaryStages, SessionRec.countBind]
  split
  · rename_i hb
    rw [State.padState, hb] at h
    cases h
  · rfl

end Sys2Proof.Machine
end

section
/-! PROOFS. The grants of a round (R58 to R62): no more than the budget is granted, and no session more than its reach. -/

namespace Sys2Proof.Machine

/-! ### Grants of a list -/

@[simp] theorem grantOf_nil (p : Pad) : grantOf [] p = 0 := rfl

theorem grantOf_cons (w : Pad × Nat) (gs : List (Pad × Nat)) (p : Pad) :
    grantOf (w :: gs) p = if w.1 = p then w.2 else grantOf gs p := by
  unfold grantOf
  rw [List.find?_cons]
  by_cases h : w.1 = p <;> simp [h]

/-- A grant is 0 or an entry of the list. -/
theorem grantOf_eq_zero_or_mem (gs : List (Pad × Nat)) (p : Pad) : grantOf gs p = 0 ∨ (p, grantOf gs p) ∈ gs := by
  induction gs with
  | nil => exact .inl rfl
  | cons w gs ih =>
    rw [grantOf_cons]
    split
    · rename_i h
      subst h
      exact .inr List.mem_cons_self
    · exact ih.imp_right (.tail _)

/-- In a list that names each pad once, a pad's grant is its entry. -/
theorem grantOf_of_mem {gs : List (Pad × Nat)} (hgs : (gs.map (·.1)).Nodup) {w : Pad × Nat} (h : w ∈ gs) :
    grantOf gs w.1 = w.2 := by
  induction gs with
  | nil => cases h
  | cons v gs ih =>
    obtain ⟨hv, hrest⟩ := List.nodup_cons.mp hgs
    rw [grantOf_cons]
    obtain rfl | h := List.mem_cons.mp h
    · exact if_pos rfl
    · have hne : v.1 ≠ w.1 := fun heq => hv (List.mem_map.mpr ⟨w, h, heq.symm⟩)
      rw [if_neg hne, ih hrest h]

/-- The grants of different pads come to no more than the list. -/
theorem sumOver_grantOf_le {pads : List Pad} (hpads : pads.Nodup) (gs : List (Pad × Nat)) :
    sumOver pads (grantOf gs) ≤ weightSum gs := by
  induction gs with
  | nil =>
    have hnone : sumOver pads (grantOf []) = sumOver pads fun _ => 0 := sumOver_congr fun p _ => grantOf_nil p
    rw [hnone]
    simp [sumOver]
  | cons w gs ih =>
    have hone : ∀ l : List Pad, l.Nodup → sumOver l (grantOf (w :: gs)) ≤ w.2 + sumOver l (grantOf gs) := by
      intro l hl
      induction l with
      | nil => exact Nat.zero_le _
      | cons p l ihl =>
        obtain ⟨hp, hnodup⟩ := List.nodup_cons.mp hl
        rw [sumOver_cons, sumOver_cons, grantOf_cons]
        by_cases h : w.1 = p
        · have hsame : sumOver l (grantOf (w :: gs)) = sumOver l (grantOf gs) := sumOver_congr fun q hq => by
            rw [grantOf_cons, if_neg fun hwq => hp (by rw [← h, hwq]; exact hq)]
          rw [if_pos h, hsame]
          omega
        · have := ihl hnodup
          rw [if_neg h]
          omega
    have := hone pads hpads
    rw [weightSum_cons]
    omega

/-! ### Step B: the need pass (R58) -/

theorem weightSum_portion_le_weightSum {amount : Nat} {ws : List (Pad × Nat)} :
    weightSum (portion amount ws) ≤ min amount (weightSum ws) := by
  have hamount := weightSum_portion_le amount ws
  by_cases h : weightSum ws ≤ amount
  · have hfull : portion amount ws = ws := if_pos h
    rw [hfull]
    omega
  · omega

theorem State.weightSum_needPass_le (s : State) (ks : List Class) (balance : Nat) :
    weightSum (s.needPass ks balance) ≤ balance := by
  induction ks generalizing balance with
  | nil => exact Nat.zero_le _
  | cons k ks ih =>
    rw [State.needPass, weightSum_append]
    have hportion := weightSum_portion_le_weightSum (amount := balance)
      (ws := (s.activePads.filter fun p => decide (s.classOf p = k)).map fun p => (p, s.demandOf p))
    have hrest := ih (balance - weightSum
      ((s.activePads.filter fun p => decide (s.classOf p = k)).map fun p => (p, s.demandOf p)))
    omega

/-- The need pass names the active pads of its classes, in ascending class and pad number. -/
theorem State.map_fst_needPass (s : State) (ks : List Class) (balance : Nat) :
    (s.needPass ks balance).map (·.1) =
      ks.flatMap fun k => s.activePads.filter fun p => decide (s.classOf p = k) := by
  induction ks generalizing balance with
  | nil => rfl
  | cons k ks ih =>
    rw [State.needPass, List.map_append, map_fst_portion, ih, List.flatMap_cons]
    simp [List.map_map, Function.comp_def]

theorem State.byClass_nodup (s : State) {pads : List Pad} (h : pads.Nodup) : (s.byClass pads).Nodup := by
  refine List.nodup_flatMap.mpr ⟨fun k _ => h.filter _, ?_⟩
  refine (List.nodup_finRange 4).imp fun hne => ?_
  intro p hp hp'
  simp only [List.mem_filter, decide_eq_true_eq] at hp hp'
  obtain ⟨-, hk⟩ := hp
  obtain ⟨-, hk'⟩ := hp'
  exact hne (hk.symm.trans hk')

theorem State.needPass_le_reachOf {s : State} {ks : List Class} {balance : Nat} {x : Pad × Nat}
    (h : x ∈ s.needPass ks balance) : x.2 ≤ s.reachOf x.1 := by
  induction ks generalizing balance with
  | nil => cases h
  | cons k ks ih =>
    rw [State.needPass] at h
    obtain h | h := List.mem_append.mp h
    · obtain ⟨w, hw, hpad, hle⟩ := portion_le_weight h
      obtain ⟨p, -, rfl⟩ := List.mem_map.mp hw
      rw [← hpad]
      exact hle.trans (s.demandOf_le_reachOf p)
    · exact ih h

/-! ### Step C: the surplus pass (R60) -/

section Surplus

variable {s : State} {gs : List (Pad × Nat)} {surplus : Nat}

theorem State.weightSum_surplusPass_le (hgs : (gs.map (·.1)).Nodup) :
    weightSum (s.surplusPass surplus gs) ≤ weightSum gs + surplus := by
  have hsplit : ∀ (f : Pad → Nat) (l : List (Pad × Nat)),
      weightSum (l.map fun w => (w.1, w.2 + f w.1)) = weightSum l + sumOver (l.map (·.1)) f := by
    intro f l
    induction l with
    | nil => rfl
    | cons w l ih => simp only [List.map_cons, weightSum_cons, sumOver_cons, ih]; omega
  have hextra := sumOver_grantOf_le hgs (portion surplus (s.activePads.map fun p => (p, s.reachOf p - grantOf gs p)))
  have hportion := weightSum_portion_le surplus (s.activePads.map fun p => (p, s.reachOf p - grantOf gs p))
  rw [State.surplusPass, hsplit]
  omega

theorem State.surplusPass_le_reachOf (hgs : (gs.map (·.1)).Nodup) (hle : ∀ w ∈ gs, w.2 ≤ s.reachOf w.1) {x : Pad × Nat}
    (h : x ∈ s.surplusPass surplus gs) : x.2 ≤ s.reachOf x.1 := by
  obtain ⟨w, hw, rfl⟩ := List.mem_map.mp h
  have hreach := hle w hw
  have hgrant := grantOf_of_mem hgs hw
  obtain hzero | hmem := grantOf_eq_zero_or_mem
    (portion surplus (s.activePads.map fun p => (p, s.reachOf p - grantOf gs p))) w.1
  · dsimp only
    omega
  · obtain ⟨v, hv, hpad, hshare⟩ := portion_le_weight hmem
    obtain ⟨p, -, rfl⟩ := List.mem_map.mp hv
    dsimp only at hpad hshare ⊢
    subst hpad
    omega

end Surplus

/-! ### Step D: the minimum-power pass (R61, R62) -/

theorem State.weightSum_offerFreed_le (s : State) (freed : Nat) (gs : List (Pad × Nat)) :
    weightSum (s.offerFreed freed gs) ≤ weightSum gs + freed := by
  induction gs generalizing freed with
  | nil => exact Nat.zero_le _
  | cons w gs ih =>
    obtain ⟨p, g⟩ := w
    rw [State.offerFreed]
    split
    · have := ih (freed - min freed (s.reachOf p - g))
      simp only [weightSum_cons]
      omega
    · have := ih freed
      simp only [weightSum_cons]
      omega

theorem State.offerFreed_le_reachOf {s : State} {freed : Nat} {gs : List (Pad × Nat)}
    (hle : ∀ w ∈ gs, w.2 ≤ s.reachOf w.1) {x : Pad × Nat} (h : x ∈ s.offerFreed freed gs) : x.2 ≤ s.reachOf x.1 := by
  induction gs generalizing freed with
  | nil => cases h
  | cons w gs ih =>
    obtain ⟨p, g⟩ := w
    have hg : g ≤ s.reachOf p := hle (p, g) List.mem_cons_self
    have hrest : ∀ w ∈ gs, w.2 ≤ s.reachOf w.1 := fun w hw => hle w (.tail _ hw)
    rw [State.offerFreed] at h
    split at h
    · obtain rfl | h := List.mem_cons.mp h
      · dsimp only
        omega
      · exact ih hrest h
    · obtain rfl | h := List.mem_cons.mp h
      · exact hg
      · exact ih hrest h

theorem weightSum_dropSmall_le (pmin : Nat) (gs : List (Pad × Nat)) :
    weightSum (gs.map fun w => (w.1, dropSmall pmin w.2)) ≤ weightSum gs := by
  induction gs with
  | nil => exact Nat.le_refl 0
  | cons w gs ih =>
    have := dropSmall_le pmin w.2
    simp only [List.map_cons, weightSum_cons]
    omega

/-! ### The grants of a round (R57) -/

theorem State.weightSum_grants_le (s : State) (budget : Nat) : weightSum (s.grants budget) ≤ budget := by
  have hnodup : ((s.needPass classList budget).map (·.1)).Nodup := by
    rw [State.map_fst_needPass]
    exact s.byClass_nodup s.activePads_nodup
  have hneed := s.weightSum_needPass_le classList budget
  have hsurplus := State.weightSum_surplusPass_le (s := s)
    (surplus := budget - weightSum (s.needPass classList budget)) hnodup
  have hkept := weightSum_dropSmall_le s.feeder.pmin
    (s.surplusPass (budget - weightSum (s.needPass classList budget)) (s.needPass classList budget))
  refine (s.weightSum_offerFreed_le _ _).trans ?_
  omega

/-- No session is granted more than its reach. -/
theorem State.grantOf_grants_le_reachOf (s : State) (budget : Nat) (p : Pad) :
    grantOf (s.grants budget) p ≤ s.reachOf p := by
  have hnodup : ((s.needPass classList budget).map (·.1)).Nodup := by
    rw [State.map_fst_needPass]
    exact s.byClass_nodup s.activePads_nodup
  obtain hzero | hmem := grantOf_eq_zero_or_mem (s.grants budget) p
  · rw [hzero]
    exact Nat.zero_le _
  · refine State.offerFreed_le_reachOf (fun w hw => ?_) hmem
    obtain ⟨v, hv, rfl⟩ := List.mem_map.mp hw
    exact (dropSmall_le _ _).trans (State.surplusPass_le_reachOf hnodup (fun _ => State.needPass_le_reachOf) hv)

theorem State.grantOf_grants_le_capOf (s : State) (budget : Nat) (p : Pad) :
    grantOf (s.grants budget) p ≤ s.capOf p := by
  obtain ⟨hcap, -⟩ := s.reachOf_le p
  exact (s.grantOf_grants_le_reachOf budget p).trans hcap

/-- The targets of a round come to no more than its budget. -/
theorem State.sumOver_grants_le (s : State) (budget : Nat) :
    sumOver padList (grantOf (s.grants budget)) ≤ budget :=
  (sumOver_grantOf_le padList_nodup _).trans (s.weightSum_grants_le budget)

end Sys2Proof.Machine
end

section
/-! PROOFS. The admission step of a round (R34 to R41): one induction over its candidates, and what it leaves. -/

namespace Sys2Proof.Machine

/-! ### Pads that go back to the queue (R39, R41) -/

/-- The state in which the pads of a list went back to the admission queue, one after another. -/
def State.afterReturns (s : State) (pads : List Pad) : State :=
  { s with
    alloc := .tabulate fun p => if p ∈ pads then (s.allocOf p).idle else s.allocOf p
    queue := (pads.foldl State.insertQueue s).queue
    active := s.active.filter fun p => decide (p ∉ pads) }

theorem State.allocOf_afterReturns (s : State) (pads : List Pad) (p : Pad) :
    (s.afterReturns pads).allocOf p = if p ∈ pads then (s.allocOf p).idle else s.allocOf p :=
  Table.get_tabulate ..

theorem State.mem_active_afterReturns {s : State} {pads : List Pad} {p : Pad} :
    p ∈ (s.afterReturns pads).active ↔ p ∈ s.active ∧ p ∉ pads := by
  simp [State.afterReturns]

/-- Insertions change the queue only. -/
theorem State.foldl_insertQueue_frame (s : State) (pads : List Pad) :
    pads.foldl State.insertQueue s = { s with queue := (pads.foldl State.insertQueue s).queue } := by
  induction pads using List.reverseRecOn with
  | nil => rfl
  | append_singleton pads p ih =>
    rw [List.foldl_append, List.foldl_cons, List.foldl_nil, ih]
    rfl

/-- Insertions put the pads of the list beside those queued. -/
theorem State.foldl_insertQueue_perm (s : State) (pads : List Pad) :
    (pads.foldl State.insertQueue s).queue.Perm (pads ++ s.queue) := by
  induction pads using List.reverseRecOn with
  | nil => exact .refl _
  | append_singleton pads p ih =>
    rw [List.foldl_append, List.foldl_cons, List.foldl_nil, List.append_assoc]
    exact (insertBefore_perm ..).trans ((ih.cons p).trans List.perm_middle.symm)

theorem State.mem_queue_afterReturns {s : State} {pads : List Pad} {p : Pad} :
    p ∈ (s.afterReturns pads).queue ↔ p ∈ pads ∨ p ∈ s.queue := by
  rw [State.afterReturns, (s.foldl_insertQueue_perm pads).mem_iff, List.mem_append]

/-- One pad more goes back. -/
theorem State.toQueue_afterReturns {s : State} (hactive : s.active.Nodup) (pads : List Pad) (p : Pad) :
    (s.afterReturns pads).toQueue p = s.afterReturns (pads ++ [p]) := by
  have hqueue : insertBefore ((s.afterReturns pads).standsAfter p) p (pads.foldl State.insertQueue s).queue =
      ((pads ++ [p]).foldl State.insertQueue s).queue := by
    rw [List.foldl_append, List.foldl_cons, List.foldl_nil, State.foldl_insertQueue_frame]
    rfl
  have herase : (s.active.filter fun q => decide (q ∉ pads)).erase p =
      s.active.filter fun q => decide (q ∉ pads ++ [p]) := filter_locked_step (b := true) hactive nofun
  rw [State.toQueue_frame, State.allocOf_afterReturns]
  unfold State.afterReturns
  congr 1
  case e_alloc =>
    refine Table.ext_get fun q => ?_
    by_cases hq : q = p
    · subst hq
      by_cases hmem : q ∈ pads <;> simp [hmem, AllocRec.idle]
    · simp [hq]

theorem State.foldl_toQueue {s : State} (hactive : s.active.Nodup) (pads : List Pad) :
    pads.foldl State.toQueue s = s.afterReturns pads := by
  induction pads using List.reverseRecOn with
  | nil =>
    have halloc : Table.tabulate (fun p => s.allocOf p) = s.alloc := Table.ext_get fun p => Table.get_tabulate ..
    simp [State.afterReturns, halloc]
  | append_singleton pads p ih =>
    rw [List.foldl_append, ih, List.foldl_cons, List.foldl_nil, State.toQueue_afterReturns hactive]

/-- Pads of the active list that go back leave the two collections together as they were. -/
theorem State.afterReturns_perm {s : State} (hactive : s.active.Nodup) {pads : List Pad} (hpads : pads.Nodup)
    (hsub : ∀ p ∈ pads, p ∈ s.active) :
    ((s.afterReturns pads).queue ++ (s.afterReturns pads).active).Perm (s.queue ++ s.active) := by
  induction pads using List.reverseRecOn with
  | nil => rw [← State.foldl_toQueue hactive]; exact .refl _
  | append_singleton pads p ih =>
    obtain ⟨hnodup, -, hdisjoint⟩ := List.nodup_append.mp hpads
    have hp : p ∈ (s.afterReturns pads).active := State.mem_active_afterReturns.mpr
      ⟨hsub p (List.mem_append_right _ (List.mem_singleton_self p)),
        fun h => hdisjoint _ h _ (List.mem_singleton_self p) rfl⟩
    rw [← State.toQueue_afterReturns hactive]
    exact (State.toQueue_perm hp).trans (ih hnodup fun q hq => hsub q (List.mem_append_left _ hq))

/-! ### The candidates of an admission step -/

/-- The state with a candidate admitted (R40). -/
def State.enlisted (s : State) (c : Pad) : State :=
  { s with queue := s.queue.erase c, active := s.active ++ [c] }.setAlloc c
    { s.allocOf c with rampBase := 0, starvation := 0 }

theorem Admission.state_foldl_suspend (gone : List Pad) (a : Admission) :
    (gone.foldl Admission.suspend a).state = gone.foldl State.toQueue a.state := by
  induction gone generalizing a with
  | nil => rfl
  | cons v rest ih => exact ih _

/-- What is suspended is active and not of class 0 (R39). -/
theorem State.mem_suspensionOrder {s : State} {p : Pad} (h : p ∈ s.suspensionOrder) :
    p ∈ s.active ∧ s.classOf p ≠ 0 := by
  simp only [State.suspensionOrder, List.mem_flatMap, List.mem_filter, List.mem_reverse, decide_eq_true_eq] at h
  obtain ⟨k, hk, hp, rfl⟩ := h
  refine ⟨hp, fun h0 => ?_⟩
  rw [h0] at hk
  exact absurd hk (by decide)

theorem State.suspensionOrder_nodup {s : State} (h : s.active.Nodup) : s.suspensionOrder.Nodup := by
  refine List.nodup_flatMap.mpr ⟨fun k _ => (List.nodup_reverse.mpr h).filter _, ?_⟩
  have hks : ([3, 2, 1] : List Class).Nodup := by decide
  refine hks.imp fun hne => ?_
  intro p hp hp'
  simp only [List.mem_filter, decide_eq_true_eq] at hp hp'
  obtain ⟨-, hk⟩ := hp
  obtain ⟨-, hk'⟩ := hp'
  exact hne (hk.symm.trans hk')

/-- An admission step admits one candidate of the queue after another, a candidate of class 0 after suspensions of active
sessions of other classes: what each of these keeps holds at its end (R34 to R40). -/
theorem State.admission_induction {s : State} {budget : Nat} (P : State → Prop) (hstart : P s)
    (hadmit : ∀ (u : State) (c : Pad) (gone : List Pad), P u → c ∈ u.queue → gone <+: u.suspensionOrder →
      (gone = [] ∨ u.classOf c = 0) → P ((gone.foldl State.toQueue u).enlisted c)) : P (s.admission budget) := by
  have hconsider : ∀ (fuel : Nat) (a : Admission), P a.state → P (Admission.consider budget fuel a).state := by
    intro fuel
    induction fuel with
    | zero => exact fun a h => h
    | succ fuel ih =>
      intro a h
      rw [Admission.consider]
      split
      · exact h
      · rename_i c hc
        have hqueue : c ∈ a.state.queue := List.mem_of_getElem? hc
        split
        · exact ih _ h
        · dsimp only
          split
          · exact ih _ (hadmit a.state c [] h hqueue List.nil_prefix (.inl rfl))
          · split
            · rename_i hzero
              obtain ⟨hclass, -⟩ := hzero
              obtain ⟨gone, rest, horder, hgone, -⟩ :=
                Admission.suspendUntil_spec budget (a.state.admissionDemand c) a.state.suspensionOrder a
              refine ih _ ?_
              change P ((a.suspendUntil budget (a.state.admissionDemand c) a.state.suspensionOrder).state.enlisted c)
              rw [hgone, Admission.state_foldl_suspend]
              exact hadmit a.state c gone h hqueue ⟨rest, horder.symm⟩ (.inr hclass)
            · exact h
  exact hconsider _ _ hstart

/-! ### What an admission step leaves -/

/-- What holds after any number of candidates, `b` being the state the round started admission from: the collections
together are as they were, and the records differ at most in what a suspension or an admission resets. -/
structure State.Admits (b u : State) : Prop where
  frame : u = { b with alloc := u.alloc, queue := u.queue, active := u.active }
  perm : (u.queue ++ u.active).Perm (b.queue ++ b.active)
  kept : ∀ p, (u.allocOf p).accept = (b.allocOf p).accept ∧ (u.allocOf p).starvation ≤ (b.allocOf p).starvation

namespace State.Admits

variable {b u : State}

theorem refl (b : State) : b.Admits b := ⟨rfl, .refl _, fun _ => ⟨rfl, Nat.le_refl _⟩⟩

theorem classOf_eq (h : b.Admits u) (p : Pad) : u.classOf p = b.classOf p := by rw [h.frame]; rfl

theorem nodup (h : b.Admits u) (hb : (b.queue ++ b.active).Nodup) : (u.queue ++ u.active).Nodup :=
  h.perm.nodup_iff.mpr hb

theorem mem_iff (h : b.Admits u) (p : Pad) : p ∈ u.queue ∨ p ∈ u.active ↔ p ∈ b.queue ∨ p ∈ b.active := by
  rw [← List.mem_append, h.perm.mem_iff, List.mem_append]

/-- One more candidate admitted, after suspensions. -/
theorem enlisted (h : b.Admits u) (hb : (b.queue ++ b.active).Nodup) {c : Pad} {gone : List Pad} (hc : c ∈ u.queue)
    (hgone : gone <+: u.suspensionOrder) : b.Admits ((u.afterReturns gone).enlisted c) := by
  obtain ⟨-, hactive, -⟩ := List.nodup_append.mp (h.nodup hb)
  have hnodup : gone.Nodup := (State.suspensionOrder_nodup hactive).sublist hgone.sublist
  have hsub : ∀ p ∈ gone, p ∈ u.active := fun p hp => by
    obtain ⟨hmem, -⟩ := State.mem_suspensionOrder (hgone.subset hp)
    exact hmem
  refine ⟨?_, ?_, fun p => ?_⟩
  · rw [h.frame]; rfl
  · have hcandidate : c ∈ (u.afterReturns gone).queue := State.mem_queue_afterReturns.mpr (.inr hc)
    exact (Admission.admit_perm (a := ⟨u.afterReturns gone, [], 0⟩) (d := 0) hcandidate).trans
      ((State.afterReturns_perm hactive hnodup hsub).trans h.perm)
  · obtain ⟨haccept, hstarvation⟩ := h.kept p
    have hreturned : ((u.afterReturns gone).allocOf p).accept = (u.allocOf p).accept ∧
        ((u.afterReturns gone).allocOf p).starvation ≤ (u.allocOf p).starvation := by
      rw [State.allocOf_afterReturns]
      split
      · exact ⟨rfl, Nat.zero_le _⟩
      · exact ⟨rfl, Nat.le_refl _⟩
    obtain ⟨haccept', hstarvation'⟩ := hreturned
    by_cases hp : p = c
    · subst hp
      rw [State.enlisted, State.allocOf_setAlloc_self]
      exact ⟨haccept'.trans haccept, Nat.zero_le _⟩
    · rw [State.enlisted, State.allocOf_setAlloc_ne _ _ _ hp]
      exact ⟨haccept'.trans haccept, hstarvation'.trans hstarvation⟩

end State.Admits

theorem State.admits_admission {b : State} (hb : (b.queue ++ b.active).Nodup) (budget : Nat) :
    b.Admits (b.admission budget) := by
  refine State.admission_induction _ (.refl b) fun u c gone h hc hgone _ => ?_
  obtain ⟨-, hactive, -⟩ := List.nodup_append.mp (h.nodup hb)
  rw [State.foldl_toQueue hactive]
  exact h.enlisted hb hc hgone

/-! ### The records after an admission step -/

/-- A session suspended for good: idle, active before, not of class 0, with a session of class 0 admitted (R37, R39). -/
def State.SuspendedFrom (b u : State) (p : Pad) : Prop :=
  u.allocOf p = (b.allocOf p).idle ∧ p ∈ b.active ∧ b.classOf p ≠ 0 ∧
    ∃ c, c ∈ b.queue ∧ c ∈ u.active ∧ b.classOf c = 0

/-- What holds after any number of candidates when pads off the active list are idle. -/
structure State.AdmitsIdle (b u : State) : Prop extends b.Admits u where
  records : ∀ p, u.allocOf p = b.allocOf p ∨ b.SuspendedFrom u p
  idle : u.IdleOffList
  fresh : ∀ p ∈ u.queue, b.classOf p = 0 → p ∈ b.queue

theorem AllocRec.idle_fields (a : AllocRec) :
    a.idle.setpoint = 0 ∧ a.idle.target = 0 ∧ a.idle.rampBase = 0 ∧ a.idle.starvation = 0 ∧ a.idle.paused = false :=
  ⟨rfl, rfl, rfl, rfl, rfl⟩

namespace State.AdmitsIdle

variable {b u : State}

/-- Admission changes no record of a pad that is idle already. -/
theorem allocOf_enlisted {v : State} (hidle : v.IdleOffList) {c : Pad} (hc : c ∉ v.active) (p : Pad) :
    (v.enlisted c).allocOf p = v.allocOf p := by
  by_cases hp : p = c
  · subst hp
    obtain ⟨-, -, hramp, hstarvation, -⟩ := hidle p hc
    rw [State.enlisted, State.allocOf_setAlloc_self]
    cases ha : v.allocOf p
    simp_all
  · rw [State.enlisted, State.allocOf_setAlloc_ne _ _ _ hp]
    rfl

theorem idleOffList_afterReturns (hidle : u.IdleOffList) (gone : List Pad) : (u.afterReturns gone).IdleOffList := by
  intro p hp
  rw [State.allocOf_afterReturns]
  split
  · exact AllocRec.idle_fields _
  · rename_i hgone
    exact hidle p fun hactive => hp (State.mem_active_afterReturns.mpr ⟨hactive, hgone⟩)

/-- One more candidate admitted, after suspensions when it is of class 0. -/
theorem enlisted (h : b.AdmitsIdle u) (hb : (b.queue ++ b.active).Nodup) (hidle : b.IdleOffList) {c : Pad}
    {gone : List Pad} (hc : c ∈ u.queue) (hgone : gone <+: u.suspensionOrder) (hclass : gone = [] ∨ u.classOf c = 0) :
    b.AdmitsIdle ((u.afterReturns gone).enlisted c) := by
  obtain ⟨-, -, hdisjoint⟩ := List.nodup_append.mp (h.nodup hb)
  have hoff : c ∉ (u.afterReturns gone).active := fun hmem => by
    obtain ⟨hactive, -⟩ := State.mem_active_afterReturns.mp hmem
    exact hdisjoint c hc c hactive rfl
  have hnotZero : ∀ p ∈ gone, b.classOf p ≠ 0 := fun p hp => by
    obtain ⟨-, hne⟩ := State.mem_suspensionOrder (hgone.subset hp)
    rwa [h.classOf_eq] at hne
  have hreturned := idleOffList_afterReturns h.idle gone
  have hrecord := allocOf_enlisted hreturned hoff
  refine { h.toAdmits.enlisted hb hc hgone with records := fun p => ?records, idle := fun p hp => ?idle, fresh := fun p hp => ?fresh }
  case records =>
    rw [State.SuspendedFrom, hrecord, State.allocOf_afterReturns]
    by_cases hp : p ∈ gone
    · have hzero : b.classOf c = 0 := by
        rw [← h.classOf_eq]
        exact hclass.resolve_left (List.ne_nil_of_mem hp)
      have hwitness : ∃ c', c' ∈ b.queue ∧ c' ∈ ((u.afterReturns gone).enlisted c).active ∧ b.classOf c' = 0 :=
        ⟨c, h.fresh c hc hzero, List.mem_append_right _ (List.mem_singleton_self c), hzero⟩
      rw [if_pos hp]
      obtain hsame | ⟨hsuspended, hactive, hne, -⟩ := h.records p
      · rw [hsame]
        by_cases hactive : p ∈ b.active
        · exact .inr ⟨rfl, hactive, hnotZero p hp, hwitness⟩
        · exact .inl (hidle.idle_eq hactive)
      · rw [hsuspended]
        exact .inr ⟨rfl, hactive, hne, hwitness⟩
    · rw [if_neg hp]
      refine (h.records p).imp_right fun ⟨hsuspended, hactive, hne, c', hc', hmem, hzero⟩ =>
        ⟨hsuspended, hactive, hne, c', hc', ?_, hzero⟩
      exact List.mem_append_left _ (State.mem_active_afterReturns.mpr ⟨hmem, fun hin => hnotZero c' hin hzero⟩)
  case idle =>
    rw [hrecord]
    exact hreturned p fun hmem => hp (List.mem_append_left _ hmem)
  case fresh =>
    intro hzero
    have hmem : p ∈ (u.afterReturns gone).queue := List.mem_of_mem_erase hp
    obtain hin | hin := State.mem_queue_afterReturns.mp hmem
    · exact absurd hzero (hnotZero p hin)
    · exact h.fresh p hin hzero

end State.AdmitsIdle

theorem State.admitsIdle_admission {b : State} (hb : (b.queue ++ b.active).Nodup) (hidle : b.IdleOffList)
    (budget : Nat) : b.AdmitsIdle (b.admission budget) := by
  refine State.admission_induction _ { State.Admits.refl b with
    records := fun _ => .inl rfl, idle := hidle, fresh := fun _ hp _ => hp } fun u c gone h hc hgone hclass => ?_
  obtain ⟨-, hactive, -⟩ := List.nodup_append.mp (h.nodup hb)
  rw [State.foldl_toQueue hactive]
  exact h.enlisted hb hidle hc hgone hclass

end Sys2Proof.Machine
end

section
/-! PROOFS. The boundary round (R55, R63, R66, R41): the records and collections it leaves. -/

namespace Sys2Proof.Machine

/-! ### The steps of a boundary round -/

/-- The state a boundary round starts admission from: the round request served, the ramp bases set (R49, R55). -/
def State.roundStart (s : State) : State := { s with roundRequest := false }.setRampBases

/-- The state of a boundary round after admission. -/
def State.roundAdmitted (s : State) : State := s.roundStart.admission s.budget

/-- What a boundary round grants a pad. -/
def State.roundGrant (s : State) (p : Pad) : Nat := grantOf (s.roundAdmitted.grants s.budget) p

theorem State.roundTargets_boundary (s : State) :
    s.roundTargets true = s.roundAdmitted.applyTargets (s.roundAdmitted.grants s.budget) :=
  rfl

/-- The starvation count of an active session after a round that granted it `grant` (R66). -/
def AllocRec.countAfter (a : AllocRec) (grant : Nat) : Nat :=
  if a.paused then a.starvation else if grant = 0 then a.starvation + 1 else 0

/-- The record of an active session after a round that granted it `grant` (R63, R66). -/
def AllocRec.granted (a : AllocRec) (grant : Nat) : AllocRec :=
  { a with target := grant, setpoint := min a.setpoint grant, starvation := a.countAfter grant }

@[simp] theorem AllocRec.granted_fields (a : AllocRec) (grant : Nat) :
    (a.granted grant).target = grant ∧ (a.granted grant).accept = a.accept ∧
      (a.granted grant).starvation = a.countAfter grant :=
  ⟨rfl, rfl, rfl⟩

theorem State.roundGrant_le_capOf (s : State) (p : Pad) : s.roundGrant p ≤ s.roundAdmitted.capOf p :=
  s.roundAdmitted.grantOf_grants_le_capOf s.budget p

theorem State.sumOver_roundGrant_le (s : State) : sumOver padList s.roundGrant ≤ s.budget :=
  s.roundAdmitted.sumOver_grants_le s.budget

theorem State.allocOf_roundTargets (s : State) (p : Pad) :
    (s.roundTargets true).allocOf p =
      if p ∈ s.roundAdmitted.active then
        { s.roundAdmitted.allocOf p with
          target := s.roundGrant p, setpoint := min (s.roundAdmitted.allocOf p).setpoint (s.roundGrant p) }
      else { s.roundAdmitted.allocOf p with target := 0 } := by
  rw [State.roundTargets_boundary, State.allocOf_applyTargets]
  rfl

/-- The records once targets are set and starvation is counted. -/
theorem State.allocOf_counted (s : State) (p : Pad) :
    (s.roundTargets true).countStarvation.allocOf p =
      if p ∈ s.roundAdmitted.active then (s.roundAdmitted.allocOf p).granted (s.roundGrant p)
      else { s.roundAdmitted.allocOf p with target := 0 } := by
  have hactive : (s.roundTargets true).active = s.roundAdmitted.active := rfl
  rw [State.countStarvation, State.allocOf_setAllocs, hactive, State.allocOf_roundTargets]
  by_cases hp : p ∈ s.roundAdmitted.active
  · simp only [hp, if_true, true_and, AllocRec.granted, AllocRec.countAfter]
    cases (s.roundAdmitted.allocOf p).paused <;> simp
  · simp only [hp, if_false, false_and]

/-- Whether a session is returned to the queue: not PAUSED, and its count at 3 (R41). -/
def State.starvesAt (s : State) (p : Pad) : Prop :=
  (s.roundAdmitted.allocOf p).paused = false ∧ 3 ≤ (s.roundAdmitted.allocOf p).countAfter (s.roundGrant p)

/-- The sessions that a boundary round returns to the queue, in ascending pad number. -/
def State.roundStarved (s : State) : List Pad :=
  s.roundAdmitted.activePads.filter fun p => decide ((s.roundAdmitted.allocOf p).paused = false ∧
    3 ≤ (s.roundAdmitted.allocOf p).countAfter (s.roundGrant p))

theorem State.mem_roundStarved {s : State} {p : Pad} :
    p ∈ s.roundStarved ↔ p ∈ s.roundAdmitted.active ∧ s.starvesAt p := by
  simp [State.roundStarved, State.starvesAt]

theorem State.starvedPads_counted (s : State) : (s.roundTargets true).countStarvation.starvedPads = s.roundStarved := by
  refine List.filter_congr fun p hp => ?_
  have hactive : p ∈ s.roundAdmitted.active := State.mem_activePads.mp hp
  rw [State.allocOf_counted, if_pos hactive, Bool.decide_and]
  rfl

/-- What a boundary round leaves before its raise release attempt. -/
def State.roundResult (s : State) : State := (s.roundTargets true).countStarvation.afterReturns s.roundStarved

theorem State.boundaryRound_eq {s : State} (h : s.roundAdmitted.active.Nodup) :
    s.boundaryRound = s.roundResult.releaseAttempt := by
  unfold State.boundaryRound State.returnStarved
  rw [State.starvedPads_counted,
    State.foldl_toQueue (s := (s.roundTargets true).countStarvation) h]
  rfl

/-! ### What a boundary round leaves -/

/-- A boundary round changes allocator records, the collections and the round request only. -/
theorem State.roundResult_frame (s : State) :
    s.roundResult =
      { s with
        alloc := s.roundResult.alloc
        queue := s.roundResult.queue
        active := s.roundResult.active
        roundRequest := false } := by
  have hadmitted : s.roundAdmitted =
      { s with
        alloc := s.roundAdmitted.alloc
        queue := s.roundAdmitted.queue
        active := s.roundAdmitted.active
        roundRequest := false } := by
    rw [State.roundAdmitted, State.admission_frame]
    rfl
  have hresult : s.roundResult =
      { s.roundAdmitted with
        alloc := s.roundResult.alloc
        queue := s.roundResult.queue
        active := s.roundResult.active } := rfl
  rw [hresult, hadmitted]

theorem State.allocOf_roundResult_of_kept {s : State} {p : Pad} (hp : p ∈ s.roundAdmitted.active)
    (h : ¬ s.starvesAt p) :
    s.roundResult.allocOf p = (s.roundAdmitted.allocOf p).granted (s.roundGrant p) := by
  have hnot : p ∉ s.roundStarved := fun hmem => by
    obtain ⟨-, hstarves⟩ := State.mem_roundStarved.mp hmem
    exact h hstarves
  rw [State.roundResult, State.allocOf_afterReturns, if_neg hnot, State.allocOf_counted, if_pos hp]

theorem State.allocOf_roundResult_of_starved {s : State} {p : Pad} (hp : p ∈ s.roundAdmitted.active)
    (h : s.starvesAt p) : s.roundResult.allocOf p = (s.roundAdmitted.allocOf p).idle := by
  rw [State.roundResult, State.allocOf_afterReturns, if_pos (State.mem_roundStarved.mpr ⟨hp, h⟩), State.allocOf_counted,
    if_pos hp]
  rfl

theorem State.allocOf_roundResult_of_off {s : State} {p : Pad} (hp : p ∉ s.roundAdmitted.active) :
    s.roundResult.allocOf p = { s.roundAdmitted.allocOf p with target := 0 } := by
  have hnot : p ∉ s.roundStarved := fun hmem => by
    obtain ⟨hactive, -⟩ := State.mem_roundStarved.mp hmem
    exact hp hactive
  rw [State.roundResult, State.allocOf_afterReturns, if_neg hnot, State.allocOf_counted, if_neg hp]

theorem State.mem_active_roundResult {s : State} {p : Pad} :
    p ∈ s.roundResult.active ↔ p ∈ s.roundAdmitted.active ∧ ¬ s.starvesAt p := by
  have hmem : p ∈ s.roundResult.active ↔ p ∈ s.roundAdmitted.active ∧ p ∉ s.roundStarved :=
    State.mem_active_afterReturns
  rw [hmem, State.mem_roundStarved]
  exact and_congr_right fun hp => not_congr (and_iff_right hp)

theorem State.foldl_insertQueue_setAlloc (s : State) (alloc : Table 24 AllocRec) (pads : List Pad) :
    pads.foldl State.insertQueue { s with alloc := alloc } =
      { pads.foldl State.insertQueue s with alloc := alloc } := by
  induction pads generalizing s with
  | nil => rfl
  | cons p pads ih => exact ih (s.insertQueue p)

/-! ### Bounds (R63, R66) -/

section Bounds

variable {s : State}

theorem State.budget_roundStart (s : State) : s.roundStart.budget = s.budget := by
  have hexposure : ∀ p, s.roundStart.exposure p = s.exposure p := fun p => by
    rw [State.exposure, State.roundStart, State.allocOf_setRampBases]
    split <;> rfl
  have hactive : s.roundStart.active = s.active := rfl
  have hfeeder : s.roundStart.feeder = s.feeder := rfl
  rw [State.budget, State.budget, State.offListExposure, State.offListExposure, hactive, hfeeder,
    sumOver_congr fun p _ => hexposure p]

theorem State.admits_roundAdmitted (h : (s.queue ++ s.active).Nodup) : s.roundStart.Admits s.roundAdmitted :=
  State.admits_admission (b := s.roundStart) h _

/-- Pads move between the two collections only (R28). -/
theorem State.roundResult_perm (h : (s.queue ++ s.active).Nodup) :
    (s.roundResult.queue ++ s.roundResult.active).Perm (s.queue ++ s.active) := by
  have hadmits := State.admits_roundAdmitted h
  obtain ⟨-, hactive, -⟩ := List.nodup_append.mp (hadmits.nodup h)
  have hsub : ∀ p ∈ s.roundStarved, p ∈ s.roundAdmitted.active := fun p hp => by
    obtain ⟨hmem, -⟩ := State.mem_roundStarved.mp hp
    exact hmem
  exact (State.afterReturns_perm (s := (s.roundTargets true).countStarvation) hactive
    (s.roundAdmitted.activePads_nodup.filter _) hsub).trans hadmits.perm

/-- A session that stays active has counted at most 2 boundaries without power, when it had before (R41). -/
theorem State.countAfter_le_two (h : (s.queue ++ s.active).Nodup) (hle : ∀ p, (s.allocOf p).starvation ≤ 2) {p : Pad}
    (hstays : ¬ s.starvesAt p) : (s.roundAdmitted.allocOf p).countAfter (s.roundGrant p) ≤ 2 := by
  obtain ⟨-, hkept⟩ := (State.admits_roundAdmitted h).kept p
  have hstart : (s.roundStart.allocOf p).starvation = (s.allocOf p).starvation := by
    rw [State.roundStart, State.allocOf_setRampBases]
    split <;> rfl
  have hbefore := hle p
  rw [State.starvesAt, not_and_or] at hstays
  obtain hpaused | hfew := hstays
  · rw [Bool.not_eq_false] at hpaused
    rw [AllocRec.countAfter, if_pos hpaused]
    omega
  · omega

end Bounds

/-! ### The event -/

theorem AllocRec.Released.trans {a b c : AllocRec} (hab : a.Released b) (hbc : b.Released c) : a.Released c := by
  obtain rfl | ⟨hlt, rfl⟩ := hab
  · exact hbc
  · exact .inr ⟨hlt, hbc.eq (Nat.le_refl _)⟩

/-- A release changes the setpoint only. -/
theorem AllocRec.Released.kept {a b : AllocRec} (h : a.Released b) :
    b.target = a.target ∧ b.starvation = a.starvation ∧ b.accept = a.accept := by
  obtain rfl | ⟨-, rfl⟩ := h <;> exact ⟨rfl, rfl, rfl⟩

/-- The state that a boundary round leaves, with the allocator records that the releases made of those of the round. -/
def State.afterRound (s : State) (alloc : Table 24 AllocRec) : State :=
  { s with
    alloc := alloc
    queue := s.roundResult.queue
    active := s.roundResult.active
    roundRequest := false }

section AfterRound

variable (s : State) (alloc : Table 24 AllocRec)

@[simp] theorem State.afterRound_timer : (s.afterRound alloc).timer = s.timer := rfl
@[simp] theorem State.afterRound_plan : (s.afterRound alloc).plan = s.plan := rfl
@[simp] theorem State.afterRound_feeder : (s.afterRound alloc).feeder = s.feeder := rfl
@[simp] theorem State.afterRound_ports : (s.afterRound alloc).ports = s.ports := rfl
@[simp] theorem State.afterRound_link : (s.afterRound alloc).link = s.link := rfl
@[simp] theorem State.afterRound_queue : (s.afterRound alloc).queue = s.roundResult.queue := rfl
@[simp] theorem State.afterRound_active : (s.afterRound alloc).active = s.roundResult.active := rfl
@[simp] theorem State.session_afterRound (p : Pad) : (s.afterRound alloc).session p = s.session p := rfl
@[simp] theorem State.allocOf_afterRound (p : Pad) : (s.afterRound alloc).allocOf p = alloc.get p := rfl

theorem State.afterRound_active_eq :
    (s.afterRound alloc).active = s.roundAdmitted.active.filter fun p =>
      decide (¬ ((s.roundAdmitted.allocOf p).paused = false ∧
        3 ≤ (s.roundAdmitted.allocOf p).countAfter (s.roundGrant p))) := by
  refine List.filter_congr fun p hp => decide_eq_decide.mpr ?_
  rw [State.mem_roundStarved]
  exact not_congr (and_iff_right hp)

/-- The starved sessions are inserted into the queue in ascending pad number. -/
theorem State.afterRound_queue_eq :
    (s.afterRound alloc).queue = ((s.roundAdmitted.activePads.filter fun p =>
      decide ((s.roundAdmitted.allocOf p).paused = false ∧
        3 ≤ (s.roundAdmitted.allocOf p).countAfter (s.roundGrant p))).foldl State.insertQueue s.roundAdmitted).queue := by
  have hcounted : (s.roundTargets true).countStarvation =
      { s.roundAdmitted with alloc := (s.roundTargets true).countStarvation.alloc } := rfl
  change (s.roundStarved.foldl State.insertQueue (s.roundTargets true).countStarvation).queue = _
  rw [hcounted, State.foldl_insertQueue_setAlloc, State.roundStarved]

/-- A round forms no ceiling. -/
theorem State.ceilingFormed_afterRound {s : State} (h : s.CeilingFormed) (alloc : Table 24 AllocRec) :
    (s.afterRound alloc).CeilingFormed := h

end AfterRound

/-- The stages of a boundary move no pad between the collections. -/
theorem State.boundaryStages_collections (s : State) :
    s.boundaryStages.queue = s.queue ∧ s.boundaryStages.active = s.active ∧ s.boundaryStages.alloc = s.alloc ∧
      s.boundaryStages.store = s.store := by
  rw [State.boundaryStages_frame]
  exact ⟨rfl, rfl, rfl, rfl⟩

theorem State.MembershipLaw.nodup {s : State} (h : s.MembershipLaw) : (s.queue ++ s.active).Nodup := by
  obtain ⟨hqueue, hactive, hdisjoint, -⟩ := h
  exact List.nodup_append.mpr ⟨hqueue, hactive, fun p hp q hq heq => hdisjoint p hp (heq ▸ hq)⟩

theorem State.MembershipLaw.nodup_boundaryStages {s : State} (h : s.MembershipLaw) :
    (s.boundaryStages.queue ++ s.boundaryStages.active).Nodup := by
  obtain ⟨hqueue, hactive, -, -⟩ := s.boundaryStages_collections
  rw [hqueue, hactive]
  exact h.nodup

/-- A boundary round with its raise release attempt. -/
theorem State.boundaryRound_frame {s : State} (h : (s.queue ++ s.active).Nodup) :
    s.boundaryRound =
      { s with
        alloc := s.boundaryRound.alloc
        queue := s.roundResult.queue
        active := s.roundResult.active
        roundRequest := false } := by
  obtain ⟨-, hactive, -⟩ := List.nodup_append.mp ((State.admits_roundAdmitted h).nodup h)
  have hround := State.boundaryRound_eq hactive
  have hattempt := s.roundResult.releaseAttempt_frame
  rw [← hround] at hattempt
  exact hattempt.trans (congrArg (fun r : State => { r with alloc := s.boundaryRound.alloc }) s.roundResult_frame)

/-- A boundary round's raise release attempt releases pending raises only. -/
theorem State.allocOf_boundaryRound {s : State} (h : (s.queue ++ s.active).Nodup) (p : Pad) :
    (s.roundResult.allocOf p).Released (s.boundaryRound.allocOf p) := by
  obtain ⟨-, hactive, -⟩ := List.nodup_append.mp ((State.admits_roundAdmitted h).nodup h)
  rw [State.boundaryRound_eq hactive]
  exact State.allocOf_releaseAttempt _ p

/-- The event of a boundary round. -/
theorem State.Ready.boundaryRound {s u : State} (hs : s.Ready) (hstore : u.store = s.store)
    (h : (u.queue ++ u.active).Nodup) :
    ∃ alloc,
      s.event u.boundaryRound = .next (u.afterRound alloc) ∧
      ∀ p, (u.roundResult.allocOf p).Released (alloc.get p) := by
  have hreleased := State.allocOf_boundaryRound h
  rw [State.boundaryRound_frame h] at hreleased ⊢
  obtain ⟨alloc, hevent, hends⟩ := hs.event_released (after := { u with
    alloc := u.boundaryRound.alloc
    queue := u.roundResult.queue
    active := u.roundResult.active
    roundRequest := false }) hstore
  exact ⟨alloc, hevent, fun p => (hreleased p).trans (hends p)⟩

/-- The event of a boundary. -/
theorem State.Ready.takeBoundary {s : State} (hs : s.Ready) (hlaw : s.MembershipLaw) :
    ∃ alloc, s.event s.takeBoundary = .next (s.boundaryStages.afterRound alloc) ∧
      ∀ p, (s.boundaryStages.roundResult.allocOf p).Released (alloc.get p) := by
  obtain ⟨-, -, -, hstore⟩ := s.boundaryStages_collections
  exact hs.boundaryRound hstore hlaw.nodup_boundaryStages

/-- SLOT_BOUNDARY when it is due. -/
theorem exec_slotBoundary_of_due {s : State} (h : s.boundaryDue = true) :
    exec .slotBoundary s = s.event s.takeBoundary := by
  change execSlotBoundary s = _
  rw [execSlotBoundary, if_pos h]

theorem State.boundaryDue_of_phase {s : State} (hmode : s.timer.mode = .running) (hphase : s.timer.phase = 3599) :
    s.boundaryDue = true := by
  simp [State.boundaryDue, hmode, hphase]

end Sys2Proof.Machine
end

section
/-! PROOFS. The slot boundary as one event (R90, R91), under each of the names it can have. -/

namespace Sys2Proof.Machine

/-! ### What a boundary leaves -/

theorem CapPlan.cell_clearColumn (c : CapPlan) (col : PlanCol) (line : PlanLine) (q : PlanCol) :
    (c.clearColumn col).cell line q = if q = col then none else c.cell line q := by
  rw [CapPlan.cell, CapPlan.clearColumn, Table.get_tabulate]
  by_cases h : q = col
  · subst h; simp
  · rw [if_neg h, Table.get_set_ne _ _ h]; rfl

/-- The cap of a pad follows from ratings, plan, slot number and acceptance limit (R52). -/
theorem State.capOf_congr {v w : State} {p : Pad} (hstore : v.store = w.store) (hplan : v.plan = w.plan)
    (htimer : v.timer = w.timer) (haccept : (v.allocOf p).accept = (w.allocOf p).accept) : v.capOf p = w.capOf p := by
  simp only [State.capOf, State.rating, State.padCell, hstore, hplan, htimer, haccept]

/-- The stages of a boundary change plan, timer, feeder, sessions, change sets and STOP request only. -/
theorem State.boundaryStages_kept (s : State) :
    s.boundaryStages =
      { s with
        plan := s.boundaryStages.plan
        timer := s.boundaryStages.timer
        feeder := s.boundaryStages.feeder
        sessions := s.boundaryStages.sessions
        ports := s.boundaryStages.ports
        link := s.boundaryStages.link } := by
  rw [State.boundaryStages_frame]
  rfl

/-- A round after such stages changes allocator records, collections and round request besides. -/
theorem State.afterRound_frame {s u : State} (alloc : Table 24 AllocRec) (hu : u = { s with
      plan := u.plan, timer := u.timer, feeder := u.feeder, sessions := u.sessions, ports := u.ports, link := u.link }) :
    u.afterRound alloc =
      { s with
        timer := (u.afterRound alloc).timer
        plan := (u.afterRound alloc).plan
        feeder := (u.afterRound alloc).feeder
        sessions := (u.afterRound alloc).sessions
        alloc := (u.afterRound alloc).alloc
        queue := (u.afterRound alloc).queue
        active := (u.afterRound alloc).active
        roundRequest := (u.afterRound alloc).roundRequest
        link := (u.afterRound alloc).link
        ports := (u.afterRound alloc).ports } :=
  congrArg (fun v : State => { v with
    alloc := alloc, queue := u.roundResult.queue, active := u.roundResult.active, roundRequest := false }) hu

theorem State.timer_boundaryStages (s : State) :
    s.boundaryStages.timer = { s.timer with slot := s.timer.slot + 1, phase := 0 } := by
  rw [State.boundaryStages_frame]
  rfl

theorem State.plan_boundaryStages (s : State) :
    s.boundaryStages.plan = s.plan.clearColumn (columnOf s.timer.slot) := by
  rw [State.boundaryStages_frame]
  rfl

theorem State.ports_boundaryStages (s : State) :
    s.boundaryStages.ports = s.ports.enter s.bindEnds (s.ceilingChanges || s.shedEnds) := by
  rw [State.boundaryStages_frame]

theorem State.ceiling_boundaryStages (s : State) :
    s.boundaryStages.feeder.ceiling = s.nextCeiling.value ∧ s.boundaryStages.feeder.cause = s.nextCeiling.cause ∧
      s.boundaryStages.feeder.shed = s.shedAfter := by
  rw [State.boundaryStages_frame]
  exact ⟨rfl, rfl, rfl⟩

section Round

variable {u : State} {alloc : Table 24 AllocRec}

/-- A round leaves every active session's target within its cap (R58, R60). -/
theorem State.target_le_roundCap (h : (u.queue ++ u.active).Nodup)
    (hreleased : ∀ p, (u.roundResult.allocOf p).Released (alloc.get p)) {p : Pad}
    (hp : p ∈ (u.afterRound alloc).active) :
    ((u.afterRound alloc).allocOf p).target ≤ (u.afterRound alloc).capOf p := by
  obtain ⟨hactive, hstays⟩ := State.mem_active_roundResult.mp hp
  have hrecord := State.allocOf_roundResult_of_kept hactive hstays
  obtain ⟨htarget, -, haccept⟩ := (hreleased p).kept
  rw [State.allocOf_afterRound]
  obtain ⟨hgrant, hlimit, -⟩ := (u.roundAdmitted.allocOf p).granted_fields (u.roundGrant p)
  rw [hrecord, hgrant] at htarget
  rw [hrecord, hlimit] at haccept
  have hframe := (State.admits_roundAdmitted h).frame
  have hcap : (u.afterRound alloc).capOf p = u.roundAdmitted.capOf p :=
    State.capOf_congr (congrArg State.store hframe).symm (congrArg State.plan hframe).symm
      (congrArg State.timer hframe).symm haccept
  rw [hcap, htarget]
  exact u.roundGrant_le_capOf p

theorem State.starvation_le_two (h : (u.queue ++ u.active).Nodup) (hle : ∀ p, (u.allocOf p).starvation ≤ 2)
    (hreleased : ∀ p, (u.roundResult.allocOf p).Released (alloc.get p)) {p : Pad}
    (hp : p ∈ (u.afterRound alloc).active) : ((u.afterRound alloc).allocOf p).starvation ≤ 2 := by
  obtain ⟨hactive, hstays⟩ := State.mem_active_roundResult.mp hp
  obtain ⟨-, hstarvation, -⟩ := (hreleased p).kept
  rw [State.allocOf_afterRound]
  obtain ⟨-, -, hcount⟩ := (u.roundAdmitted.allocOf p).granted_fields (u.roundGrant p)
  rw [hstarvation, State.allocOf_roundResult_of_kept hactive hstays, hcount]
  exact State.countAfter_le_two h hle hstays

/-- The targets a round leaves come to no more than its budget (R57). -/
theorem State.sumOver_target_le (hreleased : ∀ p, (u.roundResult.allocOf p).Released (alloc.get p)) :
    sumOver padList (fun p => ((u.afterRound alloc).allocOf p).target) ≤ u.budget := by
  refine (sumOver_le_sumOver fun p _ => ?_).trans u.sumOver_roundGrant_le
  obtain ⟨htarget, -, -⟩ := (hreleased p).kept
  rw [State.allocOf_afterRound, htarget]
  by_cases hp : p ∈ u.roundAdmitted.active
  · by_cases hstarves : u.starvesAt p
    · rw [State.allocOf_roundResult_of_starved hp hstarves]
      exact Nat.zero_le _
    · obtain ⟨hgrant, -, -⟩ := (u.roundAdmitted.allocOf p).granted_fields (u.roundGrant p)
      rw [State.allocOf_roundResult_of_kept hp hstarves, hgrant]
  · rw [State.allocOf_roundResult_of_off hp]
    exact Nat.zero_le _

/-- A session that stays active holds what the round granted it. -/
theorem State.afterRound_of_kept (hreleased : ∀ p, (u.roundResult.allocOf p).Released (alloc.get p)) {p : Pad}
    (hp : p ∈ u.roundAdmitted.active) (hstays : ¬ u.starvesAt p) :
    p ∈ (u.afterRound alloc).active ∧
      AllocRec.Released ((u.roundAdmitted.allocOf p).granted (u.roundGrant p)) ((u.afterRound alloc).allocOf p) := by
  refine ⟨State.mem_active_roundResult.mpr ⟨hp, hstays⟩, ?_⟩
  rw [← State.allocOf_roundResult_of_kept hp hstays]
  exact hreleased p

/-- A starved session is back in the queue with its record idle (R41). -/
theorem State.afterRound_of_starved (hreleased : ∀ p, (u.roundResult.allocOf p).Released (alloc.get p)) {p : Pad}
    (hp : p ∈ u.roundAdmitted.active) (hstarves : u.starvesAt p) :
    p ∈ (u.afterRound alloc).queue ∧ p ∉ (u.afterRound alloc).active ∧
      (u.afterRound alloc).allocOf p = (u.roundAdmitted.allocOf p).idle := by
  have hmem : p ∈ (u.afterRound alloc).queue :=
    State.mem_queue_afterReturns.mpr (.inl (State.mem_roundStarved.mpr ⟨hp, hstarves⟩))
  refine ⟨hmem, fun hactive => ?_, ?_⟩
  · obtain ⟨-, hnot⟩ := State.mem_active_roundResult.mp hactive
    exact hnot hstarves
  · have hself := hreleased p
    rw [State.allocOf_roundResult_of_starved hp hstarves] at hself
    exact hself.eq (Nat.le_refl _)

/-- A pad off the active list has target 0 (R63). -/
theorem State.afterRound_of_off (hreleased : ∀ p, (u.roundResult.allocOf p).Released (alloc.get p)) {p : Pad}
    (hp : p ∉ u.roundAdmitted.active) :
    p ∉ (u.afterRound alloc).active ∧ (u.afterRound alloc).allocOf p = { u.roundAdmitted.allocOf p with target := 0 } := by
  refine ⟨fun hactive => ?_, ?_⟩
  · obtain ⟨hin, -⟩ := State.mem_active_roundResult.mp hactive
    exact hp hin
  · have hself := hreleased p
    rw [State.allocOf_roundResult_of_off hp] at hself
    exact hself.eq (Nat.zero_le _)

/-- A session at target 0, not PAUSED, whose count was 2 is starved (R66). -/
theorem State.starvesAt_of_target_zero {p : Pad} (hp : p ∈ (u.roundTargets true).active)
    (htarget : ((u.roundTargets true).allocOf p).target = 0) (hpaused : ((u.roundTargets true).allocOf p).paused = false)
    (hcount : 2 ≤ ((u.roundTargets true).allocOf p).starvation) : p ∈ u.roundAdmitted.active ∧ u.starvesAt p := by
  have hactive : p ∈ u.roundAdmitted.active := hp
  rw [State.allocOf_roundTargets, if_pos hactive] at htarget hpaused hcount
  refine ⟨hactive, hpaused, ?_⟩
  rw [AllocRec.countAfter, if_neg (by rw [hpaused]; exact Bool.false_ne_true), if_pos htarget]
  exact Nat.succ_le_succ hcount

/-- A round keeps what its start keeps. -/
theorem State.roundStart_kept (u : State) (alloc : Table 24 AllocRec) :
    u.roundStart.timer = (u.afterRound alloc).timer ∧ u.roundStart.plan = (u.afterRound alloc).plan ∧
      u.roundStart.feeder = (u.afterRound alloc).feeder ∧ u.roundStart.sessions = (u.afterRound alloc).sessions :=
  ⟨rfl, rfl, rfl, rfl⟩

/-- Pads off the active list are idle when a boundary round starts. -/
theorem State.IdleOffList.roundStart (h : u.IdleOffList) : u.roundStart.IdleOffList := by
  intro p hp
  have hactive : p ∉ u.active := hp
  have hsame : u.roundStart.allocOf p = u.allocOf p :=
    (State.allocOf_setRampBases { u with roundRequest := false } p).trans (if_neg hactive)
  rw [hsame]
  exact h p hactive

/-- The records after admission: as the round started, or those of a session suspended for one of class 0 (R37). -/
theorem State.allocOf_roundAdmitted (h : (u.queue ++ u.active).Nodup) (hidle : u.IdleOffList) (p : Pad) :
    u.roundAdmitted.allocOf p = u.roundStart.allocOf p ∨
      (u.roundAdmitted.allocOf p = (u.roundStart.allocOf p).idle ∧ p ∈ u.active ∧ u.classOf p ≠ 0 ∧
        ∃ c, c ∈ u.queue ∧ c ∈ u.roundAdmitted.active ∧ u.classOf c = 0) :=
  (State.admitsIdle_admission (b := u.roundStart) h hidle.roundStart u.budget).records p

end Round

/-! ### The names of a boundary -/

section Names

variable {s : State}

theorem exec_slotPhaseRise_of_due (hmode : s.timer.mode = .running) (h : s.boundaryDue = true) :
    exec .slotPhaseRise s = s.event s.takeBoundary := by
  change execSlotPhaseRise s = _
  rw [execSlotPhaseRise, if_pos hmode, if_pos h]

theorem exec_shedExpiry_of_due {shed : Shed} (h : s.boundaryDue = true) (hshed : s.feeder.shed = some shed)
    (hends : shed.toRun ≤ 1) : exec .shedExpiry s = s.event s.takeBoundary := by
  change execShedExpiry s = _
  simp only [execShedExpiry, hshed, h, hends, and_self, if_true]

theorem exec_bindExpiry_of_due {p : Pad} (h : s.boundaryDue = true) (hends : s.bindEnds p = true) :
    exec .bindExpiry s = s.event s.takeBoundary := by
  have hexpires : s.bindExpires = true := by
    refine List.any_eq_true.mpr ⟨p, mem_padList p, ?_⟩
    rw [State.bindEnds] at hends
    cases he : (s.session p).body.elapsed with
    | none => rw [he] at hends; cases hends
    | some e => rw [he] at hends; exact hends
  change execBindExpiry s = _
  rw [execBindExpiry, if_pos ⟨h, hexpires⟩]

theorem exec_starvationReturn_of_due {p : Pad} (h : s.boundaryDue = true) (hp : p ∈ s.boundaryStages.roundStarved) :
    exec .starvationReturn s = s.event s.takeBoundary := by
  have hstarves : s.boundaryStarves = true := by
    rw [State.boundaryStarves, State.starvedPads_counted]
    exact decide_eq_true (List.ne_nil_of_mem hp)
  change execStarvationReturn s = _
  rw [execStarvationReturn, if_pos ⟨h, hstarves⟩]

/-- A boundary round is the one whose start and admission are named. -/
theorem State.eq_roundStart {u b : State} (hframe : b = { u with roundRequest := false, alloc := b.alloc })
    (hrecords : ∀ p, b.allocOf p =
      if p ∈ u.active then { u.allocOf p with rampBase := (u.allocOf p).setpoint } else u.allocOf p) :
    b = u.roundStart := by
  have halloc : b.alloc = u.roundStart.alloc := Table.ext_get fun p => by
    have hstart := State.allocOf_setRampBases { u with roundRequest := false } p
    exact (hrecords p).trans hstart.symm
  rw [hframe, halloc]
  rfl

end Names

/-- Settles O54: the stages by `State.boundaryStages_frame`, the round by what `State.roundResult` leaves. -/
theorem boundaryTaken : Obligations.BoundaryTaken := by
  unfold Obligations.BoundaryTaken
  refine ⟨?boundary, ?rises, ?held, ?shed, ?bind, ?starved, ?round⟩
  case boundary =>
    intro s hs hlaw hmode hphase hstarvation
    have hdue := State.boundaryDue_of_phase hmode hphase
    have hnodup := hlaw.nodup_boundaryStages
    obtain ⟨hqueue, hactive, halloc, -⟩ := s.boundaryStages_collections
    obtain ⟨hceiling, hcause, hshed⟩ := s.ceiling_boundaryStages
    obtain ⟨alloc, hevent, hreleased⟩ := hs.takeBoundary hlaw
    have hle : ∀ p, (s.boundaryStages.allocOf p).starvation ≤ 2 := fun p => by
      rw [State.allocOf, halloc]
      exact hstarvation p
    refine ⟨_, (exec_slotBoundary_of_due hdue).trans hevent, (exec_slotPhaseRise_of_due hmode hdue).trans hevent,
      ?timer, fun line col => ?cell, ?window, ?shedNext, State.ceilingFormed_afterRound s.boundaryStages_ceilingFormed alloc,
      rfl, fun p => ?binds, fun p => ?moves, fun p hp => ⟨State.target_le_roundCap hnodup hreleased hp,
        State.starvation_le_two hnodup hle hreleased hp⟩, ?ports, ?link, ?frame⟩
    case timer => rw [State.afterRound_timer, s.timer_boundaryStages]
    case cell =>
      rw [State.afterRound_plan, s.plan_boundaryStages]
      exact CapPlan.cell_clearColumn ..
    case window =>
      rw [State.afterRound_plan, s.plan_boundaryStages]
      rfl
    case shedNext =>
      rw [State.afterRound_feeder, hshed]
      rfl
    case binds =>
      rw [State.session_afterRound, s.session_boundaryStages]
      unfold SessionRec.countBind
      cases (s.session p).body <;> rfl
    case moves =>
      have hperm := State.roundResult_perm hnodup
      rw [hqueue, hactive] at hperm
      rw [State.afterRound_queue, State.afterRound_active, ← List.mem_append, hperm.mem_iff, List.mem_append]
    case ports =>
      rw [State.afterRound_ports, State.afterRound_feeder, hceiling, hcause, s.ports_boundaryStages]
      rfl
    case link =>
      rw [State.afterRound_link, State.afterRound_feeder, hceiling]
      exact congrArg State.link s.boundaryStages_frame
    case frame => exact State.afterRound_frame alloc s.boundaryStages_kept
  case rises =>
    intro s hs hmode hphase
    have hdue : s.boundaryDue = false := by
      simp only [State.boundaryDue, Bool.and_eq_false_imp, decide_eq_false_iff_not]
      omega
    change execSlotPhaseRise s = _
    rw [execSlotPhaseRise, if_pos hmode, hdue]
    exact hs.event rfl rfl rfl
  case held =>
    intro s hs hmode
    change execSlotPhaseRise s = _
    rw [execSlotPhaseRise, if_neg (by rw [hmode]; exact nofun)]
    exact hs.event rfl rfl rfl
  case shed =>
    intro shed s hs hlaw hmode hphase hshed hends
    have hdue := State.boundaryDue_of_phase hmode hphase
    obtain ⟨alloc, hevent, -⟩ := hs.takeBoundary hlaw
    obtain ⟨-, -, hafter⟩ := s.ceiling_boundaryStages
    have hfield : s.shedEnds = true := by
      rw [State.shedEnds, hshed]
      exact decide_eq_true hends
    have hnone : s.shedAfter = none := by
      rw [State.shedAfter, hshed]
      exact if_pos hends
    have hports := s.ports_boundaryStages
    rw [hfield, Bool.or_true] at hports
    refine ⟨_, (exec_shedExpiry_of_due hdue hshed hends).trans hevent, (exec_slotBoundary_of_due hdue).trans hevent,
      hafter.trans hnone, ?_⟩
    rw [State.afterRound_ports, hports]
    exact ⟨Bool.or_true _, Bool.or_true _, Bool.or_true _⟩
  case bind =>
    intro p token tag e terms s hs hlaw hmode hphase hb he
    have hdue := State.boundaryDue_of_phase hmode hphase
    obtain ⟨alloc, hevent, -⟩ := hs.takeBoundary hlaw
    have hends : s.bindEnds p = true := by
      rw [State.bindEnds, hb]
      exact decide_eq_true (Nat.succ_le_succ he)
    have hsession : (s.boundaryStages.afterRound alloc).session p =
        { s.session p with body := .vacant, last := some ⟨.bindExpired, 0, tag, s.timer.slot + 1⟩ } := by
      rw [State.session_afterRound, State.session_boundaryStages]
      simp only [SessionRec.countBind, hb, if_pos (Nat.succ_le_succ he)]
    refine ⟨_, (exec_bindExpiry_of_due hdue hends).trans hevent, (exec_slotBoundary_of_due hdue).trans hevent,
      congrArg SessionRec.body hsession, congrArg SessionRec.last hsession, ?_⟩
    rw [State.afterRound_ports, s.ports_boundaryStages]
    simp [Ports.enter, PortRec.enter, ChangeSet.enter, hends]
  case starved =>
    intro p s hs hlaw hmode hphase hp htarget hpaused hcount
    have hdue := State.boundaryDue_of_phase hmode hphase
    obtain ⟨alloc, hevent, hreleased⟩ := hs.takeBoundary hlaw
    obtain ⟨hadmitted, hstarves⟩ := State.starvesAt_of_target_zero hp htarget hpaused hcount
    obtain ⟨hqueue, hactive, hrecord⟩ := State.afterRound_of_starved hreleased hadmitted hstarves
    have hmem := State.mem_roundStarved.mpr ⟨hadmitted, hstarves⟩
    exact ⟨_, (exec_starvationReturn_of_due hdue hmem).trans hevent, (exec_slotBoundary_of_due hdue).trans hevent,
      hqueue, hactive, congrArg AllocRec.setpoint hrecord,
      congrArg AllocRec.starvation hrecord, congrArg AllocRec.rampBase hrecord⟩
  case round =>
    intro a b s grant count hs hlaw hmode hphase hidle hframe hrecords ha hgrant hcount
    have hdue := State.boundaryDue_of_phase hmode hphase
    obtain ⟨alloc, hevent, hreleased⟩ := hs.takeBoundary hlaw
    obtain ⟨hqueue, hactive, halloc, -⟩ := s.boundaryStages_collections
    obtain ⟨-, -, -, hlisted⟩ := id hlaw
    have hstart : b = s.boundaryStages.roundStart := by
      refine State.eq_roundStart hframe fun p => ?_
      rw [hactive, State.allocOf, State.allocOf, halloc]
      exact hrecords p
    subst hstart
    rw [State.budget_roundStart] at ha hgrant ⊢
    obtain rfl : a = s.boundaryStages.roundAdmitted := ha
    obtain rfl : grant = s.boundaryStages.roundGrant := funext hgrant
    obtain rfl : count = fun p =>
        (s.boundaryStages.roundAdmitted.allocOf p).countAfter (s.boundaryStages.roundGrant p) := funext hcount
    have hidleStages : s.boundaryStages.IdleOffList := fun p hp => by
      rw [State.allocOf, halloc]
      rw [hactive] at hp
      exact hidle p hp
    have hadmitted := State.allocOf_roundAdmitted hlaw.nodup_boundaryStages hidleStages
    rw [hqueue, hactive] at hadmitted
    obtain ⟨htimer, hplan, hfeeder, hsessions⟩ := s.boundaryStages.roundStart_kept alloc
    have hclass : ∀ p, p ∈ s.queue ∨ p ∈ s.active → s.boundaryStages.classOf p = s.classOf p := fun p hp => by
      rw [State.classOf, State.session_boundaryStages_of_eligible ((hlisted p).mpr hp)]
      rfl
    refine ⟨_, (exec_slotBoundary_of_due hdue).trans hevent, htimer, hplan, hfeeder, hsessions, fun p => ?records,
      fun p hp hstays => State.afterRound_of_kept hreleased hp hstays, fun p hp hstarves => ?starved,
      fun p hp => State.afterRound_of_off hreleased hp, s.boundaryStages.afterRound_active_eq alloc,
      s.boundaryStages.afterRound_queue_eq alloc, State.sumOver_target_le hreleased⟩
    case records =>
      refine (hadmitted p).imp_right fun ⟨hsuspended, hmem, hne, c, hc, hin, hzero⟩ => ?_
      rw [hclass p (.inr hmem)] at hne
      rw [hclass c (.inl hc)] at hzero
      exact ⟨hsuspended, hmem, hne, c, hc, hin, hzero⟩
    case starved =>
      obtain ⟨-, hoff, hrecord⟩ := State.afterRound_of_starved hreleased hp hstarves
      exact ⟨hoff, hrecord⟩

end Sys2Proof.Machine
end

section
/-! PROOFS. What a command does to the two collections, to the sessions on them and to the allocator's records, said as a list
of acts; the laws of the collections are laws that every act keeps. -/

namespace Sys2Proof.Machine

/-! ### Records of the allocator (R33, R39, R41, R145 to R147) -/

/-- A record as it stands off the active list (R33, R39, R41, R147). -/
abbrev AllocRec.IsIdle (a : AllocRec) : Prop :=
  a.setpoint = 0 ∧ a.target = 0 ∧ a.rampBase = 0 ∧ a.starvation = 0 ∧ a.paused = false

/-- A PAUSED session's record has setpoint and target 0 (R145, R146). -/
abbrev AllocRec.PausedZero (a : AllocRec) : Prop := a.paused = true → a.setpoint = 0 ∧ a.target = 0

/-- A change of a record, on the active list or off it, that keeps a PAUSED record and a record off the list at zero. -/
structure AllocRec.StaysZero (onList : Prop) (a b : AllocRec) : Prop where
  paused : a.PausedZero → b.PausedZero
  idle : ¬ onList → a.IsIdle → b.IsIdle

namespace AllocRec.StaysZero

variable {onList : Prop} {a b c : AllocRec}

theorem refl (onList : Prop) (a : AllocRec) : a.StaysZero onList a := ⟨id, fun _ => id⟩

theorem trans (h : a.StaysZero onList b) (h' : b.StaysZero onList c) : a.StaysZero onList c :=
  ⟨fun ha => h'.paused (h.paused ha), fun hoff ha => h'.idle hoff (h.idle hoff ha)⟩

/-- Fields that neither law reads may change freely. -/
theorem of_same (hsetpoint : b.setpoint = a.setpoint) (htarget : b.target = a.target) (hramp : b.rampBase = a.rampBase)
    (hstarvation : b.starvation = a.starvation) (hpaused : b.paused = a.paused) : a.StaysZero onList b := by
  refine ⟨?_, fun _ => ?_⟩
  · rw [AllocRec.PausedZero, AllocRec.PausedZero, hsetpoint, htarget, hpaused]
    exact id
  · rw [AllocRec.IsIdle, AllocRec.IsIdle, hsetpoint, htarget, hramp, hstarvation, hpaused]
    exact id

/-- Setpoint and target may change as long as 0 stays 0. -/
theorem of_powers {setpoint target : Nat} (hpaused : a.paused = true → a.setpoint = 0 → a.target = 0 → setpoint = 0 ∧ target = 0)
    (hoff : ¬ onList → a.setpoint = 0 → a.target = 0 → setpoint = 0 ∧ target = 0) :
    a.StaysZero onList { a with setpoint := setpoint, target := target } := by
  refine ⟨fun ha hp => ?_, fun hn ⟨hs, ht, hrest⟩ => ?_⟩
  · obtain ⟨hs, ht⟩ := ha hp
    exact hpaused hp hs ht
  · obtain ⟨hs', ht'⟩ := hoff hn hs ht
    exact ⟨hs', ht', hrest⟩

/-- The release of a pending raise brings no record from 0 (R79). -/
theorem of_released (h : a.Released b) : a.StaysZero onList b := by
  obtain rfl | ⟨-, rfl⟩ := h
  · exact refl onList b
  · exact of_powers (fun _ _ ht => ⟨ht, ht⟩) fun _ _ ht => ⟨ht, ht⟩

end AllocRec.StaysZero

/-! ### The acts -/

/-- What the rules do to the collections and to what the laws of the collections read. -/
inductive State.Act : State → State → Prop
  /-- No pad becomes ELIGIBLE or ceases to be, and records change within the laws. A session on the active list may take
  another class (R16). -/
  | stay {s t : State} : (∀ p, t.padState p = .eligible ↔ s.padState p = .eligible) →
      (∀ p ∈ s.queue, s.padState p = .eligible → t.classOf p = s.classOf p) → t.queue = s.queue → t.active = s.active →
      (∀ p, (s.allocOf p).StaysZero (p ∈ s.active) (t.allocOf p)) → Act s t
  /-- A session leaves eligibility (R33). -/
  | leave {s t : State} (p : Pad) : t.padState p ≠ .eligible → (∀ q, q ≠ p → t.session q = s.session q) →
      t.queue = s.queue.erase p → t.active = s.active.erase p → t.alloc = s.alloc.set p (s.allocOf p).idle → Act s t
  /-- A session becomes eligible outside a round (R31). -/
  | join {s t : State} (p : Pad) : s.padState p ≠ .eligible → t.padState p = .eligible →
      (∀ q, q ≠ p → t.session q = s.session q) → t.queue = insertBefore (t.standsAfter p) p s.queue →
      t.active = s.active → t.alloc = s.alloc → Act s t
  /-- A QUEUED session with new terms is inserted again (R32). -/
  | requeue {s t : State} (p : Pad) : p ∈ s.queue → s.padState p = .eligible → t.padState p = .eligible →
      (∀ q, q ≠ p → t.session q = s.session q) → t.queue = insertBefore (t.standsAfter p) p (s.queue.erase p) →
      t.active = s.active → t.alloc = s.alloc → Act s t
  /-- An ACTIVE session goes back to the queue (R39, R41). -/
  | suspend {s t : State} (p : Pad) : p ∈ s.active → t.sessions = s.sessions →
      t.queue = insertBefore (t.standsAfter p) p s.queue → t.active = s.active.erase p →
      t.alloc = s.alloc.set p (s.allocOf p).idle → Act s t
  /-- A QUEUED session is admitted (R40). -/
  | enlist {s t : State} (p : Pad) : p ∈ s.queue → t.sessions = s.sessions → t.queue = s.queue.erase p →
      t.active = s.active ++ [p] → t.alloc = s.alloc.set p { s.allocOf p with rampBase := 0, starvation := 0 } → Act s t
  /-- Device reset empties both collections (R27, R46). -/
  | reset {s t : State} : (∀ p, t.padState p ≠ .eligible) → t.queue = [] → t.active = [] →
      (∀ p, t.allocOf p = .reset) → Act s t

/-- Between two states the collections, their sessions and the records changed by acts only. -/
abbrev State.Acts (s t : State) : Prop := Relation.ReflTransGen State.Act s t

/-! ### The membership law (R28) -/

theorem State.membershipLaw_iff (s : State) :
    s.MembershipLaw ↔ (s.queue ++ s.active).Nodup ∧ ∀ p, s.padState p = .eligible ↔ p ∈ s.queue ++ s.active := by
  simp only [State.MembershipLaw, List.nodup_append', List.disjoint_left, List.mem_append, and_assoc]

/-- The law holds where the same pads are ELIGIBLE and the collections together hold the same. -/
theorem State.MembershipLaw.of_perm {s t : State} (h : s.MembershipLaw)
    (hstate : ∀ p, t.padState p = .eligible ↔ s.padState p = .eligible)
    (hperm : (t.queue ++ t.active).Perm (s.queue ++ s.active)) : t.MembershipLaw := by
  rw [State.membershipLaw_iff] at h ⊢
  obtain ⟨hnodup, hmem⟩ := h
  exact ⟨hperm.nodup_iff.mpr hnodup, fun p => by rw [hstate, hmem, hperm.mem_iff]⟩

theorem State.padState_congr {s t : State} {p : Pad} (h : t.session p = s.session p) : t.padState p = s.padState p := by
  rw [State.padState, h, State.padState]

theorem State.classOf_congr {s t : State} {p : Pad} (h : t.session p = s.session p) : t.classOf p = s.classOf p := by
  rw [State.classOf, h, State.classOf]

theorem State.Act.membershipLaw {s t : State} (hact : s.Act t) (h : s.MembershipLaw) : t.MembershipLaw := by
  cases hact with
  | stay hstate _ hqueue hactive _ => exact h.of_perm hstate (by rw [hqueue, hactive])
  | leave p hoff hother hqueue hactive _ =>
    obtain ⟨hnq, hna⟩ := h.not_mem_erase p
    obtain ⟨hq, ha, hdisjoint, hmem⟩ := h
    rw [State.MembershipLaw, hqueue, hactive]
    refine ⟨hq.erase p, ha.erase p, fun q hin hin' => hdisjoint q (List.mem_of_mem_erase hin) (List.mem_of_mem_erase hin'),
      fun q => ?_⟩
    by_cases hqp : q = p
    · subst hqp
      exact iff_of_false hoff (not_or.mpr ⟨hnq, hna⟩)
    · rw [State.padState_congr (hother q hqp), hmem, List.mem_erase_of_ne hqp, List.mem_erase_of_ne hqp]
  | join p hoff hon hother hqueue hactive _ =>
    rw [State.membershipLaw_iff] at h ⊢
    obtain ⟨hnodup, hmem⟩ := h
    have hperm : (t.queue ++ t.active).Perm (p :: (s.queue ++ s.active)) := by
      rw [hqueue, hactive]
      exact (insertBefore_perm ..).append_right _
    refine ⟨hperm.nodup_iff.mpr (List.nodup_cons.mpr ⟨fun hp => hoff ((hmem p).mpr hp), hnodup⟩), fun q => ?_⟩
    rw [hperm.mem_iff, List.mem_cons]
    by_cases hqp : q = p
    · subst hqp
      exact iff_of_true hon (.inl rfl)
    · rw [State.padState_congr (hother q hqp), hmem]
      exact (or_iff_right hqp).symm
  | requeue p hp hon hon' hother hqueue hactive _ =>
    refine h.of_perm (fun q => ?_) ?_
    · by_cases hqp : q = p
      · subst hqp
        exact iff_of_true hon' hon
      · rw [State.padState_congr (hother q hqp)]
    · rw [hqueue, hactive]
      exact ((insertBefore_perm ..).trans (List.perm_cons_erase hp).symm).append_right _
  | suspend p hp hsessions hqueue hactive _ =>
    refine h.of_perm (fun q => by rw [State.padState, State.session, hsessions]; rfl) ?_
    rw [hqueue, hactive]
    exact ((insertBefore_perm ..).append_right _).trans
      (List.perm_middle.symm.trans ((List.perm_cons_erase hp).symm.append_left _))
  | enlist p hp hsessions hqueue hactive _ =>
    refine h.of_perm (fun q => by rw [State.padState, State.session, hsessions]; rfl) ?_
    rw [hqueue, hactive, ← List.append_assoc]
    exact List.perm_append_comm.trans ((List.perm_cons_erase hp).symm.append_right _)
  | reset hoff hqueue hactive _ =>
    rw [State.membershipLaw_iff, hqueue, hactive]
    exact ⟨List.nodup_nil, fun p => iff_of_false (hoff p) List.not_mem_nil⟩

/-! ### The class order of the queue (R29, R30) -/

/-- What stands after a new entry is of its class or a greater one, and what does not is of its class or a smaller one. -/
theorem State.classOf_of_standsAfter (s : State) (p q : Pad) :
    (s.standsAfter p q = true → s.classOf p ≤ s.classOf q) ∧ (s.standsAfter p q = false → s.classOf q ≤ s.classOf p) := by
  simp only [State.standsAfter, Bool.or_eq_true, Bool.and_eq_true, decide_eq_true_eq, Bool.or_eq_false_iff,
    Bool.and_eq_false_imp, decide_eq_false_iff_not]
  refine ⟨?_, fun ⟨hlt, _⟩ => not_lt.mp hlt⟩
  rintro (hlt | ⟨heq, -⟩)
  · exact hlt.le
  · exact heq.le

/-- Insertion keeps the class order. -/
theorem State.pairwise_insertBefore {s : State} {l : List Pad} (p : Pad)
    (h : l.Pairwise fun a b => s.classOf a ≤ s.classOf b) :
    (insertBefore (s.standsAfter p) p l).Pairwise fun a b => s.classOf a ≤ s.classOf b := by
  refine insertBefore_pairwise h (fun q _ hq => ?_) fun q _ hq => ?_
  · obtain ⟨-, hbefore⟩ := s.classOf_of_standsAfter p q
    exact hbefore hq
  · obtain ⟨hafter, -⟩ := s.classOf_of_standsAfter p q
    exact ⟨hafter hq, fun x hx => (hafter hq).trans hx⟩

/-- A list in class order stays so where its pads keep their classes. -/
theorem State.pairwise_classOf_congr {s t : State} {l : List Pad} (hclass : ∀ p ∈ l, t.classOf p = s.classOf p)
    (h : l.Pairwise fun a b => s.classOf a ≤ s.classOf b) : l.Pairwise fun a b => t.classOf a ≤ t.classOf b :=
  h.imp_of_mem fun ha hb hle => by rw [hclass _ ha, hclass _ hb]; exact hle

theorem State.Act.queueClassOrder {s t : State} (hact : s.Act t) (hlaw : s.MembershipLaw) (h : s.QueueClassOrder) :
    t.QueueClassOrder := by
  unfold State.QueueClassOrder
  have hsame : t.sessions = s.sessions → ∀ p, t.classOf p = s.classOf p := fun hsessions p =>
    State.classOf_congr (by rw [State.session, hsessions]; rfl)
  cases hact with
  | stay _ hclass hqueue _ _ =>
    obtain ⟨-, -, -, hmem⟩ := hlaw
    rw [hqueue]
    exact State.pairwise_classOf_congr (fun p hp => hclass p hp ((hmem p).mpr (.inl hp))) h
  | leave p _ hother hqueue _ _ =>
    obtain ⟨hnq, -⟩ := hlaw.not_mem_erase p
    rw [hqueue]
    exact State.pairwise_classOf_congr (fun q hq => State.classOf_congr (hother q (ne_of_mem_of_not_mem hq hnq)))
      (h.sublist List.erase_sublist)
  | join p hoff _ hother hqueue _ _ =>
    obtain ⟨-, -, -, hmem⟩ := hlaw
    have hnq : p ∉ s.queue := fun hp => hoff ((hmem p).mpr (.inl hp))
    rw [hqueue]
    exact State.pairwise_insertBefore p
      (State.pairwise_classOf_congr (fun q hq => State.classOf_congr (hother q (ne_of_mem_of_not_mem hq hnq))) h)
  | requeue p _ _ _ hother hqueue _ _ =>
    obtain ⟨hnq, -⟩ := hlaw.not_mem_erase p
    rw [hqueue]
    exact State.pairwise_insertBefore p
      (State.pairwise_classOf_congr (fun q hq => State.classOf_congr (hother q (ne_of_mem_of_not_mem hq hnq)))
        (h.sublist List.erase_sublist))
  | suspend p _ hsessions hqueue _ _ =>
    rw [hqueue]
    exact State.pairwise_insertBefore p (State.pairwise_classOf_congr (fun q _ => hsame hsessions q) h)
  | enlist p _ hsessions hqueue _ _ =>
    rw [hqueue]
    exact State.pairwise_classOf_congr (fun q _ => hsame hsessions q) (h.sublist List.erase_sublist)
  | reset _ hqueue _ _ =>
    rw [hqueue]
    exact .nil

/-- The class order is kept together with the membership law, which says what no queued pad can become. -/
theorem State.Act.queueLaws {s t : State} (hact : s.Act t) (h : s.MembershipLaw ∧ s.QueueClassOrder) :
    t.MembershipLaw ∧ t.QueueClassOrder := by
  obtain ⟨hlaw, horder⟩ := h
  exact ⟨hact.membershipLaw hlaw, hact.queueClassOrder hlaw horder⟩

/-! ### The idle law (R33, R39, R41, R145 to R147) -/

/-- Pads off the active list are idle, and PAUSED pads are at 0. -/
abbrev State.ZeroLaw (s : State) : Prop := s.IdleOffList ∧ s.PausedAtZero

/-- The idle law stays where one record became idle and its pad alone may have left the list. -/
theorem State.ZeroLaw.idled {s t : State} {p : Pad} (h : s.ZeroLaw) (halloc : t.alloc = s.alloc.set p (s.allocOf p).idle)
    (hactive : ∀ q, q ≠ p → q ∉ t.active → q ∉ s.active) : t.ZeroLaw := by
  obtain ⟨hidle, hpaused⟩ := h
  have hself : t.allocOf p = (s.allocOf p).idle := by rw [State.allocOf, halloc, Table.get_set_self]
  have hne : ∀ q, q ≠ p → t.allocOf q = s.allocOf q := fun q hq => by
    rw [State.allocOf, halloc, Table.get_set_ne _ _ hq]; rfl
  refine ⟨fun q hq => ?_, fun q => ?_⟩
  · by_cases hqp : q = p
    · subst hqp
      rw [hself]
      exact AllocRec.idle_fields _
    · rw [hne q hqp]
      exact hidle q (hactive q hqp hq)
  · by_cases hqp : q = p
    · subst hqp
      rw [hself]
      exact nofun
    · rw [hne q hqp]
      exact hpaused q

theorem State.Act.zeroLaw {s t : State} (hact : s.Act t) (h : s.ZeroLaw) : t.ZeroLaw := by
  cases hact with
  | stay _ _ _ hactive hrecords =>
    obtain ⟨hidle, hpaused⟩ := h
    exact ⟨fun p hp => (hrecords p).idle (hactive ▸ hp) (hidle p (hactive ▸ hp)), fun p => (hrecords p).paused (hpaused p)⟩
  | leave p _ _ _ hactive halloc =>
    exact h.idled halloc fun q hq hoff hin => hoff (by rw [hactive]; exact (List.mem_erase_of_ne hq).mpr hin)
  | suspend p _ _ _ hactive halloc =>
    exact h.idled halloc fun q hq hoff hin => hoff (by rw [hactive]; exact (List.mem_erase_of_ne hq).mpr hin)
  | join p _ _ _ _ hactive halloc =>
    simp only [State.ZeroLaw, State.IdleOffList, State.PausedAtZero, State.allocOf, hactive, halloc]
    exact h
  | requeue p _ _ _ _ _ hactive halloc =>
    simp only [State.ZeroLaw, State.IdleOffList, State.PausedAtZero, State.allocOf, hactive, halloc]
    exact h
  | enlist p _ _ _ hactive halloc =>
    obtain ⟨hidle, hpaused⟩ := h
    have hrecord : ∀ q, (s.allocOf q).StaysZero False (t.allocOf q) := fun q => by
      rw [State.allocOf, State.allocOf, halloc, Table.get_set]
      split
      · rename_i hqp
        subst hqp
        exact ⟨id, fun _ ⟨hs, ht, _, _, hp⟩ => ⟨hs, ht, rfl, rfl, hp⟩⟩
      · exact .refl False _
    refine ⟨fun q hq => (hrecord q).idle id (hidle q fun hin => hq ?_), fun q => (hrecord q).paused (hpaused q)⟩
    rw [hactive]
    exact List.mem_append_left _ hin
  | reset _ _ _ hrecords =>
    simp only [State.ZeroLaw, State.IdleOffList, State.PausedAtZero, hrecords]
    exact ⟨fun _ _ => ⟨rfl, rfl, rfl, rfl, rfl⟩, fun _ => nofun⟩

/-- A law that every act keeps is kept by any number of acts. -/
theorem State.Acts.keeps {law : State → Prop} (hact : ∀ {s t : State}, s.Act t → law s → law t) {s t : State}
    (h : s.Acts t) (hs : law s) : law t := by
  induction h with
  | refl => exact hs
  | tail _ h ih => exact hact h ih

end Sys2Proof.Machine
end

section
/-! PROOFS. The operations that leave the collections, those that change records only, and those that move a pad: each is a
number of acts. -/

namespace Sys2Proof.Machine

/-! ### Operations that leave sessions, records and collections -/

/-- Sessions, records and collections are the same in two states. -/
structure State.SameField (s t : State) : Prop where
  sessions : t.sessions = s.sessions
  alloc : t.alloc = s.alloc
  queue : t.queue = s.queue
  active : t.active = s.active

/-- Sessions and collections are the same in two states, and records changed within the laws. -/
structure State.SameLists (s t : State) : Prop where
  sessions : t.sessions = s.sessions
  queue : t.queue = s.queue
  active : t.active = s.active
  records : ∀ p, (s.allocOf p).StaysZero (p ∈ s.active) (t.allocOf p)

theorem State.SameField.refl (s : State) : s.SameField s := ⟨rfl, rfl, rfl, rfl⟩

theorem State.SameField.trans {s t u : State} (h : s.SameField t) (h' : t.SameField u) : s.SameField u :=
  ⟨h'.sessions.trans h.sessions, h'.alloc.trans h.alloc, h'.queue.trans h.queue, h'.active.trans h.active⟩

theorem State.SameField.lists {s t : State} (h : s.SameField t) : s.SameLists t :=
  ⟨h.sessions, h.queue, h.active, fun p => by rw [State.allocOf, State.allocOf, h.alloc]; exact .refl _ _⟩

theorem State.SameLists.trans {s t u : State} (h : s.SameLists t) (h' : t.SameLists u) : s.SameLists u :=
  ⟨h'.sessions.trans h.sessions, h'.queue.trans h.queue, h'.active.trans h.active,
    fun p => (h.records p).trans (h.active ▸ h'.records p)⟩

theorem State.SameLists.acts {s t : State} (h : s.SameLists t) : s.Acts t := by
  have hsession : ∀ p, t.session p = s.session p := fun p => by rw [State.session, h.sessions]; rfl
  exact .single (.stay (fun p => by rw [State.padState_congr (hsession p)])
    (fun p _ _ => State.classOf_congr (hsession p)) h.queue h.active h.records)

theorem State.SameField.acts {s t : State} (h : s.SameField t) : s.Acts t := h.lists.acts

theorem State.Acts.trans {s t u : State} (h : s.Acts t) (h' : t.Acts u) : s.Acts u := Relation.ReflTransGen.trans h h'

theorem State.Acts.lists {s t u : State} (h : s.Acts t) (h' : t.SameLists u) : s.Acts u := h.trans h'.acts

theorem State.Acts.field {s t u : State} (h : s.Acts t) (h' : t.SameField u) : s.Acts u := h.trans h'.acts

theorem State.Acts.ite {s t u : State} (c : Prop) [Decidable c] (ht : s.Acts t) (hu : s.Acts u) :
    s.Acts (if c then t else u) := by
  split
  · exact ht
  · exact hu

theorem State.SameLists.foldl {f : State → Pad → State} (h : ∀ (s : State) (p : Pad), s.SameLists (f s p)) (l : List Pad)
    (s : State) : s.SameLists (l.foldl f s) := by
  induction l generalizing s with
  | nil => exact (State.SameField.refl s).lists
  | cons p rest ih => exact (h s p).trans (ih (f s p))

/-- One record changes within the laws. -/
theorem State.setAlloc_lists {s : State} {p : Pad} {a : AllocRec} (h : (s.allocOf p).StaysZero (p ∈ s.active) a) :
    s.SameLists (s.setAlloc p a) :=
  ⟨rfl, rfl, rfl, fun q => by
    by_cases hq : q = p
    · subst hq
      rw [State.allocOf_setAlloc_self]
      exact h
    · rw [State.allocOf_setAlloc_ne _ _ _ hq]
      exact .refl _ _⟩

theorem State.setAllocs_lists {s : State} {f : Pad → AllocRec} (h : ∀ p, (s.allocOf p).StaysZero (p ∈ s.active) (f p)) :
    s.SameLists (s.setAllocs f) :=
  ⟨rfl, rfl, rfl, fun p => by rw [State.allocOf_setAllocs]; exact h p⟩

theorem State.answer_field (s : State) (port : Port) (status : Status) (body : List Byte) :
    s.SameField (s.answer port status body) := by
  rw [s.answer_frame]; exact ⟨rfl, rfl, rfl, rfl⟩

theorem State.answerAfter_field (s : State) (port : Port) (waits : List StoreWait) (status : Status)
    (body : List Byte) : s.SameField (s.answerAfter port waits status body) := by
  rw [s.answerAfter_frame]; exact ⟨rfl, rfl, rfl, rfl⟩

theorem State.setService_field (s : State) (v : ServiceState) : s.SameField (s.setService v) := by
  rw [s.setService_frame]; exact ⟨rfl, rfl, rfl, rfl⟩

theorem State.releaseHeld_field (s : State) (id : RecordId) : s.SameField (s.releaseHeld id) := by
  rw [State.releaseHeld]
  split
  · exact s.answerAfter_field ..
  · exact .refl s

theorem State.pollReport_field (s : State) (p : Pad) (r : Report) : s.SameField (s.pollReport p r) := by
  unfold State.pollReport
  split <;> exact ⟨rfl, rfl, rfl, rfl⟩

theorem State.openService_field (s : State) (field : Byte) : s.SameField (s.openService field) := by
  rw [State.openService]
  split
  · exact s.answer_field ..
  split
  · exact s.answer_field ..
  · exact (s.setService_field _).trans (State.answer_field ..)

theorem State.confirmService_field (s : State) (field : Byte) : s.SameField (s.confirmService field) := by
  rw [State.confirmService]
  split <;> exact (s.setService_field _).trans (State.answer_field ..)

theorem State.setRating_field (s : State) (pad : Byte) (rating : Word16) : s.SameField (s.setRating pad rating) := by
  rw [State.setRating]
  split
  · exact s.answer_field ..
  split
  · dsimp only
    split
    · exact s.answer_field ..
    · refine State.SameField.trans ?_ (State.answerAfter_field ..)
      exact ⟨rfl, rfl, rfl, rfl⟩
  · exact s.answer_field ..

/-- A gated request leaves what its act leaves, or refuses (R154). -/
theorem State.Acts.gated {s : State} {k : RequestKind} {act : State → State} (h : s.Acts (act s)) :
    s.Acts (s.gated k act) := by
  obtain he | ⟨u, status, rfl | rfl, he⟩ := s.gated_cases k act
  · rw [he]; exact h
  · rw [he]; exact (u.answer_field ..).acts
  · rw [he]; exact ((s.setService_field _).trans (State.answer_field ..)).acts

theorem State.Acts.gatedOn {s : State} {port : Port} {k : RequestKind} {act : State → State} (h : s.Acts (act s)) :
    s.Acts (s.gatedOn port k act) := by
  cases port
  case s => exact h.gated
  all_goals exact h

/-! ### Operations that change records only -/

/-- A raise release attempt (R79). -/
theorem State.releaseAttempt_lists (s : State) : s.SameLists s.releaseAttempt := by
  refine ⟨?_, ?_, ?_, fun p => .of_released (s.allocOf_releaseAttempt p)⟩ <;> rw [s.releaseAttempt_frame]

/-- The end of an event (R80, R163). -/
theorem finishEvent_lists (before after : State) : after.SameLists (finishEvent before after) := by
  refine ⟨?_, ?_, ?_, fun p => .of_released (allocOf_finishEvent before after p)⟩ <;> rw [finishEvent_frame]

theorem State.Acts.event {s after t : State} (h : s.Acts after) (he : s.event after = .next t) : s.Acts t := by
  cases hp : s.powered with
  | false => rw [State.event_of_unpowered hp] at he; cases he; exact .refl
  | true =>
    rw [State.event_of_powered hp] at he
    cases he
    exact h.lists (finishEvent_lists s after)

theorem State.SameField.event {s after t : State} (h : s.SameField after) (he : s.event after = .next t) : s.Acts t :=
  h.acts.event he

theorem State.SameLists.event {s after t : State} (h : s.SameLists after) (he : s.event after = .next t) : s.Acts t :=
  h.acts.event he

/-- A share of a setpoint of 0 is 0. -/
theorem curtailed_zero (budget total pmin : Nat) : curtailed 0 budget total pmin = 0 := by
  simp [curtailed]

/-- A curtailment leaves a PAUSED session at 0 (R84, R145). -/
theorem State.curtail_lists (s : State) : s.SameLists s.curtail := by
  refine ⟨?_, ?_, ?_, fun p => ?_⟩
  iterate 3 rw [s.curtail_frame]
  by_cases hp : p ∈ s.active
  · obtain h | ⟨x, hx, h⟩ := State.allocOf_curtail_of_mem hp
    · rw [h]; exact .refl _ _
    · rw [h]
      refine .of_powers (fun _ hzero _ => ?_) fun hoff => absurd hp hoff
      rw [hx, hzero, curtailed_zero]
      exact ⟨rfl, rfl⟩
  · rw [State.allocOf_curtail_of_not_mem hp]; exact .refl _ _

theorem State.setCeiling_field (s : State) (t : Term) : s.SameField (s.setCeiling t) := by
  rw [s.setCeiling_frame]; exact ⟨rfl, rfl, rfl, rfl⟩

theorem State.reformInSlot_lists (s : State) : s.SameLists s.reformInSlot := by
  have hceiling := (s.setCeiling_field s.formCeiling).lists
  have hround : ∀ u : State, u.SameLists u.requestRound := fun u => State.SameField.lists ⟨rfl, rfl, rfl, rfl⟩
  rw [State.reformInSlot]
  split
  · exact (State.SameField.refl s).lists
  · refine State.SameLists.trans ?_ (hround _)
    split
    · exact hceiling.trans (State.curtail_lists _)
    · exact hceiling

/-- A clamp leaves 0 at 0 (R86). -/
theorem State.clampPad_lists (s : State) (p : Pad) : s.SameLists (s.clampPad p) := by
  refine ⟨?_, ?_, ?_, fun q => ?_⟩
  iterate 3 rw [s.clampPad_frame]
  by_cases hq : q = p
  · subst hq
    rw [s.allocOf_clampPad_self]
    exact .of_powers (fun _ hs ht => by simp [hs, ht]) fun _ hs ht => by simp [hs, ht]
  · rw [s.allocOf_clampPad_ne p hq]; exact .refl _ _

/-- The clamp of a raised P_min leaves 0 at 0 (R87). -/
theorem State.minPowerClamp_lists (s : State) : s.SameLists s.minPowerClamp :=
  State.setAllocs_lists fun p => .of_powers (fun _ hs ht => by simp [hs, ht, dropSmall])
    fun _ hs ht => by simp [hs, ht, dropSmall]

theorem State.handOnPadCell_lists (before s : State) (p : Pad) : s.SameLists (State.handOnPadCell before s p) := by
  have hsame := (State.SameField.refl s).lists
  rw [State.handOnPadCell]
  split
  · exact hsame
  split
  · split
    · exact s.clampPad_lists p
    · exact hsame
  split
  · exact State.SameField.lists ⟨rfl, rfl, rfl, rfl⟩
  · exact hsame

theorem State.handOnCells_lists (before s : State) : s.SameLists (State.handOnCells before s) := by
  have h := State.SameLists.foldl (State.handOnPadCell_lists before) padList s
  unfold State.handOnCells
  dsimp only
  split
  · exact h
  · exact h.trans (State.reformInSlot_lists _)

theorem State.takeLimits_lists (s : State) (ramp pmin fallback tie : Nat) :
    s.SameLists (s.takeLimits ramp pmin fallback tie) := by
  unfold State.takeLimits
  extract_lets p feeder s1 s2
  have hs1 : s.SameLists s1 := State.SameField.lists ⟨rfl, rfl, rfl, rfl⟩
  have hs2 : s.SameLists s2 := by
    simp only [s2]
    split
    · exact hs1.trans s1.minPowerClamp_lists
    · exact hs1
  exact (hs2.trans s2.reformInSlot_lists).trans (State.SameField.lists ⟨rfl, rfl, rfl, rfl⟩)

theorem State.endShed_lists (s : State) : s.SameLists s.endShed := by
  rw [State.endShed]
  split
  · refine State.SameLists.trans (State.SameField.lists ?_) (State.reformInSlot_lists _)
    exact ⟨rfl, rfl, rfl, rfl⟩
  · exact (State.SameField.refl s).lists

theorem State.takeSlot_lists (s : State) (n : Word16) : s.SameLists (s.takeSlot n) := by
  refine State.SameLists.trans (.trans (State.SameField.lists ?_) (State.reformInSlot_lists _))
    (State.SameField.lists ⟨rfl, rfl, rfl, rfl⟩)
  exact ⟨rfl, rfl, rfl, rfl⟩

theorem State.supplyLineSettles_lists (s : State) (line : Line) : s.SameLists (s.supplyLineSettles line) := by
  rw [State.supplyLineSettles]
  split
  · refine State.SameLists.trans (State.SameField.lists ?_) (State.reformInSlot_lists _)
    exact ⟨rfl, rfl, rfl, rfl⟩
  · exact State.SameField.lists ⟨rfl, rfl, rfl, rfl⟩

theorem State.startHold_lists (s : State) (p : Pad) (value : Nat) : s.SameLists (s.startHold p value) :=
  State.setAlloc_lists (.of_same rfl rfl rfl rfl rfl)

theorem AllocRec.countHold_staysZero (onList : Prop) (a : AllocRec) (link : LinkState) :
    a.StaysZero onList (a.countHold link) := by
  rw [AllocRec.countHold]
  split
  · split <;> exact .of_same rfl rfl rfl rfl rfl
  · exact .refl _ _

/-- Steps 1 to 4 of R75 change measured power, acceptance limit, mode and compliance count. -/
theorem AllocRec.take_staysZero (onList : Prop) (a : AllocRec) (r : Report) (current overdraw ends counts : Bool) :
    a.StaysZero onList (a.take r current overdraw ends counts) := by
  rw [AllocRec.take, AllocRec.takeMode_frame]
  exact .of_same rfl rfl rfl rfl rfl

/-- A pause brings setpoint and target to 0, and only an ACTIVE session is paused (R145, R147). -/
theorem State.pauseBy_lists (s : State) (p : Pad) (current : Bool) (state : ChargerState) :
    s.SameLists (s.pauseBy p current state) := by
  have hsame := (State.SameField.refl s).lists
  unfold State.pauseBy
  dsimp only
  split
  · rename_i h
    obtain ⟨-, hp⟩ := h
    split
    · split
      · exact hsame
      · exact State.setAlloc_lists ⟨fun _ _ => ⟨rfl, rfl⟩, fun hoff => absurd hp hoff⟩
    split
    · have hunpaused : s.SameLists (s.setAlloc p { s.allocOf p with paused := false }) :=
        State.setAlloc_lists ⟨fun _ => nofun, fun hoff => absurd hp hoff⟩
      exact hunpaused.trans (State.SameField.lists ⟨rfl, rfl, rfl, rfl⟩)
    · exact hsame
  · exact hsame

theorem State.capStep_lists (s : State) (p : Pad) (current : Bool) (oldCap : Nat) :
    s.SameLists (s.capStep p current oldCap) := by
  have hsame := (State.SameField.refl s).lists
  rw [State.capStep]
  split
  · split
    · split
      · exact s.clampPad_lists p
      · exact hsame
    split
    · exact State.SameField.lists ⟨rfl, rfl, rfl, rfl⟩
    · exact hsame
  · exact hsame

/-! ### A round's records (R55, R63, R66) -/

theorem State.setRampBases_lists (s : State) : s.SameLists s.setRampBases :=
  State.setAllocs_lists fun p => by
    dsimp only
    split
    · rename_i hp
      exact ⟨id, fun hoff => absurd hp hoff⟩
    · exact .refl _ _

theorem State.countStarvation_lists (s : State) : s.SameLists s.countStarvation :=
  State.setAllocs_lists fun p => by
    dsimp only
    split
    · rename_i h
      obtain ⟨hp, -⟩ := h
      exact ⟨id, fun hoff => absurd hp hoff⟩
    · exact .refl _ _

/-- A PAUSED session is granted nothing, as its reach is 0 (R56). -/
theorem State.grantOf_grants_of_paused {s : State} {p : Pad} (h : (s.allocOf p).paused = true) (budget : Nat) :
    grantOf (s.grants budget) p = 0 := by
  have hreach : s.reachOf p = 0 := by rw [State.reachOf, if_pos h]
  have := s.grantOf_grants_le_reachOf budget p
  omega

theorem State.applyTargets_grants_lists (s : State) (budget : Nat) :
    s.SameLists (s.applyTargets (s.grants budget)) :=
  State.setAllocs_lists fun p => by
    dsimp only
    split
    · rename_i hp
      refine .of_powers (fun hpaused hs _ => ?_) fun hoff => absurd hp hoff
      simp [hs, State.grantOf_grants_of_paused hpaused]
    · exact .of_powers (fun _ hs _ => ⟨hs, rfl⟩) fun _ hs _ => ⟨hs, rfl⟩

/-! ### Pads that go back to the queue and pads admitted (R39 to R41) -/

theorem State.toQueue_act {s : State} {p : Pad} (h : p ∈ s.active) : s.Act (s.toQueue p) :=
  .suspend p h rfl rfl rfl rfl

theorem State.enlisted_act {s : State} {c : Pad} (h : c ∈ s.queue) : s.Act (s.enlisted c) := .enlist c h rfl rfl rfl rfl

/-- Pads go back one after another, each as often at most as it is on the list. -/
theorem State.foldl_toQueue_acts {pads : List Pad} {s : State} (h : pads.Subperm s.active) :
    s.Acts (pads.foldl State.toQueue s) := by
  induction pads generalizing s with
  | nil => exact .refl
  | cons p rest ih =>
    refine .head (State.toQueue_act (h.subset List.mem_cons_self)) (ih ?_)
    have := h.erase p
    rwa [List.erase_cons_head] at this

/-- The order of suspension names each pad as often at most as it is on the active list. -/
theorem State.suspensionOrder_subperm (s : State) : s.suspensionOrder.Subperm s.active := by
  refine List.subperm_ext_iff.mpr fun p _ => ?_
  simp only [State.suspensionOrder, List.flatMap_cons, List.flatMap_nil, List.append_nil, List.count_append]
  have hcount : ∀ k : Class, List.count p (s.active.reverse.filter fun q => decide (s.classOf q = k)) =
      if s.classOf p = k then List.count p s.active else 0 := fun k => by
    split
    · rename_i h
      rw [List.count_filter (by simpa using h), List.count_reverse]
    · rename_i h
      exact List.count_eq_zero.mpr fun hp => h (by simpa using List.of_mem_filter hp)
  rw [hcount, hcount, hcount]
  split
  · rename_i h; simp [h]
  split
  · rename_i h; simp [h]
  · split <;> omega

theorem State.mem_queue_foldl_toQueue {c : Pad} {pads : List Pad} {s : State} (h : c ∈ s.queue) :
    c ∈ (pads.foldl State.toQueue s).queue := by
  induction pads generalizing s with
  | nil => exact h
  | cons p rest ih => exact ih (mem_insertBefore.mpr (.inr h))

/-- One candidate of an admission step: sessions suspended, then the candidate admitted (R37 to R40). -/
theorem State.candidate_acts {s : State} {c : Pad} {gone : List Pad} (hc : c ∈ s.queue)
    (hgone : gone <+: s.suspensionOrder) : s.Acts ((gone.foldl State.toQueue s).enlisted c) :=
  (State.foldl_toQueue_acts (hgone.sublist.subperm.trans s.suspensionOrder_subperm)).tail
    (State.enlisted_act (State.mem_queue_foldl_toQueue hc))

theorem State.admission_acts (s : State) (budget : Nat) : s.Acts (s.admission budget) :=
  State.admission_induction s.Acts .refl fun _ _ _ h hc hgone _ => h.trans (State.candidate_acts hc hgone)

theorem State.roundTargets_acts (s : State) (boundary : Bool) : s.Acts (s.roundTargets boundary) := by
  unfold State.roundTargets
  extract_lets s0 s1 s2
  have hs1 : s.SameLists s1 := by
    have hs0 : s.SameLists s0 := State.SameField.lists ⟨rfl, rfl, rfl, rfl⟩
    simp only [s1]
    split
    · exact hs0.trans s0.setRampBases_lists
    · exact hs0
  exact (hs1.acts.trans (s1.admission_acts _)).lists (s2.applyTargets_grants_lists _)

theorem State.returnStarved_acts (s : State) : s.Acts s.returnStarved := by
  refine State.foldl_toQueue_acts (List.subperm_of_subset (s.activePads_nodup.filter _) fun p hp => ?_)
  exact State.mem_activePads.mp (List.mem_of_mem_filter hp)

theorem State.midSlotRound_acts (s : State) : s.Acts s.midSlotRound :=
  (s.roundTargets_acts false).lists (State.releaseAttempt_lists _)

theorem State.boundaryRound_acts (s : State) : s.Acts s.boundaryRound :=
  (((s.roundTargets_acts true).lists (State.countStarvation_lists _)).trans (State.returnStarved_acts _)).lists
    (State.releaseAttempt_lists _)

end Sys2Proof.Machine
end

section
/-! PROOFS. The operations of the session controller and of the reports as acts on the collections. -/

namespace Sys2Proof.Machine

/-! ### One session record changes (R4) -/

theorem State.padState_ne_of_not_eligible {s : State} {p : Pad} (h : (s.session p).body.isEligible = false) :
    s.padState p ≠ .eligible := fun he => by
  rw [(s.session p).body.isEligible_iff.mpr he] at h
  cases h

theorem State.padState_of_eligible {s : State} {p : Pad} (h : (s.session p).body.isEligible = true) :
    s.padState p = .eligible := (s.session p).body.isEligible_iff.mp h

theorem State.classOf_eq (s : State) (p : Pad) :
    s.classOf p = ((s.session p).body.terms.map (·.cls)).getD 0 := by
  rw [State.classOf]
  cases (s.session p).body.terms with
  | none => rfl
  | some terms => rfl

/-- A session record may change as long as the pad stays ELIGIBLE or stays not so, and a QUEUED session keeps its class. -/
theorem State.Acts.setSession {s : State} {p : Pad} {r : SessionRec}
    (heligible : r.body.isEligible = (s.session p).body.isEligible)
    (hclass : p ∈ s.queue → r.body.isEligible = true → r.body.terms.map (·.cls) = (s.session p).body.terms.map (·.cls)) :
    s.Acts (s.setSession p r) := by
  refine .single (.stay (fun q => ?_) (fun q hq he => ?_) rfl rfl fun q => .refl _ _) <;> by_cases hqp : q = p
  · subst hqp
    rw [State.padState, State.session_setSession_self, State.padState, ← PadBody.isEligible_iff,
      ← PadBody.isEligible_iff, heligible]
  · rw [State.padState_congr (s.session_setSession_ne p r hqp)]
  · subst hqp
    have hcls := hclass hq (heligible.trans ((PadBody.isEligible_iff _).mpr he))
    rw [State.classOf_eq, State.session_setSession_self, hcls, State.classOf_eq]
  · exact State.classOf_congr (s.session_setSession_ne p r hqp)

/-- A pad that is not ELIGIBLE takes another body that is not. -/
theorem State.Acts.setSession_of_not_eligible {s : State} {p : Pad} {r : SessionRec}
    (hs : (s.session p).body.isEligible = false) (hr : r.body.isEligible = false) : s.Acts (s.setSession p r) :=
  .setSession (hr.trans hs.symm) fun _ he => by rw [hr] at he; cases he

theorem State.Acts.setBody_of_not_eligible {s : State} {p : Pad} {b b' : PadBody} (hb : (s.session p).body = b)
    (hs : b.isEligible = false) (hr : b'.isEligible = false) : s.Acts (s.setBody p b') :=
  .setSession_of_not_eligible (hb ▸ hs) hr

/-- A body may change within its state and its terms. -/
theorem State.Acts.setBody_of_same {s : State} {p : Pad} {b : PadBody} (hname : b.name = (s.session p).body.name)
    (hterms : b.terms = (s.session p).body.terms) : s.Acts (s.setBody p b) := by
  refine .setSession (r := { s.session p with body := b }) ?_ fun _ _ => by rw [hterms]
  rw [Bool.eq_iff_iff, PadBody.isEligible_iff, PadBody.isEligible_iff, hname]

/-! ### Into and out of eligibility (R31, R33) -/

/-- A session leaves eligibility with the record its pad then has (R33). -/
theorem State.leaveEligibility_act {s : State} {p : Pad} {r : SessionRec} (hr : r.body.isEligible = false) :
    s.Act ((s.leaveEligibility p).setSession p r) := by
  refine .leave p (State.padState_ne_of_not_eligible ?_) (fun q hq => ?_) ?_ ?_ ?_
  · rw [State.session_setSession_self]; exact hr
  · rw [State.session_setSession_ne _ _ _ hq, s.leaveEligibility_frame]; rfl
  all_goals rw [s.leaveEligibility_frame]; rfl

/-- A session becomes eligible and is offered to the queue (R31). -/
theorem State.offer_act {s : State} {p : Pad} {r : SessionRec} (hs : (s.session p).body.isEligible = false)
    (hr : r.body.isEligible = true) : s.Act ((s.setSession p r).offer p) := by
  refine .join p (State.padState_ne_of_not_eligible hs) (State.padState_of_eligible ?_) (fun q hq => ?_) rfl rfl rfl
  · rw [State.session_offer, State.session_setSession_self]; exact hr
  · rw [State.session_offer, State.session_setSession_ne _ _ _ hq]

/-- Closing a pad takes an ELIGIBLE session off the collections (R22). -/
theorem State.closePad_acts (s : State) (p : Pad) (ending : Ending) {body : PadBody} (hbody : body.isEligible = false) :
    s.Acts (s.closePad p ending body) := by
  unfold State.closePad
  dsimp only
  split
  · exact .single (State.leaveEligibility_act hbody)
  · rename_i he
    exact .setSession_of_not_eligible (Bool.eq_false_iff.mpr he) hbody

/-! ### Endings, latches and locks (R23 to R25) -/

theorem State.faultPad_acts (s : State) (p : Pad) : s.Acts (s.faultPad p) := by
  obtain h | ⟨h, -⟩ := s.faultPad_eq p
  · rw [h]; exact s.closePad_acts p _ rfl
  · rw [h]

theorem State.loseLink_acts (s : State) (p : Pad) : s.Acts (s.loseLink p) := by
  obtain h | ⟨h, -⟩ := s.loseLink_eq p
  · rw [h]; exact s.closePad_acts p _ rfl
  · rw [h]

theorem State.latch_acts (s : State) (p : Pad) (cause : FaultCause) (code tag : Option Nat) (holdValue : Nat) :
    s.Acts (s.latch p cause code tag holdValue) := by
  have hheld : s.Acts ((s.startHold p holdValue).faultPad p) :=
    (s.startHold_lists p holdValue).acts.trans (State.faultPad_acts _ p)
  unfold State.latch
  dsimp only
  split
  · exact hheld
  · exact hheld.field ⟨rfl, rfl, rfl, rfl⟩

theorem State.lockPad_acts (s : State) (p : Pad) : s.Acts (s.lockPad p) :=
  (s.closePad_acts p .lockout (body := .locked) rfl).field ⟨rfl, rfl, rfl, rfl⟩

theorem State.foldl_lockPad_acts (pads : List Pad) (s : State) : s.Acts (pads.foldl State.lockPad s) := by
  induction pads generalizing s with
  | nil => exact .refl
  | cons p rest ih => exact (s.lockPad_acts p).trans (ih _)

theorem State.lockPads_acts (s : State) (base mask : Byte) : s.Acts (s.lockPads base mask) := by
  unfold State.lockPads
  dsimp only
  split
  · exact (State.foldl_lockPad_acts _ s).field (State.answerAfter_field ..)
  · exact (s.answer_field ..).acts

/-- A lifted hold leaves no pad ELIGIBLE (R3). -/
theorem State.resolvedBody_not_eligible (s : State) (p : Pad) : (s.resolvedBody p).isEligible = false := by
  unfold State.resolvedBody
  repeat' split
  all_goals rfl

theorem State.unlockPad_acts {s : State} {p : Pad} (h : (s.session p).body.isEligible = false) :
    s.Acts (s.unlockPad p) := by
  unfold State.unlockPad
  extract_lets s1 s2
  have hs2 : s.SameField s2 := by
    simp only [s2]
    split <;> exact ⟨rfl, rfl, rfl, rfl⟩
  have hb : (s2.session p).body = (s.session p).body := by rw [State.session, hs2.sessions]; rfl
  exact (hs2.acts.trans (.setBody_of_not_eligible hb h (s2.resolvedBody_not_eligible p))).field ⟨rfl, rfl, rfl, rfl⟩

/-- Unlocking a pad makes no pad ELIGIBLE. -/
theorem State.unlockPad_not_eligible {s : State} (p : Pad) {q : Pad} (h : (s.session q).body.isEligible = false) :
    ((s.unlockPad p).session q).body.isEligible = false := by
  by_cases hq : q = p
  · subst hq
    have hview := congrArg (fun v => v.row.body) (s.view_unlockPad_self q)
    simp only [State.view] at hview
    rw [hview]
    split <;> rfl
  · have hview := congrArg PadView.row (s.view_unlockPad_ne p hq)
    simp only [State.view] at hview
    rw [hview]
    exact h

theorem State.foldl_unlockPad_acts {pads : List Pad} {s : State}
    (h : ∀ p ∈ pads, (s.session p).body.isEligible = false) : s.Acts (pads.foldl State.unlockPad s) := by
  induction pads generalizing s with
  | nil => exact .refl
  | cons p rest ih =>
    exact (State.unlockPad_acts (h p List.mem_cons_self)).trans
      (ih fun q hq => State.unlockPad_not_eligible p (h q (.tail _ hq)))

theorem State.not_eligible_of_padState {s : State} {p : Pad} {name : PadStateName} (h : s.padState p = name)
    (hne : name ≠ .eligible) : (s.session p).body.isEligible = false :=
  Bool.eq_false_iff.mpr fun he => hne (h.symm.trans (State.padState_of_eligible he))

theorem State.unlockPads_acts (s : State) (base mask : Byte) : s.Acts (s.unlockPads base mask) := by
  unfold State.unlockPads
  dsimp only
  split
  · refine (State.foldl_unlockPad_acts fun p hp => ?_).field (State.answerAfter_field ..)
    obtain ⟨-, hlocked⟩ := List.mem_filter.mp hp
    exact State.not_eligible_of_padState (of_decide_eq_true hlocked) nofun
  · exact (s.answer_field ..).acts

theorem State.clearFaultOf_acts {s : State} {p : Pad} (h : (s.session p).body.isEligible = false) :
    s.Acts (s.clearFaultOf p) := by
  have hrecord : s.SameField (s.changeRecord p (.fault none)) := ⟨rfl, rfl, rfl, rfl⟩
  exact (hrecord.acts.trans (.setBody_of_not_eligible rfl h (State.resolvedBody_not_eligible _ p))).field
    ⟨rfl, rfl, rfl, rfl⟩

theorem State.clearFault_acts (s : State) (pad : Byte) : s.Acts (s.clearFault pad) := by
  rw [State.clearFault]
  split
  · exact (s.answer_field ..).acts
  split
  · rename_i h
    exact (State.clearFaultOf_acts (State.not_eligible_of_padState h nofun)).field (State.answerAfter_field ..)
  · exact (s.answer_field ..).acts

/-! ### Reports (R6, R75) -/

theorem seenOrVacant_not_eligible (tag : Option Nat) : (seenOrVacant tag).isEligible = false := by
  cases tag <;> rfl

theorem State.reportTransition_acts (s : State) (p : Pad) (r : Report) (lostSince : Bool) :
    s.Acts (s.reportTransition p r lostSince) := by
  rw [State.reportTransition]
  split
  case h_1 hb => exact .setBody_of_not_eligible hb rfl (seenOrVacant_not_eligible _)
  case h_2 hb =>
    split
    · exact .refl
    · exact .setBody_of_not_eligible hb rfl (seenOrVacant_not_eligible _)
  case h_3 hb =>
    split
    · exact .setBody_of_not_eligible hb rfl rfl
    · split <;> exact .setBody_of_not_eligible hb rfl rfl
  case h_4 hb =>
    split
    · split
      · split
        · exact .single (State.offer_act (by rw [hb]; rfl) rfl)
        · exact s.closePad_acts p _ rfl
      · exact .refl
    · exact .refl
  case h_5 hb =>
    split
    · exact s.closePad_acts p _ rfl
    split
    · exact .single (State.leaveEligibility_act rfl)
    · exact .refl
  case h_6 hb =>
    split
    · exact s.closePad_acts p _ rfl
    · exact .refl
  case h_7 hb =>
    split
    · exact s.closePad_acts p _ rfl
    split
    · exact s.closePad_acts p _ rfl
    · exact .refl
  case h_8 hb =>
    split
    · exact .setBody_of_not_eligible hb rfl rfl
    · split <;> exact .setBody_of_not_eligible hb rfl rfl
  case h_9 => exact .refl
  case h_10 => exact .refl

theorem State.takeAtSession_acts (s : State) (h : Handed) (before : Before) :
    s.Acts (s.takeAtSession h before).state := by
  unfold State.takeAtSession
  extract_lets p r s1 body
  have haccount : s.Acts s1 := .setBody_of_same (PadBody.account_name ..) (PadBody.account_terms ..)
  split
  · exact haccount
  split
  · exact haccount.trans (s1.latch_acts ..)
  split
  · exact haccount.trans (s1.latch_acts ..)
  split
  · exact haccount.trans (s1.latch_acts ..)
  · exact (haccount.trans (.setBody_of_same (PadBody.countSoft_name ..) (PadBody.countSoft_terms ..))).trans
      (State.reportTransition_acts ..)

theorem State.sessionTakes_acts (s : State) : s.Acts s.sessionTakes := by
  rw [State.sessionTakes]
  split
  · exact .refl
  · rename_i pre h post _
    extract_lets before taken t
    have htaken : s.Acts taken.state := s.takeAtSession_acts h before
    have ht : s.Acts t := .ite _ (htaken.trans (State.latch_acts ..)) htaken
    exact ht.field ⟨rfl, rfl, rfl, rfl⟩

theorem State.takeAtAllocator_acts (s : State) (h : Handed) (before : Before) :
    s.Acts (s.takeAtAllocator h before).state := by
  unfold State.takeAtAllocator
  extract_lets p r current overdraw limit link s4 s4'
  have hs4 : s.Acts s4 := (State.setAlloc_lists (AllocRec.take_staysZero ..)).acts
  have hs4' : s.Acts s4' := .ite _ (hs4.trans (State.latch_acts ..)) hs4
  exact hs4'.lists ((s4'.pauseBy_lists ..).trans (State.capStep_lists ..))

theorem State.allocatorTakes_acts (s : State) : s.Acts s.allocatorTakes := by
  rw [State.allocatorTakes]
  split
  · exact .refl
  · rename_i h _ _
    exact (s.takeAtAllocator_acts h (s.beforeOf h)).field ⟨rfl, rfl, rfl, rfl⟩

theorem State.pollMiss_acts (s : State) (p : Pad) : s.Acts (s.pollMiss p) := by
  unfold State.pollMiss
  extract_lets l t u misses
  have ht : s.Acts t := State.SameField.acts ⟨rfl, rfl, rfl, rfl⟩
  split
  · have hlost : s.Acts (u.setLink p { l with state := .lost, misses := 3 }) := ht.field ⟨rfl, rfl, rfl, rfl⟩
    exact ((hlost.lists (State.startHold_lists ..)).trans (State.loseLink_acts ..)).field ⟨rfl, rfl, rfl, rfl⟩
  · have hlink : s.Acts (t.setLink p { l with misses := misses }) := ht.field ⟨rfl, rfl, rfl, rfl⟩
    exact hlink.lists (State.setAlloc_lists (AllocRec.countHold_staysZero ..))

/-! ### The requests of the D-port (R7 to R9, R16, R17) -/

theorem State.bindPad_acts (s : State) (p : Pad) (tag : Nat) (terms : Terms) : s.Acts (s.bindPad p tag terms) := by
  unfold State.bindPad
  extract_lets r token
  split
  · exact (s.answer_field ..).acts
  split
  · rename_i hb
    have hbound : s.Acts (s.setSession p { r with body := .binding token tag terms 0, tokenSeq := token }) :=
      .setSession_of_not_eligible (congrArg PadBody.isEligible hb) rfl
    exact hbound.field (State.answer_field ..)
  · rename_i seenTag hb
    split
    · refine State.Acts.field (.single (State.offer_act ?_ rfl)) (State.answer_field ..)
      exact congrArg PadBody.isEligible hb
    · exact (s.answer_field ..).acts
  · exact (s.answer_field ..).acts

/-- An ELIGIBLE session takes new terms: it keeps its place, or is inserted again when it is QUEUED and its class or deadline
changed (R16, R32). -/
theorem State.requeueAmended_acts {s : State} {p : Pad} {token tag : Nat} {old : Terms} {m : Meter} (new : Terms)
    (hb : (s.session p).body = .matched .eligible token tag old m) :
    s.Acts ((s.setBody p (.matched .eligible token tag new m)).requeueAmended p old new) := by
  rw [State.requeueAmended]
  split
  · rename_i h
    obtain ⟨hqueued, -⟩ := h
    refine .single (.requeue p hqueued (State.padState_of_eligible (congrArg PadBody.isEligible hb))
      (State.padState_of_eligible ?_) (fun q hq => s.session_setBody_ne p _ hq) rfl rfl rfl)
    rw [State.session_offer]
    exact congrArg (fun r => r.body.isEligible) (s.session_setBody_self p _)
  · rename_i h
    refine .setSession (congrArg PadBody.isEligible hb).symm fun hqueued _ => ?_
    have hcls : old.cls = new.cls := by
      by_contra hne
      exact h ⟨hqueued, .inl hne⟩
    rw [hb]
    exact congrArg some hcls.symm

theorem State.amendPad_acts (s : State) (p : Pad) (terms : Terms) : s.Acts (s.amendPad p terms) := by
  rw [State.amendPad]
  split
  · rename_i hb
    refine State.Acts.field ?_ (State.answer_field ..)
    split
    · exact .single (State.leaveEligibility_act rfl)
    · exact State.requeueAmended_acts terms hb
  · rename_i hb
    refine State.Acts.field ?_ (State.answer_field ..)
    split
    · exact .setBody_of_not_eligible hb rfl rfl
    · exact .single (State.offer_act (congrArg PadBody.isEligible hb) rfl)
  · exact (s.answer_field ..).acts

theorem State.releasePad_acts (s : State) (p : Pad) : s.Acts (s.releasePad p) := by
  rw [State.releasePad]
  split
  · exact State.Acts.field (.single (State.leaveEligibility_act rfl)) (State.answer_field ..)
  · rename_i hb
    exact State.Acts.field (.setBody_of_not_eligible hb rfl rfl) (State.answer_field ..)
  · exact (s.closePad_acts p .cancelled (body := .vacant) rfl).field (State.answer_field ..)
  all_goals exact (s.answer_field ..).acts

/-! ### The boundary (R11, R91) -/

/-- Counting the binds makes no pad ELIGIBLE and leaves every ELIGIBLE session. -/
theorem State.countBinds_acts (s : State) : s.Acts s.countBinds := by
  have hrecord : ∀ p, s.countBinds.session p = (s.session p).countBind s.timer.slot := fun p => Table.get_tabulate ..
  have hcases : ∀ p, s.countBinds.session p = s.session p ∨
      s.padState p ≠ .eligible ∧ s.countBinds.padState p ≠ .eligible := fun p => by
    rw [State.padState, State.padState, hrecord, SessionRec.countBind]
    split
    · rename_i hb
      refine .inr ⟨by rw [hb]; exact nofun, ?_⟩
      split <;> exact nofun
    · exact .inl rfl
  refine .single (.stay (fun p => ?_) (fun p _ he => ?_) rfl rfl fun p => .refl _ _)
  · obtain h | ⟨hs, ht⟩ := hcases p
    · rw [State.padState_congr h]
    · exact iff_of_false ht hs
  · obtain h | ⟨hs, -⟩ := hcases p
    · exact State.classOf_congr h
    · exact absurd he hs

theorem State.boundaryStages_acts (s : State) : s.Acts s.boundaryStages := by
  unfold State.boundaryStages
  refine State.Acts.trans (State.SameField.acts ?_) (State.countBinds_acts _)
  rw [State.reformAtBoundary_frame, State.countShed_frame]
  exact ⟨rfl, rfl, rfl, rfl⟩

theorem State.takeBoundary_acts (s : State) : s.Acts s.takeBoundary :=
  s.boundaryStages_acts.trans (State.boundaryRound_acts _)

/-- A boundary that occurs or not. -/
theorem State.Acts.ifBoundary {s : State} (c : Prop) [Decidable c] : s.Acts (if c then s.takeBoundary else s) :=
  .ite c s.takeBoundary_acts .refl

theorem State.align_acts (s : State) : s.Acts s.align :=
  (State.Acts.ifBoundary (s.timer.mode = .running ∧ 1800 ≤ s.timer.phase)).field ⟨rfl, rfl, rfl, rfl⟩

end Sys2Proof.Machine
end

section
/-! PROOFS. Every command makes acts only; the laws of the collections and of the records off the active list are kept by every
step. -/

namespace Sys2Proof.Machine

/-! ### Every command -/

theorem execAtPort_acts {s t : State} {port : Port} {f : PortRec → PortRec} (h : s.event (s.onPort port f) = .next t) :
    s.Acts t := by
  have hport : s.SameField (s.onPort port f) := ⟨rfl, rfl, rfl, rfl⟩
  exact hport.event h

theorem execDeviceReset_acts {strap : Bool} {field : Byte} {s t : State} (h : execDeviceReset strap field s = .next t) :
    s.Acts t := by
  cases h
  refine .single (.reset (fun p => ?_) rfl rfl fun p => Table.get_fill ..)
  have hbody : ∀ img : StoreImage, (PadBody.ofImage img p).name ≠ .eligible := fun img => by
    unfold PadBody.ofImage
    repeat' split
    all_goals exact nofun
  rw [State.padState, State.session, State.afterReset, Table.get_tabulate]
  exact hbody _

theorem execPing_acts {port : Port} {s t : State} (h : execPing port s = .next t) : s.Acts t := by
  refine State.Acts.event ?_ h
  split
  · exact .gatedOn (s.answer_field ..).acts
  · exact .refl

theorem execReadChanges_acts {port : Port} {s t : State} (h : execReadChanges port s = .next t) : s.Acts t := by
  refine State.Acts.event ?_ h
  split
  · exact .gatedOn ((s.answer_field ..).acts.field ⟨rfl, rfl, rfl, rfl⟩)
  · exact .refl

theorem execQueryPad_acts {port : Port} {s t : State} (h : execQueryPad port s = .next t) : s.Acts t := by
  refine State.Acts.event ?_ h
  split
  · refine .gatedOn ?_
    split <;> exact (s.answer_field ..).acts
  · exact .refl

theorem execQueryField_acts {port : Port} {s t : State} (h : execQueryField port s = .next t) : s.Acts t := by
  refine State.Acts.event ?_ h
  split
  · exact .gatedOn (s.answer_field ..).acts
  · exact .refl

theorem execBind_acts {s t : State} (h : execBind s = .next t) : s.Acts t := by
  refine State.Acts.event ?_ h
  split
  · split
    · split
      · exact (s.answer_field ..).acts
      · exact s.bindPad_acts ..
    · exact (s.answer_field ..).acts
  · exact .refl

theorem execAmend_acts {s t : State} (h : execAmend s = .next t) : s.Acts t := by
  refine State.Acts.event ?_ h
  split
  · split
    · exact s.amendPad_acts ..
    · exact (s.answer_field ..).acts
  · exact .refl

theorem execRelease_acts {s t : State} (h : execRelease s = .next t) : s.Acts t := by
  refine State.Acts.event ?_ h
  split
  · split
    · exact s.releasePad_acts _
    · exact (s.answer_field ..).acts
  · exact .refl

theorem execSetWindow_acts {s t : State} (h : execSetWindow s = .next t) : s.Acts t := by
  refine State.SameField.event ?_ h
  split
  · split
    · refine State.SameField.trans ?_ (State.answer_field ..)
      exact ⟨rfl, rfl, rfl, rfl⟩
    · exact s.answer_field ..
  · exact .refl s

theorem execWriteCells_acts {s t : State} (h : execWriteCells s = .next t) : s.Acts t := by
  refine State.Acts.event ?_ h
  split
  · rename_i codes _
    have hplan : s.SameField { s with plan := s.plan.writeCodes codes } := ⟨rfl, rfl, rfl, rfl⟩
    exact (hplan.acts.lists (State.handOnCells_lists s _)).field (State.answer_field ..)
  · exact .refl

theorem execReadCells_acts {s t : State} (h : execReadCells s = .next t) : s.Acts t := by
  refine State.SameField.event ?_ h
  split
  · split
    · refine State.SameField.trans ?_ (State.answer_field ..)
      exact ⟨rfl, rfl, rfl, rfl⟩
    · exact s.answer_field ..
  · exact .refl s

theorem execSetLimits_acts {s t : State} (h : execSetLimits s = .next t) : s.Acts t := by
  refine State.Acts.event ?_ h
  split
  · exact (s.takeLimits_lists ..).acts.field (State.answer_field ..)
  · exact .refl

theorem execShed_acts {s t : State} (h : execShed s = .next t) : s.Acts t := by
  refine State.Acts.event ?_ h
  split
  · refine State.Acts.field (.lists (State.SameField.acts ?_) (State.reformInSlot_lists _)) (State.answer_field ..)
    exact ⟨rfl, rfl, rfl, rfl⟩
  · exact .refl

theorem execEndShed_acts {s t : State} (h : execEndShed s = .next t) : s.Acts t := by
  refine State.Acts.event ?_ h
  split
  · exact s.endShed_lists.acts.field (State.answer_field ..)
  · exact .refl

theorem execSetSlot_acts {s t : State} (h : execSetSlot s = .next t) : s.Acts t := by
  refine State.Acts.event ?_ h
  split
  · exact (s.takeSlot_lists _).acts.field (State.answer_field ..)
  · exact .refl

theorem execLockPads_acts {s t : State} (h : execLockPads s = .next t) : s.Acts t := by
  refine State.Acts.event ?_ h
  split
  · exact .gated (s.lockPads_acts ..)
  · exact .refl

theorem execOpenService_acts {s t : State} (h : execOpenService s = .next t) : s.Acts t := by
  refine State.Acts.event ?_ h
  split
  · exact .gated (s.openService_field _).acts
  · exact .refl

theorem execConfirmService_acts {s t : State} (h : execConfirmService s = .next t) : s.Acts t := by
  refine State.Acts.event ?_ h
  split
  · exact .gated (s.confirmService_field _).acts
  · exact .refl

theorem execCloseService_acts {s t : State} (h : execCloseService s = .next t) : s.Acts t := by
  refine State.Acts.event ?_ h
  split
  · exact .gated ((s.setService_field _).trans (State.answer_field ..)).acts
  · exact .refl

theorem execUnlockPads_acts {s t : State} (h : execUnlockPads s = .next t) : s.Acts t := by
  refine State.Acts.event ?_ h
  split
  · exact .gated (s.unlockPads_acts ..)
  · exact .refl

theorem execClearFault_acts {s t : State} (h : execClearFault s = .next t) : s.Acts t := by
  refine State.Acts.event ?_ h
  split
  · exact .gated (s.clearFault_acts _)
  · exact .refl

theorem execSetRating_acts {s t : State} (h : execSetRating s = .next t) : s.Acts t := by
  refine State.Acts.event ?_ h
  split
  · exact .gated (s.setRating_field ..).acts
  · exact .refl

theorem execReadFault_acts {s t : State} (h : execReadFault s = .next t) : s.Acts t := by
  refine State.Acts.event ?_ h
  split
  · refine .gated ?_
    split <;> exact (s.answer_field ..).acts
  · exact .refl

theorem execStoreWriteComplete_acts {s t : State} (h : execStoreWriteComplete s = .next t) : s.Acts t := by
  refine State.SameField.event ?_ h
  split
  · have hstore : s.SameField { s with store := s.store.completeWrite } := ⟨rfl, rfl, rfl, rfl⟩
    exact hstore.trans (State.releaseHeld_field ..)
  · exact .refl s

theorem execPollSlotStart_acts {s t : State} (h : execPollSlotStart s = .next t) : s.Acts t := by
  refine State.SameField.event ?_ h
  split
  · exact .refl s
  · exact ⟨rfl, rfl, rfl, rfl⟩

theorem execBroadcastStop_acts {s t : State} (h : execBroadcastStop s = .next t) : s.Acts t := by
  refine State.SameField.event ?_ h
  split
  · exact ⟨rfl, rfl, rfl, rfl⟩
  · exact .refl s

theorem execPollReport_acts {reply : List Byte} {s t : State} (h : execPollReport reply s = .next t) : s.Acts t := by
  refine State.SameField.event ?_ h
  split
  · exact .refl s
  · dsimp only
    split
    · exact s.pollReport_field ..
    · exact ⟨rfl, rfl, rfl, rfl⟩

theorem execPollMiss_acts {s t : State} (h : execPollMiss s = .next t) : s.Acts t := by
  refine State.Acts.event ?_ h
  split
  · exact s.pollMiss_acts _
  · exact .refl

theorem execLinkLoss_acts {s t : State} (h : execLinkLoss s = .next t) : s.Acts t := by
  refine State.Acts.event ?_ h
  split
  · split
    · exact s.pollMiss_acts _
    · exact .refl
  · exact .refl

theorem execSoftPersistLatch_acts {s t : State} (h : execSoftPersistLatch s = .next t) : s.Acts t := by
  refine State.Acts.event ?_ h
  split
  · split
    · exact s.sessionTakes_acts
    · exact .refl
  · exact .refl

theorem execNoncompliantLatch_acts {s t : State} (h : execNoncompliantLatch s = .next t) : s.Acts t :=
  State.Acts.event (.ite _ s.allocatorTakes_acts (.ite _ s.sessionTakes_acts .refl)) h

theorem execDistrustHoldExpiry_acts {s t : State} (h : execDistrustHoldExpiry s = .next t) : s.Acts t := by
  refine State.Acts.event (.ite _ s.allocatorTakes_acts (.ite _ ?_ .refl)) h
  split
  · exact s.pollMiss_acts _
  · exact .refl

theorem execSlotPhaseRise_acts {s t : State} (h : execSlotPhaseRise s = .next t) : s.Acts t := by
  refine State.Acts.event ?_ h
  split
  · split
    · exact s.takeBoundary_acts
    · exact State.SameField.acts ⟨rfl, rfl, rfl, rfl⟩
  · exact .refl

theorem execShedExpiry_acts {s t : State} (h : execShedExpiry s = .next t) : s.Acts t := by
  refine State.Acts.event ?_ h
  split
  · exact .ifBoundary _
  · exact .refl

theorem execMidSlotRound_acts {s t : State} (h : execMidSlotRound s = .next t) : s.Acts t := by
  refine State.Acts.event ?_ h
  split
  · exact s.midSlotRound_acts
  · exact .refl

theorem execSlotAlignActive_acts {s t : State} (h : execSlotAlignActive s = .next t) : s.Acts t := by
  refine State.Acts.event ?_ h
  split
  · have htake : s.SameField (s.takeLevel .slotAlign) := ⟨rfl, rfl, rfl, rfl⟩
    exact htake.acts.trans (State.align_acts _)
  · exact .refl

theorem execSlotAlignRelease_acts {s t : State} (h : execSlotAlignRelease s = .next t) : s.Acts t := by
  refine State.SameField.event ?_ h
  split
  · exact .refl s
  · split <;> exact ⟨rfl, rfl, rfl, rfl⟩

theorem execHeadroomGivenChange_acts {s t : State} (h : execHeadroomGivenChange s = .next t) : s.Acts t := by
  have htake : s.SameField (s.takeLevel .headroomGiven) := ⟨rfl, rfl, rfl, rfl⟩
  refine State.SameLists.event ?_ h
  split
  · exact htake.lists.trans (State.releaseAttempt_lists _)
  · exact htake.lists

theorem execSvcKeyChange_acts {s t : State} (h : execSvcKeyChange s = .next t) : s.Acts t := by
  have htake : s.SameField (s.takeLevel .svcKey) := ⟨rfl, rfl, rfl, rfl⟩
  refine State.SameField.event ?_ h
  split
  · exact htake.trans (State.setService_field ..)
  · exact htake

theorem execOpenExpiry_acts {s t : State} (h : execOpenExpiry s = .next t) : s.Acts t := by
  refine State.SameField.event ?_ h
  split
  · exact s.setService_field _
  · exact .refl s

theorem execPortBreak_acts {port : Port} {s t : State} (h : execPortBreak port s = .next t) : s.Acts t := by
  have hport : s.SameField (s.onPort port PortRec.broken) := ⟨rfl, rfl, rfl, rfl⟩
  refine State.SameField.event ?_ h
  split
  · exact .refl s
  · dsimp only
    split
    · exact hport.trans (State.setService_field ..)
    · exact hport

theorem execPowerLoss_acts {s t : State} (h : execPowerLoss s = .next t) : s.Acts t := by
  cases h
  split
  · exact State.SameField.acts ⟨rfl, rfl, rfl, rfl⟩
  · exact .refl

/-- What a command does to the collections, to their sessions and to the records, it does by acts. -/
theorem exec_acts {c : Instr} {s t : State} (h : exec c s = .next t) : s.Acts t := by
  cases c
  case deviceReset => exact execDeviceReset_acts h
  case frameReceived => exact execAtPort_acts h
  case frameSilenceDrop => exact execAtPort_acts h
  case frameOverrunDrop => exact execAtPort_acts h
  case answerSent => exact execAtPort_acts h
  case portBreak => exact execPortBreak_acts h
  case ping => exact execPing_acts h
  case readChanges => exact execReadChanges_acts h
  case queryPad => exact execQueryPad_acts h
  case queryField => exact execQueryField_acts h
  case bind => exact execBind_acts h
  case amend => exact execAmend_acts h
  case release => exact execRelease_acts h
  case setWindow => exact execSetWindow_acts h
  case writeCells => exact execWriteCells_acts h
  case readCells => exact execReadCells_acts h
  case setLimits => exact execSetLimits_acts h
  case shed => exact execShed_acts h
  case endShed => exact execEndShed_acts h
  case setSlot => exact execSetSlot_acts h
  case lockPads => exact execLockPads_acts h
  case openService => exact execOpenService_acts h
  case confirmService => exact execConfirmService_acts h
  case closeService => exact execCloseService_acts h
  case unlockPads => exact execUnlockPads_acts h
  case clearFault => exact execClearFault_acts h
  case setRating => exact execSetRating_acts h
  case readFault => exact execReadFault_acts h
  case storeWriteComplete => exact execStoreWriteComplete_acts h
  case pollSlotStart => exact execPollSlotStart_acts h
  case pollReport => exact execPollReport_acts h
  case pollMiss => exact execPollMiss_acts h
  case linkLoss => exact execLinkLoss_acts h
  case sessionReport => exact s.sessionTakes_acts.event h
  case softPersistLatch => exact execSoftPersistLatch_acts h
  case allocatorReport => exact s.allocatorTakes_acts.event h
  case noncompliantLatch => exact execNoncompliantLatch_acts h
  case distrustHoldExpiry => exact execDistrustHoldExpiry_acts h
  case broadcastStop => exact execBroadcastStop_acts h
  case midSlotRound => exact execMidSlotRound_acts h
  case slotBoundary => exact (State.Acts.ifBoundary _).event h
  case shedExpiry => exact execShedExpiry_acts h
  case bindExpiry => exact (State.Acts.ifBoundary _).event h
  case starvationReturn => exact (State.Acts.ifBoundary _).event h
  case slotAlignActive => exact execSlotAlignActive_acts h
  case slotAlignRelease => exact execSlotAlignRelease_acts h
  case fldEnableChange => exact (s.supplyLineSettles_lists _).event h
  case sourceLineChange => exact (s.supplyLineSettles_lists _).event h
  case headroomGivenChange => exact execHeadroomGivenChange_acts h
  case svcKeyChange => exact execSvcKeyChange_acts h
  case openExpiry => exact execOpenExpiry_acts h
  case slotPhaseRise => exact execSlotPhaseRise_acts h
  case rawLevelChange => cases h; exact State.SameField.acts ⟨rfl, rfl, rfl, rfl⟩
  case openingMarkerReceived => exact execAtPort_acts h
  case breakLineReturnsHigh => exact execAtPort_acts h
  case busyAnswerSent => exact execAtPort_acts h
  case powerLoss => exact execPowerLoss_acts h

/-! ### Every step -/

/-- A law that every act keeps, and that reads nothing of the commands that wait, is kept by every step. -/
theorem step_keeps_of_acts {law : State → Prop} (hact : ∀ {s t : State}, s.Act t → law s → law t) {s t : State}
    (hstep : step s = .next t) (hs : law s) : law t := by
  unfold step at hstep
  split at hstep
  · cases hstep; exact hs
  · rename_i c rest _
    have hrest : s.Acts { s with pending := rest } := State.SameField.acts ⟨rfl, rfl, rfl, rfl⟩
    exact (hrest.trans (exec_acts hstep)).keeps hact hs

/-- Settles O3: every act keeps the membership law. -/
theorem membershipKept : Obligations.MembershipKept := by
  intro s t hs hstep
  exact step_keeps_of_acts (law := State.MembershipLaw) (fun hact => hact.membershipLaw) hstep hs

/-- Settles O4: every act keeps the class order together with the membership law. -/
theorem queueClassOrderKept : Obligations.QueueClassOrderKept := by
  intro s t hlaw hs hstep
  obtain ⟨-, horder⟩ := step_keeps_of_acts (law := fun u => u.MembershipLaw ∧ u.QueueClassOrder)
    (fun hact => hact.queueLaws) hstep ⟨hlaw, hs⟩
  exact horder

/-- Settles O5: every act keeps PAUSED pads and pads off the active list at zero. -/
theorem idleOffListKept : Obligations.IdleOffListKept := by
  intro s t hidle hpaused hstep
  exact step_keeps_of_acts (law := State.ZeroLaw) (fun hact => hact.zeroLaw) hstep ⟨hidle, hpaused⟩

end Sys2Proof.Machine
end

section
/-! PROOFS. Step A of a round (R34 to R40), one consideration after another: how each goes and what it leaves. -/

namespace Sys2Proof.Machine

/-! ### The branches of one consideration (R34, R36, R37) -/

/-- Step A stands at the queue entry `c`, behind the entries `pre` that stay and before `post`. -/
structure Admission.At (a : Admission) (c : Pad) (pre post : List Pad) : Prop where
  queue : a.state.queue = pre ++ c :: post
  passed : a.passed = pre.length

theorem Admission.consider_of_end {a : Admission} (h : a.state.queue.length ≤ a.passed) (budget n : Nat) :
    Admission.consider budget n a = a := by
  cases n with
  | zero => rfl
  | succ n => simp only [Admission.consider, List.getElem?_eq_none h]

namespace Admission.At

variable {a : Admission} {c : Pad} {pre post : List Pad} {budget : Nat}

theorem getElem? (h : a.At c pre post) : a.state.queue[a.passed]? = some c := by
  rw [h.queue, h.passed, List.getElem?_append_right (Nat.le_refl _)]
  simp

theorem mem_queue (h : a.At c pre post) : c ∈ a.state.queue := List.mem_of_getElem? h.getElem?

theorem consider_of_cap (h : a.At c pre post) (hcap : a.state.capOf c < a.state.feeder.pmin) (n : Nat) :
    Admission.consider budget (n + 1) a = Admission.consider budget n { a with passed := a.passed + 1 } := by
  simp only [Admission.consider, h.getElem?, if_pos hcap]

theorem consider_of_fits (h : a.At c pre post) (hcap : a.state.feeder.pmin ≤ a.state.capOf c)
    (hfits : a.state.admissionDemand c + weightSum a.counted ≤ budget) (n : Nat) :
    Admission.consider budget (n + 1) a = Admission.consider budget n (a.enlist c (a.state.admissionDemand c)) := by
  simp only [Admission.consider, h.getElem?, if_neg (Nat.not_lt.mpr hcap), if_pos hfits]

theorem consider_of_preempts (h : a.At c pre post) (hcap : a.state.feeder.pmin ≤ a.state.capOf c)
    (hfull : budget < a.state.admissionDemand c + weightSum a.counted) (hclass : a.state.classOf c = 0)
    (hzero : a.state.admissionDemand c + a.classZeroSum ≤ budget) (n : Nat) :
    Admission.consider budget (n + 1) a = Admission.consider budget n
      ((a.suspendUntil budget (a.state.admissionDemand c) a.state.suspensionOrder).enlist c
        (a.state.admissionDemand c)) := by
  simp only [Admission.consider, h.getElem?, if_neg (Nat.not_lt.mpr hcap), if_neg (Nat.not_le.mpr hfull),
    if_pos (And.intro hclass hzero)]

theorem consider_of_misfit (h : a.At c pre post) (hcap : a.state.feeder.pmin ≤ a.state.capOf c)
    (hfull : budget < a.state.admissionDemand c + weightSum a.counted)
    (hno : a.state.classOf c ≠ 0 ∨ budget < a.state.admissionDemand c + a.classZeroSum) (n : Nat) :
    Admission.consider budget n a = a := by
  cases n with
  | zero => rfl
  | succ n =>
    have hnot : ¬ (a.state.classOf c = 0 ∧ a.state.admissionDemand c + a.classZeroSum ≤ budget) := fun ⟨hclass, hle⟩ =>
      hno.elim (fun hne => hne hclass) fun hlt => Nat.not_lt.mpr hle hlt
    simp only [Admission.consider, h.getElem?, if_neg (Nat.not_lt.mpr hcap), if_neg (Nat.not_le.mpr hfull), if_neg hnot]

/-- An entry without repeats before it leaves the queue from its own place. -/
theorem queue_enlisted (h : a.At c pre post) (hc : c ∉ pre) : (a.state.enlisted c).queue = pre ++ post := by
  change a.state.queue.erase c = pre ++ post
  rw [h.queue, List.erase_append_right _ hc, List.erase_cons_head]

theorem enlisted_eq (h : a.At c pre post) (hc : c ∉ pre) :
    a.state.enlisted c =
      { a.state with
        queue := pre ++ post
        active := a.state.active ++ [c]
        alloc := a.state.alloc.set c { a.state.allocOf c with rampBase := 0, starvation := 0 } } := by
  rw [← h.queue_enlisted hc]
  rfl

/-- Consideration goes on with the entry that followed the candidate (R34, R40). -/
theorem enlist_eq (h : a.At c pre post) (hc : c ∉ pre) (d : Nat) :
    a.enlist c d = ⟨a.state.enlisted c, a.counted ++ [(c, d)], pre.length⟩ := by
  have hidx : a.state.queue.idxOf c = pre.length := by
    rw [h.queue, List.idxOf_append_of_notMem hc, List.idxOf_cons_self, Nat.add_zero]
  rw [Admission.enlist, hidx]
  rfl

end Admission.At

/-- Step A stands at the end of the queue or at an entry. -/
theorem Admission.end_or_at (a : Admission) :
    a.state.queue.length ≤ a.passed ∨ ∃ c pre post, a.At c pre post := by
  refine (Nat.lt_or_ge a.passed a.state.queue.length).symm.imp_right fun h => ?_
  refine ⟨a.state.queue[a.passed], a.state.queue.take a.passed, a.state.queue.drop (a.passed + 1), ?_, ?_⟩
  · rw [← List.drop_eq_getElem_cons h, List.take_append_drop]
  · rw [List.length_take, Nat.min_eq_left h.le]

/-- What every candidate admitted keeps holds at the end of step A: a candidate has a cap of at least P_min, and sessions are
suspended for one of class 0 only (R34 to R37). -/
theorem Admission.consider_induction {budget : Nat} {P : State → Prop}
    (hadmit : ∀ (u : State) (c : Pad) (gone : List Pad), P u → c ∈ u.queue → u.feeder.pmin ≤ u.capOf c →
      gone <+: u.suspensionOrder → (gone = [] ∨ u.classOf c = 0) → P ((gone.foldl State.toQueue u).enlisted c))
    (n : Nat) (a : Admission) (h : P a.state) : P (Admission.consider budget n a).state := by
  induction n generalizing a with
  | zero => exact h
  | succ n ih =>
    obtain hend | ⟨c, pre, post, hat⟩ := a.end_or_at
    · rwa [Admission.consider_of_end hend]
    obtain hcap | hcap := Nat.lt_or_ge (a.state.capOf c) a.state.feeder.pmin
    · rw [hat.consider_of_cap hcap]
      exact ih _ h
    obtain hfull | hfits := Nat.lt_or_ge budget (a.state.admissionDemand c + weightSum a.counted)
    · by_cases hpre : a.state.classOf c = 0 ∧ a.state.admissionDemand c + a.classZeroSum ≤ budget
      · obtain ⟨hclass, hzero⟩ := hpre
        obtain ⟨gone, rest, horder, hgone, -⟩ :=
          Admission.suspendUntil_spec budget (a.state.admissionDemand c) a.state.suspensionOrder a
        rw [hat.consider_of_preempts hcap hfull hclass hzero, hgone]
        refine ih _ ?_
        change P ((gone.foldl Admission.suspend a).state.enlisted c)
        rw [Admission.state_foldl_suspend]
        exact hadmit _ c gone h hat.mem_queue hcap ⟨rest, horder.symm⟩ (.inr hclass)
      · rw [hat.consider_of_misfit hcap hfull ((not_and_or.mp hpre).imp_right Nat.lt_of_not_le)]
        exact h
    · rw [hat.consider_of_fits hcap hfits]
      exact ih _ (hadmit _ c [] h hat.mem_queue hcap List.nil_prefix (.inl rfl))

theorem State.allocOf_enlisted_self (s : State) (c : Pad) :
    (s.enlisted c).allocOf c = { s.allocOf c with rampBase := 0, starvation := 0 } := State.allocOf_setAlloc_self ..

theorem State.allocOf_enlisted_ne (s : State) {c p : Pad} (h : p ≠ c) : (s.enlisted c).allocOf p = s.allocOf p :=
  State.allocOf_setAlloc_ne _ _ _ h

/-! ### Insertions behind class 0 (R29) -/

/-- Entries at the head that do not stand after the new one keep their places. -/
theorem insertBefore_append {after : Pad → Bool} {pre : List Pad} (p : Pad) (l : List Pad)
    (h : ∀ q ∈ pre, after q = false) : insertBefore after p (pre ++ l) = pre ++ insertBefore after p l := by
  induction pre with
  | nil => rfl
  | cons q rest ih =>
    rw [List.cons_append, insertBefore, h q List.mem_cons_self, ih fun x hx => h x (.tail _ hx)]
    rfl

/-- A class-0 entry does not stand after an entry of another class. -/
theorem State.standsAfter_of_zero {s : State} {p q : Pad} (hp : s.classOf p ≠ 0) (hq : s.classOf q = 0) :
    s.standsAfter p q = false := by
  simp [State.standsAfter, hq, hp]

/-- Sessions of other classes go behind the class-0 entries at the head of the queue. -/
theorem State.foldl_insertQueue_append {s : State} {pre l : List Pad} (hq : s.queue = pre ++ l)
    (hpre : ∀ q ∈ pre, s.classOf q = 0) {gone : List Pad} (hgone : ∀ v ∈ gone, s.classOf v ≠ 0) :
    ∃ l', (gone.foldl State.insertQueue s).queue = pre ++ l' := by
  induction gone using List.reverseRecOn with
  | nil => exact ⟨l, hq⟩
  | append_singleton gone v ih =>
    obtain ⟨l', hl'⟩ := ih fun x hx => hgone x (List.mem_append_left _ hx)
    refine ⟨insertBefore (s.standsAfter v) v l', ?_⟩
    rw [List.foldl_append, List.foldl_cons, List.foldl_nil, State.foldl_insertQueue_frame]
    change insertBefore (s.standsAfter v) v (gone.foldl State.insertQueue s).queue = _
    rw [hl']
    exact insertBefore_append v l' fun q hq =>
      State.standsAfter_of_zero (hgone v (List.mem_append_right _ (List.mem_singleton_self v))) (hpre q hq)

theorem Admission.passed_foldl_suspend (gone : List Pad) (a : Admission) :
    (gone.foldl Admission.suspend a).passed = a.passed := by
  induction gone generalizing a with
  | nil => rfl
  | cons v rest ih => exact ih _

/-! ### Admissions in progress that meet the laws -/

/-- The collections' laws hold, and exactly the ACTIVE sessions count, in the order of the active list (R35). -/
structure Admission.Lawful (a : Admission) : Prop where
  membership : a.state.MembershipLaw
  order : a.state.QueueClassOrder
  counted : a.counted.map Prod.fst = a.state.active

/-- The start of step A: each ACTIVE session counts with its demand (R35). -/
def State.admissionStart (s : State) : Admission := ⟨s, s.active.map fun p => (p, s.demandOf p), 0⟩

theorem State.lawful_admissionStart {s : State} (hlaw : s.MembershipLaw) (horder : s.QueueClassOrder) :
    s.admissionStart.Lawful :=
  ⟨hlaw, horder, by simp [State.admissionStart, Function.comp_def]⟩

/-- An admission in which the sessions `gone` went back and the candidate behind `pre` was admitted (R37 to R40). -/
def Admission.admitted (a : Admission) (gone : List Pad) (c : Pad) (d : Nat) (pre : List Pad) : Admission :=
  ⟨(a.state.afterReturns gone).enlisted c, (a.counted.filter fun w => decide (w.1 ∉ gone)) ++ [(c, d)], pre.length⟩

namespace Admission.Lawful

variable {a : Admission} {c : Pad} {pre post : List Pad}

theorem active_nodup (ha : a.Lawful) : a.state.active.Nodup := by
  obtain ⟨-, hactive, -⟩ := ha.membership
  exact hactive

/-- The candidate stands in the queue once and is not ACTIVE. -/
theorem not_mem_pre (ha : a.Lawful) (hat : a.At c pre post) : c ∉ pre ∧ c ∉ a.state.active := by
  obtain ⟨hqueue, -, hdisjoint, -⟩ := ha.membership
  refine ⟨fun hc => ?_, hdisjoint c hat.mem_queue⟩
  rw [hat.queue] at hqueue
  obtain ⟨-, -, hne⟩ := List.nodup_append.mp hqueue
  exact hne c hc c List.mem_cons_self rfl

/-- Entries before the candidate are of its class or a smaller one, those behind it of its class or a greater one. -/
theorem class_le (ha : a.Lawful) (hat : a.At c pre post) :
    (∀ q ∈ pre, a.state.classOf q ≤ a.state.classOf c) ∧ ∀ q ∈ post, a.state.classOf c ≤ a.state.classOf q := by
  have horder := ha.order
  rw [State.QueueClassOrder, hat.queue] at horder
  obtain ⟨-, hrest, hpre⟩ := List.pairwise_append.mp horder
  obtain ⟨hpost, -⟩ := List.pairwise_cons.mp hrest
  exact ⟨fun q hq => hpre q hq c List.mem_cons_self, hpost⟩

/-- What acts leave meets the laws, when the counted sessions are the active ones. -/
theorem of_acts (ha : a.Lawful) {b : Admission} (h : a.state.Acts b.state) (hcounted : b.counted.map Prod.fst = b.state.active) :
    b.Lawful := by
  obtain ⟨hmembership, horder⟩ := h.keeps (law := fun u => u.MembershipLaw ∧ u.QueueClassOrder)
    (fun hact => hact.queueLaws) ⟨ha.membership, ha.order⟩
  exact ⟨hmembership, horder, hcounted⟩

theorem map_fst_counted (ha : a.Lawful) (gone : List Pad) :
    (a.counted.filter fun w => decide (w.1 ∉ gone)).map Prod.fst = a.state.active.filter fun p => decide (p ∉ gone) := by
  rw [← ha.counted, List.filter_map]
  rfl

/-- An admission after suspensions meets the laws again. -/
theorem admitted (ha : a.Lawful) (hat : a.At c pre post) {gone : List Pad} (hgone : gone <+: a.state.suspensionOrder)
    (d : Nat) : (a.admitted gone c d pre).Lawful := by
  refine ha.of_acts ?_ ?_
  · rw [Admission.admitted, ← State.foldl_toQueue ha.active_nodup]
    exact State.candidate_acts hat.mem_queue hgone
  · rw [Admission.admitted, List.map_append, ha.map_fst_counted]
    rfl

/-- Without suspensions the admission is the candidate's alone. -/
theorem enlist_eq_admitted (ha : a.Lawful) (hat : a.At c pre post) (d : Nat) :
    a.enlist c d = a.admitted [] c d pre := by
  obtain ⟨hpre, -⟩ := ha.not_mem_pre hat
  have hstate : a.state.afterReturns [] = a.state := (State.foldl_toQueue ha.active_nodup []).symm
  rw [hat.enlist_eq hpre, Admission.admitted, hstate]
  simp

end Admission.Lawful

/-! ### Class-0 preemption (R37 to R39) -/

section Preemption

variable {a : Admission} {c : Pad} {pre post : List Pad} {budget d : Nat}

/-- With every session of another class suspended, class 0 alone counts (R37). -/
theorem Admission.Lawful.counted_of_all_suspended (ha : a.Lawful) :
    (a.counted.filter fun w => decide (w.1 ∉ a.state.suspensionOrder)) =
      a.counted.filter fun w => decide (a.state.classOf w.1 = 0) := by
  refine List.filter_congr fun w hw => decide_eq_decide.mpr ⟨fun hnot => ?_, fun hzero hmem => ?_⟩
  · by_contra hne
    have hactive : w.1 ∈ a.state.active := ha.counted ▸ List.mem_map_of_mem hw
    refine hnot (List.mem_flatMap.mpr ⟨a.state.classOf w.1, ?_, List.mem_filter.mpr ⟨List.mem_reverse.mpr hactive, by simp⟩⟩)
    generalize a.state.classOf w.1 = k at hne
    revert k
    decide
  · obtain ⟨-, hne⟩ := State.mem_suspensionOrder hmem
    exact hne hzero

/-- A class-0 candidate that does not fit but fits beside class 0 alone is admitted after the fewest suspensions in their
order that make it fit, and the suspended sessions go behind it in the queue (R37 to R40). -/
theorem Admission.Lawful.consider_preempts (ha : a.Lawful) (hat : a.At c pre post)
    (hcap : a.state.feeder.pmin ≤ a.state.capOf c)
    (hfull : budget < a.state.admissionDemand c + weightSum a.counted) (hclass : a.state.classOf c = 0)
    (hzero : a.state.admissionDemand c + a.classZeroSum ≤ budget) :
    ∃ gone post',
      (∀ n, Admission.consider budget (n + 1) a =
        Admission.consider budget n (a.admitted gone c (a.state.admissionDemand c) pre)) ∧
      gone <+: a.state.suspensionOrder ∧
      a.state.admissionDemand c + weightSum (a.counted.filter fun w => decide (w.1 ∉ gone)) ≤ budget ∧
      (∀ j, j < gone.length → budget < a.state.admissionDemand c +
        weightSum (a.counted.filter fun w => decide (w.1 ∉ gone.take j))) ∧
      (gone.foldl State.insertQueue a.state).queue = pre ++ c :: post' := by
  obtain ⟨hpre, -⟩ := ha.not_mem_pre hat
  obtain ⟨hle, -⟩ := ha.class_le hat
  obtain ⟨gone, rest, horder, hgone, hend, hfewest⟩ :=
    Admission.suspendUntil_spec budget (a.state.admissionDemand c) a.state.suspensionOrder a
  have hsuspended : gone <+: a.state.suspensionOrder := ⟨rest, horder.symm⟩
  have hnotZero : ∀ v ∈ gone, a.state.classOf v ≠ 0 := fun v hv => by
    obtain ⟨-, hne⟩ := State.mem_suspensionOrder (hsuspended.subset hv)
    exact hne
  have hhead : ∀ q ∈ pre ++ [c], a.state.classOf q = 0 := fun q hq => by
    obtain hq | hq := List.mem_append.mp hq
    · exact Fin.le_zero_iff.mp (hclass ▸ hle q hq)
    · rw [List.mem_singleton.mp hq, hclass]
  obtain ⟨post', hpost'⟩ := State.foldl_insertQueue_append (l := post) (by rw [hat.queue, List.append_cons]) hhead hnotZero
  rw [← List.append_cons] at hpost'
  have hstate : (gone.foldl Admission.suspend a).state = a.state.afterReturns gone := by
    rw [Admission.state_foldl_suspend, State.foldl_toQueue ha.active_nodup]
  have hat' : (gone.foldl Admission.suspend a).At c pre post' :=
    ⟨by rw [hstate]; exact hpost', (a.passed_foldl_suspend gone).trans hat.passed⟩
  refine ⟨gone, post', fun n => ?_, hsuspended, ?_, fun j hj => ?_, hpost'⟩
  · rw [hat.consider_of_preempts hcap hfull hclass hzero, hgone, hat'.enlist_eq hpre, hstate,
      Admission.counted_suspend_foldl]
    rfl
  · obtain rfl | hfits := hend
    · rw [List.append_nil] at horder
      rw [← horder, ha.counted_of_all_suspended]
      exact hzero
    · rwa [Admission.counted_suspend_foldl] at hfits
  · have := hfewest j hj
    rwa [Admission.counted_suspend_foldl] at this

end Preemption

end Sys2Proof.Machine
end

section
/-! PROOFS. The considerations of step A end before their bound does (notes/assumptions/27.md), and what step A as a whole leaves
(R34 to R40). -/

namespace Sys2Proof.Machine

/-! ### How many considerations are left -/

/-- A bound of the considerations left with the entries `rest`: each entry, and while one of class 0 is left each ACTIVE session
that it could suspend. -/
def State.considerations (s : State) (rest : List Pad) : Nat :=
  rest.length +
    if rest.any fun q => decide (s.classOf q = 0) then s.active.countP fun p => decide (s.classOf p ≠ 0) else 0

/-- The considerations left of an admission in progress. -/
def Admission.toConsider (a : Admission) : Nat := a.state.considerations (a.state.queue.drop a.passed)

theorem State.considerations_le (s : State) (rest : List Pad) :
    s.considerations rest ≤ rest.length + s.active.countP fun p => decide (s.classOf p ≠ 0) := by
  rw [State.considerations]
  split <;> omega

theorem State.toConsider_admissionStart_le (s : State) :
    s.admissionStart.toConsider ≤ s.queue.length + s.active.length :=
  (s.considerations_le _).trans (Nat.add_le_add_left List.countP_le_length _)

namespace Admission

variable {a : Admission} {c : Pad} {pre post : List Pad} {budget d : Nat}

theorem At.toConsider (hat : a.At c pre post) : a.toConsider = a.state.considerations (c :: post) := by
  rw [Admission.toConsider, hat.passed, hat.queue, List.drop_left]

/-- A candidate passed over is considered no more. -/
theorem At.toConsider_pass (hat : a.At c pre post) : { a with passed := a.passed + 1 }.toConsider < a.toConsider := by
  have hdrop : a.state.queue.drop (a.passed + 1) = post := by
    rw [hat.queue, hat.passed, List.drop_length_add_append]
    rfl
  rw [hat.toConsider, Admission.toConsider, hdrop, State.considerations, State.considerations, List.any_cons,
    List.length_cons]
  cases hpost : post.any fun q => decide (a.state.classOf q = 0) with
  | false => simp only [Bool.false_eq_true, if_false]; omega
  | true => simp only [Bool.or_true, if_true]; omega

/-- Suspended sessions are no more among the active ones, each of them one of class 1, 2 or 3. -/
theorem Lawful.countP_not_gone (ha : a.Lawful) {gone : List Pad} (hgone : gone <+: a.state.suspensionOrder) :
    (a.state.active.filter fun p => decide (p ∉ gone)).countP (fun p => decide (a.state.classOf p ≠ 0)) + gone.length =
      a.state.active.countP fun p => decide (a.state.classOf p ≠ 0) := by
  have hnodup : gone.Nodup := (State.suspensionOrder_nodup ha.active_nodup).sublist hgone.sublist
  have hmem : ∀ p ∈ gone, p ∈ a.state.active ∧ a.state.classOf p ≠ 0 := fun p hp =>
    State.mem_suspensionOrder (hgone.subset hp)
  have hsub : ∀ p ∈ gone, p ∈ a.state.active := fun p hp => by
    obtain ⟨hactive, -⟩ := hmem p hp
    exact hactive
  have hall : gone.countP (fun p => decide (a.state.classOf p ≠ 0)) = gone.length :=
    List.countP_eq_length.mpr fun p hp => by
      obtain ⟨-, hne⟩ := hmem p hp
      exact decide_eq_true hne
  have hboth := (State.afterReturns_perm ha.active_nodup hnodup hsub).countP_eq fun p => decide (a.state.classOf p ≠ 0)
  have hqueue := (a.state.foldl_insertQueue_perm gone).countP_eq fun p => decide (a.state.classOf p ≠ 0)
  simp only [State.afterReturns, List.countP_append] at hboth hqueue
  omega

/-- An admission leaves fewer considerations, although the sessions it suspended are queued again. -/
theorem Lawful.toConsider_admitted (ha : a.Lawful) (hat : a.At c pre post) {gone post' : List Pad}
    (hgone : gone <+: a.state.suspensionOrder) (hclass : gone = [] ∨ a.state.classOf c = 0)
    (hpost' : (gone.foldl State.insertQueue a.state).queue = pre ++ c :: post') :
    (a.admitted gone c d pre).toConsider < a.toConsider := by
  obtain ⟨hpre, -⟩ := ha.not_mem_pre hat
  obtain ⟨-, hge⟩ := ha.class_le hat
  have hat' : (⟨a.state.afterReturns gone, [], pre.length⟩ : Admission).At c pre post' := ⟨hpost', rfl⟩
  have hleft : (a.admitted gone c d pre).toConsider =
      ((a.state.afterReturns gone).enlisted c).considerations post' := by
    change State.considerations _ (((a.state.afterReturns gone).enlisted c).queue.drop pre.length) = _
    rw [hat'.queue_enlisted hpre, List.drop_left]
    rfl
  rw [hleft, hat.toConsider]
  by_cases hzero : a.state.classOf c = 0
  · have hlength : post'.length = gone.length + post.length := by
      have := (a.state.foldl_insertQueue_perm gone).length_eq
      rw [hpost', hat.queue] at this
      simp only [List.length_append, List.length_cons] at this
      omega
    have hactive : ((a.state.afterReturns gone).enlisted c).active.countP
        (fun p => decide (((a.state.afterReturns gone).enlisted c).classOf p ≠ 0)) + gone.length =
        a.state.active.countP fun p => decide (a.state.classOf p ≠ 0) := by
      rw [← ha.countP_not_gone hgone]
      change List.countP (fun p => decide (a.state.classOf p ≠ 0)) (List.filter _ a.state.active ++ [c]) + _ = _
      simp [hzero]
    have hle := State.considerations_le ((a.state.afterReturns gone).enlisted c) post'
    have heq : a.state.considerations (c :: post) =
        post.length + 1 + a.state.active.countP fun p => decide (a.state.classOf p ≠ 0) := by
      simp [State.considerations, hzero]
    omega
  · obtain rfl := hclass.resolve_right hzero
    obtain rfl : post = post' := by
      have := hat.queue.symm.trans hpost'
      simpa using this
    have hnone : (post.any fun q => decide (((a.state.afterReturns []).enlisted c).classOf q = 0)) = false := by
      refine List.any_eq_false.mpr fun q hq => ?_
      have hne : a.state.classOf q ≠ 0 := fun h0 => hzero (Fin.le_zero_iff.mp (h0 ▸ hge q hq))
      exact fun h => hne (of_decide_eq_true h)
    rw [State.considerations, hnone, State.considerations, List.length_cons]
    simp only [Bool.false_eq_true, if_false]
    omega

/-- A candidate that fits, or that can preempt, is admitted (R36, R37). -/
theorem Lawful.consider_admits (ha : a.Lawful) (hat : a.At c pre post) (hcap : a.state.feeder.pmin ≤ a.state.capOf c)
    (h : a.state.admissionDemand c + weightSum a.counted ≤ budget ∨
      (a.state.classOf c = 0 ∧ a.state.admissionDemand c + a.classZeroSum ≤ budget)) :
    ∃ gone post',
      (∀ n, Admission.consider budget (n + 1) a =
        Admission.consider budget n (a.admitted gone c (a.state.admissionDemand c) pre)) ∧
      gone <+: a.state.suspensionOrder ∧ (gone = [] ∨ a.state.classOf c = 0) ∧
      (gone.foldl State.insertQueue a.state).queue = pre ++ c :: post' := by
  obtain hfull | hfits := Nat.lt_or_ge budget (a.state.admissionDemand c + weightSum a.counted)
  · obtain ⟨hclass, hzero⟩ := h.resolve_left (Nat.not_le.mpr hfull)
    obtain ⟨gone, post', hnext, hgone, -, -, hpost'⟩ := ha.consider_preempts hat hcap hfull hclass hzero
    exact ⟨gone, post', hnext, hgone, .inr hclass, hpost'⟩
  · refine ⟨[], post, fun n => ?_, List.nil_prefix, .inl rfl, hat.queue⟩
    rw [hat.consider_of_fits hcap hfits, ha.enlist_eq_admitted hat]

/-- A consideration ends step A, or leaves fewer considerations with the laws kept. -/
theorem Lawful.consider_next (ha : a.Lawful) (budget : Nat) :
    (∀ n, Admission.consider budget n a = a) ∨
      ∃ b : Admission, b.Lawful ∧ b.toConsider < a.toConsider ∧
        ∀ n, Admission.consider budget (n + 1) a = Admission.consider budget n b := by
  obtain hend | ⟨c, pre, post, hat⟩ := a.end_or_at
  · exact .inl (Admission.consider_of_end hend budget)
  obtain hcap | hcap := Nat.lt_or_ge (a.state.capOf c) a.state.feeder.pmin
  · exact .inr ⟨{ a with passed := a.passed + 1 }, ⟨ha.membership, ha.order, ha.counted⟩, hat.toConsider_pass,
      hat.consider_of_cap hcap⟩
  by_cases hadmits : a.state.admissionDemand c + weightSum a.counted ≤ budget ∨
      (a.state.classOf c = 0 ∧ a.state.admissionDemand c + a.classZeroSum ≤ budget)
  · obtain ⟨gone, post', hnext, hgone, hclass, hpost'⟩ := ha.consider_admits hat hcap hadmits
    exact .inr ⟨_, ha.admitted hat hgone _, ha.toConsider_admitted hat hgone hclass hpost', hnext⟩
  · obtain ⟨hfull, hno⟩ := not_or.mp hadmits
    exact .inl (hat.consider_of_misfit hcap (Nat.lt_of_not_le hfull) ((not_and_or.mp hno).imp_right Nat.lt_of_not_le))

/-- More considerations than are left change nothing. -/
theorem Lawful.consider_add (ha : a.Lawful) {fuel : Nat} (hle : a.toConsider ≤ fuel) (n : Nat) :
    Admission.consider budget (fuel + n) a = Admission.consider budget fuel a := by
  induction fuel generalizing a with
  | zero =>
    obtain hend | ⟨b, -, hlt, -⟩ := ha.consider_next budget
    · rw [hend, hend]
    · omega
  | succ fuel ih =>
    obtain hend | ⟨b, hb, hlt, hnext⟩ := ha.consider_next budget
    · rw [hend, hend]
    · rw [Nat.add_right_comm, hnext, hnext, ih hb (by omega)]

end Admission

/-! ### What step A leaves (R36, R39, R40) -/

theorem State.admission_eq (s : State) (budget : Nat) :
    s.admission budget = (Admission.consider budget (s.queue.length + s.active.length) s.admissionStart).state := rfl

/-- Suspensions and an admission change no session. -/
theorem State.classOf_candidate (u : State) (gone : List Pad) (c p : Pad) :
    ((gone.foldl State.toQueue u).enlisted c).classOf p = u.classOf p :=
  State.classOf_congr (congrArg (Table.get · p) (State.SameHeld.foldl State.toQueue_sameHeld gone u).sessions)

theorem State.mem_active_foldl_toQueue {p : Pad} {pads : List Pad} {u : State} (hp : p ∈ u.active) (hnot : p ∉ pads) :
    p ∈ (pads.foldl State.toQueue u).active := by
  induction pads generalizing u with
  | nil => exact hp
  | cons q rest ih =>
    rw [List.mem_cons, not_or] at hnot
    obtain ⟨hne, hrest⟩ := hnot
    exact ih ((List.mem_erase_of_ne hne).mpr hp) hrest

/-- A class-0 session is suspended for no candidate (R39). -/
theorem State.mem_active_candidate {u : State} {p : Pad} {gone : List Pad} (hp : p ∈ u.active)
    (hclass : u.classOf p = 0) (hgone : gone <+: u.suspensionOrder) (c : Pad) :
    p ∈ ((gone.foldl State.toQueue u).enlisted c).active := by
  refine List.mem_append_left _ (State.mem_active_foldl_toQueue hp fun hin => ?_)
  obtain ⟨-, hne⟩ := State.mem_suspensionOrder (hgone.subset hin)
  exact hne hclass

/-- Every ACTIVE class-0 session stays so (R39). -/
theorem Admission.mem_active_of_class_zero {a : Admission} {p : Pad} (hp : p ∈ a.state.active)
    (hclass : a.state.classOf p = 0) (budget n : Nat) : p ∈ (Admission.consider budget n a).state.active := by
  obtain ⟨hmem, -⟩ := Admission.consider_induction (P := fun u => p ∈ u.active ∧ u.classOf p = 0)
    (fun u c gone ⟨hmem, hzero⟩ _ _ hgone _ =>
      ⟨State.mem_active_candidate hmem hzero hgone c, (u.classOf_candidate gone c p).trans hzero⟩) n a ⟨hp, hclass⟩
  exact hmem

/-- Once no entry of class 0 is queued, no session is suspended. -/
theorem Admission.mem_active_of_queue {a : Admission} {p : Pad} (hp : p ∈ a.state.active)
    (hqueue : ∀ q ∈ a.state.queue, a.state.classOf q ≠ 0) (budget n : Nat) :
    p ∈ (Admission.consider budget n a).state.active := by
  obtain ⟨hmem, -⟩ := Admission.consider_induction (P := fun u => p ∈ u.active ∧ ∀ q ∈ u.queue, u.classOf q ≠ 0)
    (fun u c gone ⟨hmem, hnone⟩ hc _ _ hclass => by
      obtain rfl := hclass.resolve_right (hnone c hc)
      exact ⟨List.mem_append_left _ hmem, fun q hq => hnone q (List.mem_of_mem_erase hq)⟩) n a ⟨hp, hqueue⟩
  exact hmem

theorem State.Admits.capOf_eq {b u : State} (h : b.Admits u) (p : Pad) : u.capOf p = b.capOf p := by
  obtain ⟨haccept, -⟩ := h.kept p
  refine State.capOf_congr ?_ ?_ ?_ haccept <;> rw [h.frame]

/-- Every pad that step A admitted has a cap of at least P_min (R34). -/
theorem State.cap_of_mem_active_admission {s : State} (hlaw : s.MembershipLaw) {budget : Nat} {p : Pad}
    (hp : p ∈ (s.admission budget).active) : p ∈ s.active ∨ s.feeder.pmin ≤ s.capOf p := by
  have hb := hlaw.nodup
  obtain ⟨-, h⟩ := Admission.consider_induction (budget := budget)
    (P := fun u => s.Admits u ∧ ∀ q ∈ u.active, q ∈ s.active ∨ s.feeder.pmin ≤ s.capOf q)
    (fun u c gone ⟨hadmits, hcaps⟩ hc hcap hgone _ => by
      obtain ⟨-, hactive, -⟩ := List.nodup_append.mp (hadmits.nodup hb)
      rw [State.foldl_toQueue hactive]
      refine ⟨hadmits.enlisted hb hc hgone, fun q hq => ?_⟩
      obtain hq | hq := List.mem_append.mp hq
      · obtain ⟨hin, -⟩ := State.mem_active_afterReturns.mp hq
        exact hcaps q hin
      · have hpmin : u.feeder.pmin = s.feeder.pmin := by rw [hadmits.frame]
        rw [List.mem_singleton.mp hq, ← hpmin, ← hadmits.capOf_eq]
        exact .inr hcap)
    (s.queue.length + s.active.length) s.admissionStart ⟨.refl s, fun _ => .inl⟩
  exact h p hp

/-! ### The head of the queue (R36, R37) -/

section Head

variable {s : State} {c : Pad} {rest : List Pad} {budget : Nat}

theorem State.at_admissionStart (hq : s.queue = c :: rest) : s.admissionStart.At c [] rest := ⟨hq, rfl⟩

theorem State.weightSum_admissionStart (s : State) : weightSum s.admissionStart.counted = sumOver s.active s.demandOf := by
  rw [State.admissionStart, weightSum, List.map_map]
  rfl

theorem State.classZeroSum_admissionStart (s : State) :
    s.admissionStart.classZeroSum = sumOver (s.active.filter fun p => decide (s.classOf p = 0)) s.demandOf := by
  rw [State.admissionStart, Admission.classZeroSum, List.filter_map, weightSum, List.map_map]
  rfl

/-- The head of the queue that fits or can preempt is ACTIVE after step A. -/
theorem State.head_admitted (hlaw : s.MembershipLaw) (horder : s.QueueClassOrder) (hq : s.queue = c :: rest)
    (hcap : s.feeder.pmin ≤ s.capOf c)
    (h : s.admissionDemand c + sumOver s.active s.demandOf ≤ budget ∨
      (s.classOf c = 0 ∧
        s.admissionDemand c + sumOver (s.active.filter fun p => decide (s.classOf p = 0)) s.demandOf ≤ budget)) :
    c ∈ (s.admission budget).active := by
  have ha := State.lawful_admissionStart hlaw horder
  have hat := State.at_admissionStart hq
  rw [← s.weightSum_admissionStart, ← s.classZeroSum_admissionStart] at h
  obtain ⟨gone, post', hnext, -, hclass, hpost'⟩ := ha.consider_admits hat hcap h
  have hfuel : s.queue.length + s.active.length = rest.length + s.active.length + 1 := by
    rw [hq, List.length_cons]
    omega
  rw [State.admission_eq, hfuel, hnext]
  have hc : c ∈ (s.admissionStart.admitted gone c (s.admissionDemand c) []).state.active :=
    List.mem_append_right _ (List.mem_singleton_self c)
  by_cases hzero : s.classOf c = 0
  · exact Admission.mem_active_of_class_zero hc hzero _ _
  · obtain rfl := hclass.resolve_right hzero
    obtain ⟨-, hge⟩ := ha.class_le hat
    refine Admission.mem_active_of_queue hc (fun q hin h0 => hzero ?_) _ _
    have hrest : q ∈ rest := by
      have hin' : q ∈ ((s.admissionStart.admitted [] c (s.admissionDemand c) []).state.queue) := hin
      rw [← ha.enlist_eq_admitted hat] at hin'
      have : q ∈ s.queue.erase c := hin'
      rwa [hq, List.erase_cons_head] at this
    exact Fin.le_zero_iff.mp (h0 ▸ hge q hrest)

/-- With the head of the queue neither fitting nor able to preempt, step A changes nothing (R36). -/
theorem State.admission_of_head_misfit (hq : s.queue = c :: rest) (hcap : s.feeder.pmin ≤ s.capOf c)
    (hfull : budget < s.admissionDemand c + sumOver s.active s.demandOf)
    (hno : s.classOf c ≠ 0 ∨
      budget < s.admissionDemand c + sumOver (s.active.filter fun p => decide (s.classOf p = 0)) s.demandOf) :
    s.admission budget = s := by
  rw [← s.weightSum_admissionStart] at hfull
  rw [← s.classZeroSum_admissionStart] at hno
  rw [State.admission_eq, (State.at_admissionStart hq).consider_of_misfit hcap hfull hno]
  rfl

end Head

end Sys2Proof.Machine
end

section
/-! PROOFS. The decisions of step A, assembled (R34 to R40). -/

namespace Sys2Proof.Machine

/-- The admission demand of a session that has been matched (R53, R54, R35). -/
theorem State.admissionDemand_of_matched {s : State} {p : Pad} {phase : Matched} {token tag : Nat} {terms : Terms}
    {m : Meter} (h : (s.session p).body = .matched phase token tag terms m) :
    s.admissionDemand p = max s.feeder.pmin (min (min (if terms.target - m.delivered = 0 then 0 else if
      deadlineDistance terms.deadline s.timer.slot = 0 then s.capOf p else min
      ((terms.target - m.delivered + deadlineDistance terms.deadline s.timer.slot - 1) / deadlineDistance
      terms.deadline s.timer.slot) (s.capOf p)) (s.capOf p)) s.feeder.ramp) := by
  simp only [State.admissionDemand, State.needOf, Machine.needOf, State.remainingOf, State.distanceOf, h, PadBody.terms]

/-- The order of suspension, class by class (R39). -/
theorem State.suspensionOrder_eq (s : State) :
    s.suspensionOrder = (s.active.reverse.filter fun p => decide (s.classOf p = 3)) ++
      (s.active.reverse.filter fun p => decide (s.classOf p = 2)) ++
      (s.active.reverse.filter fun p => decide (s.classOf p = 1)) := by
  simp only [State.suspensionOrder, List.flatMap_cons, List.flatMap_nil, List.append_nil, List.append_assoc]

/-- R29's scan in its own terms. -/
theorem State.insertQueue_queue_eq (s : State) (p : Pad) :
    (s.insertQueue p).queue = insertBefore
      (fun q => decide (s.classOf p < s.classOf q ∨ (s.classOf p = s.classOf q ∧ s.distanceOf p < s.distanceOf q))) p
      s.queue := by
  simp only [Bool.decide_or, Bool.decide_and]
  rfl

/-- Settles O44: each clause is a branch of `Admission.consider`, or follows from them by the induction over considerations. -/
theorem classZeroKeepsItsPlace : Obligations.ClassZeroKeepsItsPlace := by
  unfold Obligations.ClassZeroKeepsItsPlace
  refine ⟨?whole, ?bound, ?demand, ?ends, ?passes, ?fits, ?misfit, ?preempts, ?order, ?insertion, ?head, ?headMisfit⟩
  case whole =>
    intro s budget p hlaw
    refine ⟨fun ⟨hp, hclass⟩ => Admission.mem_active_of_class_zero (a := s.admissionStart) hp hclass budget _,
      fun ⟨hoff, hp⟩ => (State.cap_of_mem_active_admission hlaw hp).resolve_left hoff⟩
  case bound =>
    intro n budget s hlaw horder
    have ha := State.lawful_admissionStart hlaw horder
    exact congrArg Admission.state (ha.consider_add s.toConsider_admissionStart_le n).symm
  case demand =>
    intro p phase token tag terms m s hb
    exact State.admissionDemand_of_matched hb
  case ends =>
    intro n budget a h
    exact Admission.consider_of_end h budget _
  case passes =>
    intro n budget d c pre post a hq hp _ hcap
    exact Admission.At.consider_of_cap ⟨hq, hp⟩ hcap n
  case fits =>
    intro n budget d c pre post a b hlaw horder hcounted hq hp hd hcap hfits hb
    subst hd
    have ha : a.Lawful := ⟨hlaw, horder, hcounted⟩
    have hat : a.At c pre post := ⟨hq, hp⟩
    obtain ⟨hpre, -⟩ := ha.not_mem_pre hat
    have hadmitted : b = a.enlist c (a.state.admissionDemand c) := by
      rw [hb, hat.enlist_eq hpre, hat.enlisted_eq hpre]
    have hlawful := ha.admitted hat List.nil_prefix (a.state.admissionDemand c)
    rw [← ha.enlist_eq_admitted hat, ← hadmitted] at hlawful
    exact ⟨hadmitted ▸ hat.consider_of_fits hcap hfits n, hlawful.membership, hlawful.order, hlawful.counted⟩
  case misfit =>
    intro n budget d c pre post a hq hp hd hcap hfull hno
    subst hd
    exact Admission.At.consider_of_misfit ⟨hq, hp⟩ hcap hfull hno _
  case preempts =>
    intro n budget d c pre post a hlaw horder hcounted hq hp hd hcap hfull hclass hzero
    subst hd
    have ha : a.Lawful := ⟨hlaw, horder, hcounted⟩
    have hat : a.At c pre post := ⟨hq, hp⟩
    obtain ⟨hpre, hoff⟩ := ha.not_mem_pre hat
    obtain ⟨gone, post', hnext, hgone, hfits, hfewest, hqueue⟩ := ha.consider_preempts hat hcap hfull hclass hzero
    have hlawful := ha.admitted hat hgone (a.state.admissionDemand c)
    have hreturned : (⟨a.state.afterReturns gone, [], pre.length⟩ : Admission).At c pre post' := ⟨hqueue, rfl⟩
    have hactive : ∀ v ∈ gone, v ∈ a.state.active ∧ a.state.classOf v ≠ 0 := fun v hv =>
      State.mem_suspensionOrder (hgone.subset hv)
    have hcgone : c ∉ gone := fun hin => by
      obtain ⟨hin', -⟩ := hactive c hin
      exact hoff hin'
    refine ⟨gone, post', a.admitted gone c (a.state.admissionDemand c) pre, hnext n, hgone, hfits, hfewest, hqueue,
      hreturned.queue_enlisted hpre, rfl, fun v hv => ?suspended, ?candidate, fun q hq hne => ?others, rfl, rfl, rfl,
      hlawful.membership, hlawful.order, hlawful.counted⟩
    case suspended =>
      obtain ⟨-, hne⟩ := hactive v hv
      refine ⟨hne, ?_⟩
      change ((a.state.afterReturns gone).enlisted c).allocOf v = _
      rw [State.allocOf_enlisted_ne _ (ne_of_mem_of_not_mem hv hcgone), State.allocOf_afterReturns, if_pos hv]
      rfl
    case candidate =>
      change ((a.state.afterReturns gone).enlisted c).allocOf c = _
      rw [State.allocOf_enlisted_self, State.allocOf_afterReturns, if_neg hcgone]
    case others =>
      change ((a.state.afterReturns gone).enlisted c).allocOf q = _
      rw [State.allocOf_enlisted_ne _ hne, State.allocOf_afterReturns, if_neg hq]
  case order => exact State.suspensionOrder_eq
  case insertion => exact fun p s => s.insertQueue_queue_eq p
  case head =>
    intro budget d c rest s hlaw horder hq hcap hd h
    subst hd
    have hactive := State.head_admitted hlaw horder hq hcap h
    obtain ⟨-, -, hdisjoint, -⟩ := (s.admission_acts budget).keeps (law := State.MembershipLaw)
      (fun hact => hact.membershipLaw) hlaw
    exact ⟨hactive, fun hin => hdisjoint c hin hactive⟩
  case headMisfit =>
    intro budget d c rest s hq hcap hd hfull hno
    subst hd
    exact State.admission_of_head_misfit hq hcap hfull hno

end Sys2Proof.Machine
end

section
/-! PROOFS. The bounds that every round keeps (R51, R56, R65), boundary or mid-slot. -/

namespace Sys2Proof.Machine

/-! ### Grants at P_min (R61, R62) -/

/-- A power that is 0 or at least P_min (R65, R87). -/
abbrev AtLeastPmin (pmin kw : Nat) : Prop := kw = 0 ∨ pmin ≤ kw

theorem AtLeastPmin.min {pmin a b : Nat} (ha : AtLeastPmin pmin a) (hb : AtLeastPmin pmin b) :
    AtLeastPmin pmin (Min.min a b) := by
  obtain h | h := Nat.le_total a b
  · rwa [Nat.min_eq_left h]
  · rwa [Nat.min_eq_right h]

/-- Freed power is offered to grants of at least P_min alone (R62). -/
theorem State.offerFreed_atLeastPmin {s : State} {freed : Nat} {gs : List (Pad × Nat)}
    (hgs : ∀ w ∈ gs, AtLeastPmin s.feeder.pmin w.2) {x : Pad × Nat} (h : x ∈ s.offerFreed freed gs) :
    AtLeastPmin s.feeder.pmin x.2 := by
  induction gs generalizing freed with
  | nil => cases h
  | cons w gs ih =>
    obtain ⟨p, g⟩ := w
    have hrest : ∀ w ∈ gs, AtLeastPmin s.feeder.pmin w.2 := fun w hw => hgs w (.tail _ hw)
    rw [State.offerFreed] at h
    split at h
    · rename_i hg
      obtain rfl | h := List.mem_cons.mp h
      · exact .inr (hg.trans (Nat.le_add_right ..))
      · exact ih hrest h
    · obtain rfl | h := List.mem_cons.mp h
      · exact hgs _ List.mem_cons_self
      · exact ih hrest h

/-- Every grant of a round is 0 or at least P_min (R61). -/
theorem State.grantOf_grants_atLeastPmin (s : State) (budget : Nat) (p : Pad) :
    AtLeastPmin s.feeder.pmin (grantOf (s.grants budget) p) := by
  refine (grantOf_eq_zero_or_mem (s.grants budget) p).elim .inl fun hmem => ?_
  refine State.offerFreed_atLeastPmin (fun w hw => ?_) hmem
  obtain ⟨v, -, rfl⟩ := List.mem_map.mp hw
  exact dropSmall_eq_zero_or _ _

/-! ### What admission leaves of a record -/

/-- A record is the same, or it went back to the queue, or its ramp base and starvation count were set to 0: what
admission makes of records (R39, R40). -/
inductive AllocRec.Considered (a : AllocRec) : AllocRec → Prop
  | same : Considered a a
  | idle {b : AllocRec} : Considered a b → Considered a b.idle
  | enlisted {b : AllocRec} : Considered a b → Considered a { b with rampBase := 0, starvation := 0 }

theorem State.allocOf_toQueue (s : State) (p q : Pad) :
    (s.toQueue p).allocOf q = if q = p then (s.allocOf p).idle else s.allocOf q := by
  change (s.setAlloc p (s.allocOf p).idle).allocOf q = _
  by_cases h : q = p
  · subst h; simp
  · simp [h]

theorem State.considered_foldl_toQueue {a : AllocRec} {q : Pad} (pads : List Pad) {u : State}
    (h : a.Considered (u.allocOf q)) : a.Considered ((pads.foldl State.toQueue u).allocOf q) := by
  induction pads generalizing u with
  | nil => exact h
  | cons p rest ih =>
    refine ih ?_
    rw [u.allocOf_toQueue]
    split
    · rename_i hq
      subst hq
      exact h.idle
    · exact h

/-- Admission considers records only, whatever the collections hold. -/
theorem State.considered_admission (s : State) (budget : Nat) (p : Pad) :
    (s.allocOf p).Considered ((s.admission budget).allocOf p) := by
  refine State.admission_induction (fun u => (s.allocOf p).Considered (u.allocOf p)) .same fun u c gone h _ _ _ => ?_
  have hgone := State.considered_foldl_toQueue gone h
  by_cases hp : p = c
  · subst hp
    rw [State.allocOf_enlisted_self]
    exact hgone.enlisted
  · rwa [State.allocOf_enlisted_ne _ hp]

/-- What admission keeps or sets to 0. -/
theorem AllocRec.Considered.kept {a b : AllocRec} (h : a.Considered b) :
    b.accept = a.accept ∧ b.mode = a.mode ∧ b.measured = a.measured ∧ b.compliance = a.compliance ∧
      (b.setpoint = a.setpoint ∨ b.setpoint = 0) ∧ (b.target = a.target ∨ b.target = 0) ∧
      (b.rampBase = a.rampBase ∨ b.rampBase = 0) ∧ (b.starvation = a.starvation ∨ b.starvation = 0) := by
  induction h with
  | same => exact ⟨rfl, rfl, rfl, rfl, .inl rfl, .inl rfl, .inl rfl, .inl rfl⟩
  | idle _ ih =>
    obtain ⟨h1, h2, h3, h4, -, -, -, -⟩ := ih
    exact ⟨h1, h2, h3, h4, .inr rfl, .inr rfl, .inr rfl, .inr rfl⟩
  | enlisted _ ih =>
    obtain ⟨h1, h2, h3, h4, h5, h6, -, -⟩ := ih
    exact ⟨h1, h2, h3, h4, h5, h6, .inr rfl, .inr rfl⟩

/-! ### The five steps of a round -/

/-- The state step A of a round starts from: the round request served, at a boundary with the ramp bases set (R49, R55).
-/
def State.roundFrom (s : State) (boundary : Bool) : State :=
  if boundary then s.roundStart else { s with roundRequest := false }

/-- The state step A of a round leaves. -/
def State.roundMembers (s : State) (boundary : Bool) : State := (s.roundFrom boundary).admission s.budget

theorem State.roundTargets_eq (s : State) (boundary : Bool) :
    s.roundTargets boundary =
      (s.roundMembers boundary).applyTargets ((s.roundMembers boundary).grants s.budget) := rfl

theorem State.allocOf_roundFrom (s : State) (boundary : Bool) (p : Pad) :
    (s.roundFrom boundary).allocOf p =
      if boundary ∧ p ∈ s.active then { s.allocOf p with rampBase := (s.allocOf p).setpoint } else s.allocOf p := by
  cases boundary with
  | false => rfl
  | true =>
    simp only [true_and]
    exact State.allocOf_setRampBases { s with roundRequest := false } p

/-- A round up to its targets changes allocator records, the collections and the round request only. -/
theorem State.roundMembers_frame (s : State) (boundary : Bool) :
    s.roundMembers boundary =
      { s with
        alloc := (s.roundMembers boundary).alloc
        queue := (s.roundMembers boundary).queue
        active := (s.roundMembers boundary).active
        roundRequest := false } := by
  rw [State.roundMembers, State.admission_frame]
  cases boundary <;> rfl

theorem State.roundTargets_frame (s : State) (boundary : Bool) :
    s.roundTargets boundary =
      { s with
        alloc := (s.roundTargets boundary).alloc
        queue := (s.roundMembers boundary).queue
        active := (s.roundMembers boundary).active
        roundRequest := false } := by
  have htargets : s.roundTargets boundary =
      { s.roundMembers boundary with alloc := (s.roundTargets boundary).alloc } := rfl
  exact htargets.trans (congrArg (fun u : State => { u with alloc := (s.roundTargets boundary).alloc })
    (s.roundMembers_frame boundary))

theorem State.active_roundTargets (s : State) (boundary : Bool) :
    (s.roundTargets boundary).active = (s.roundMembers boundary).active := rfl

/-- Each record after a round's targets. -/
theorem State.allocOf_targets (s : State) (boundary : Bool) (p : Pad) :
    (s.roundTargets boundary).allocOf p =
      if p ∈ (s.roundMembers boundary).active then
        { (s.roundMembers boundary).allocOf p with
          target := grantOf ((s.roundMembers boundary).grants s.budget) p
          setpoint := min ((s.roundMembers boundary).allocOf p).setpoint
            (grantOf ((s.roundMembers boundary).grants s.budget) p) }
      else { (s.roundMembers boundary).allocOf p with target := 0 } := by
  rw [s.roundTargets_eq, State.allocOf_applyTargets]

/-- The targets change neither cap nor reach. -/
theorem State.cap_reach_targets (s : State) (boundary : Bool) (p : Pad) :
    (s.roundTargets boundary).capOf p = (s.roundMembers boundary).capOf p ∧
      (s.roundTargets boundary).reachOf p = (s.roundMembers boundary).reachOf p := by
  have hkept : ((s.roundTargets boundary).allocOf p).accept = ((s.roundMembers boundary).allocOf p).accept ∧
      ((s.roundTargets boundary).allocOf p).paused = ((s.roundMembers boundary).allocOf p).paused ∧
      ((s.roundTargets boundary).allocOf p).rampBase = ((s.roundMembers boundary).allocOf p).rampBase := by
    rw [s.allocOf_targets]
    split <;> exact ⟨rfl, rfl, rfl⟩
  obtain ⟨haccept, hpaused, hramp⟩ := hkept
  have hcap : (s.roundTargets boundary).capOf p = (s.roundMembers boundary).capOf p :=
    State.capOf_congr rfl rfl rfl haccept
  refine ⟨hcap, ?_⟩
  rw [State.reachOf, State.reachOf, hcap, hpaused, hramp]
  rfl

section Bounds

variable (s : State) (boundary : Bool) (p : Pad)

theorem State.target_roundTargets :
    ((s.roundTargets boundary).allocOf p).target =
      if p ∈ (s.roundMembers boundary).active then grantOf ((s.roundMembers boundary).grants s.budget) p else 0 := by
  rw [s.allocOf_targets]
  split <;> rfl

theorem State.target_roundTargets_le :
    ((s.roundTargets boundary).allocOf p).target ≤ grantOf ((s.roundMembers boundary).grants s.budget) p := by
  rw [s.target_roundTargets]
  split
  · exact Nat.le_refl _
  · exact Nat.zero_le _

/-- Every target is 0 or at least P_min (R65). -/
theorem State.target_roundTargets_atLeastPmin :
    AtLeastPmin s.feeder.pmin ((s.roundTargets boundary).allocOf p).target := by
  have hgrant := (s.roundMembers boundary).grantOf_grants_atLeastPmin s.budget p
  have hpmin : (s.roundMembers boundary).feeder.pmin = s.feeder.pmin := by rw [s.roundMembers_frame]
  rw [hpmin] at hgrant
  rw [s.target_roundTargets]
  split
  · exact hgrant
  · exact .inl rfl

/-- Every target is within the pad's reach (R65). -/
theorem State.target_roundTargets_le_reachOf :
    ((s.roundTargets boundary).allocOf p).target ≤ (s.roundTargets boundary).reachOf p := by
  obtain ⟨-, hreach⟩ := s.cap_reach_targets boundary p
  rw [hreach]
  exact (s.target_roundTargets_le boundary p).trans (State.grantOf_grants_le_reachOf _ _ p)

theorem State.target_roundTargets_le_capOf :
    ((s.roundTargets boundary).allocOf p).target ≤ (s.roundTargets boundary).capOf p :=
  (s.target_roundTargets_le_reachOf boundary p).trans ((s.roundTargets boundary).reachOf_le p).1

/-- The targets come to no more than the budget (R65). -/
theorem State.sumOver_target_roundTargets_le :
    sumOver padList (fun p => ((s.roundTargets boundary).allocOf p).target) ≤ s.budget :=
  (sumOver_le_sumOver fun p _ => s.target_roundTargets_le boundary p).trans (State.sumOver_grants_le _ _)

/-- Step A leaves a setpoint or sets it to 0. -/
theorem State.setpoint_roundMembers :
    ((s.roundMembers boundary).allocOf p).setpoint = (s.allocOf p).setpoint ∨
      ((s.roundMembers boundary).allocOf p).setpoint = 0 := by
  obtain ⟨-, -, -, -, hsetpoint, -⟩ := ((s.roundFrom boundary).considered_admission s.budget p).kept
  have hfrom : ((s.roundFrom boundary).allocOf p).setpoint = (s.allocOf p).setpoint := by
    rw [s.allocOf_roundFrom]
    split <;> rfl
  rwa [hfrom] at hsetpoint

/-- A round leaves a setpoint, or lowers it to the new target (R63). -/
theorem State.setpoint_roundTargets_le :
    ((s.roundTargets boundary).allocOf p).setpoint ≤ (s.allocOf p).setpoint ∧
      (p ∈ (s.roundTargets boundary).active →
        ((s.roundTargets boundary).allocOf p).setpoint ≤ ((s.roundTargets boundary).allocOf p).target) := by
  have hle : ((s.roundMembers boundary).allocOf p).setpoint ≤ (s.allocOf p).setpoint :=
    (s.setpoint_roundMembers boundary p).elim (fun h => h.le) fun h => h.le.trans (Nat.zero_le _)
  rw [s.active_roundTargets, s.allocOf_targets]
  split
  · dsimp only
    exact ⟨(Nat.min_le_left ..).trans hle, fun _ => Nat.min_le_right ..⟩
  · rename_i hoff
    exact ⟨hle, fun hin => absurd hin hoff⟩

end Bounds

/-- Settles O42: the targets are the grants, and the grants keep the bounds. -/
theorem roundBounds : Obligations.RoundBounds := by
  unfold Obligations.RoundBounds
  rintro s u boundary rfl
  refine ⟨fun p hp => ?active, fun p => ?reach, fun p => s.target_roundTargets_atLeastPmin boundary p, fun p hp => ?off,
    s.sumOver_target_roundTargets_le boundary, ?request⟩
  case active =>
    obtain ⟨hle, htarget⟩ := s.setpoint_roundTargets_le boundary p
    exact ⟨s.target_roundTargets_le_reachOf boundary p, htarget hp, hle⟩
  case reach =>
    obtain ⟨hcap, hramp⟩ := (s.roundTargets boundary).reachOf_le p
    exact ⟨hcap, hramp, fun hpaused => if_pos hpaused⟩
  case off => rw [s.target_roundTargets]; exact if_neg hp
  case request => rw [s.roundTargets_frame]

end Sys2Proof.Machine
end

section
/-! PROOFS. What the passes of a round give each pad (R58 to R62), in closed form. -/

namespace Sys2Proof.Machine

/-! ### Grants of lists made of others -/

theorem grantOf_append (xs ys : List (Pad × Nat)) (p : Pad) :
    grantOf (xs ++ ys) p = if p ∈ xs.map (·.1) then grantOf xs p else grantOf ys p := by
  induction xs with
  | nil => rfl
  | cons w xs ih =>
    rw [List.cons_append, grantOf_cons, grantOf_cons, ih]
    by_cases h : w.1 = p
    · simp [h]
    · have hmem : p ∈ (w :: xs).map (·.1) ↔ p ∈ xs.map (·.1) := by
        rw [List.map_cons, List.mem_cons, or_iff_right (Ne.symm h)]
      simp only [h, if_false, hmem]

/-- A list in which each grant is raised by a quantity of its pad. -/
theorem grantOf_map_add (f : Pad → Nat) {gs : List (Pad × Nat)} {p : Pad} (hp : p ∈ gs.map (·.1)) :
    grantOf (gs.map fun w => (w.1, w.2 + f w.1)) p = grantOf gs p + f p := by
  induction gs with
  | nil => cases hp
  | cons w gs ih =>
    rw [List.map_cons, grantOf_cons, grantOf_cons]
    dsimp only
    by_cases h : w.1 = p
    · rw [if_pos h, if_pos h, h]
    · rw [if_neg h, if_neg h, ih ((List.mem_cons.mp hp).resolve_left (Ne.symm h))]

theorem State.activePads_pairwise (s : State) : s.activePads.Pairwise (· < ·) :=
  (List.pairwise_lt_finRange 24).filter _

/-! ### Step B: the need pass (R58) -/

section NeedPass

variable (s : State)

/-- The active pads of a class, in ascending pad number. -/
def State.classPads (k : Sys2Proof.Class) : List Pad := s.activePads.filter fun p => decide (s.classOf p = k)

theorem State.mem_classPads {s : State} {k : Sys2Proof.Class} {p : Pad} :
    p ∈ s.classPads k ↔ p ∈ s.active ∧ s.classOf p = k := by
  simp [State.classPads]

theorem State.needPass_cons (k : Sys2Proof.Class) (ks : List Sys2Proof.Class) (balance : Nat) :
    s.needPass (k :: ks) balance =
      portion balance ((s.classPads k).map fun p => (p, s.demandOf p)) ++
        s.needPass ks (balance - sumOver (s.classPads k) s.demandOf) := by
  rw [State.needPass, weightSum, List.map_map]
  rfl

theorem State.map_fst_portion_classPads (balance : Nat) (k : Sys2Proof.Class) :
    (portion balance ((s.classPads k).map fun p => (p, s.demandOf p))).map (·.1) = s.classPads k := by
  rw [map_fst_portion, List.map_map]
  exact List.map_id _

/-- The demands of the classes of a list, each class of it once. -/
theorem State.sumOver_classes_cons {k : Sys2Proof.Class} {ks : List Sys2Proof.Class} (hk : k ∉ ks) :
    sumOver (s.activePads.filter fun q => decide (s.classOf q ∈ k :: ks)) s.demandOf =
      sumOver (s.classPads k) s.demandOf +
        sumOver (s.activePads.filter fun q => decide (s.classOf q ∈ ks)) s.demandOf := by
  have hsplit := sumOver_filter_add (s.activePads.filter fun q => decide (s.classOf q ∈ k :: ks))
    (fun q => decide (s.classOf q = k)) s.demandOf
  rw [← hsplit, List.filter_filter, List.filter_filter, State.classPads]
  congr 2 <;> refine List.filter_congr fun q _ => ?_
  · by_cases h : s.classOf q = k <;> simp [h]
  · by_cases h : s.classOf q = k
    · simp [h, hk]
    · simp [h]

/-- A pad of a class gets its share of what the classes before leave of the balance. -/
theorem State.grantOf_needPass {p : Pad} (hp : p ∈ s.active) (before after : List Sys2Proof.Class) (balance : Nat)
    (hbefore : (before ++ [s.classOf p]).Nodup) :
    grantOf (s.needPass (before ++ s.classOf p :: after) balance) p =
      shareOf (balance - sumOver (s.activePads.filter fun q => decide (s.classOf q ∈ before)) s.demandOf)
        (s.classPads (s.classOf p)) s.demandOf p := by
  induction before generalizing balance with
  | nil =>
    have hmem : p ∈ s.classPads (s.classOf p) := State.mem_classPads.mpr ⟨hp, rfl⟩
    have hnone :
        sumOver (s.activePads.filter fun q => decide (s.classOf q ∈ ([] : List Sys2Proof.Class))) s.demandOf = 0 := by
      simp
    rw [List.nil_append, s.needPass_cons, grantOf_append, s.map_fst_portion_classPads, if_pos hmem, hnone, Nat.sub_zero]
    exact grantOf_portion balance s.demandOf _ (s.activePads_pairwise.filter _) p hmem
  | cons k before ih =>
    obtain ⟨hk, hrest⟩ := List.nodup_cons.mp hbefore
    have hne : s.classOf p ≠ k := fun h => hk (List.mem_append_right _ (List.mem_singleton.mpr h.symm))
    have hoff : p ∉ s.classPads k := fun h => hne (State.mem_classPads.mp h).2
    rw [List.cons_append, s.needPass_cons, grantOf_append, s.map_fst_portion_classPads, if_neg hoff, ih _ hrest,
      s.sumOver_classes_cons fun h => hk (List.mem_append_left _ h), Nat.sub_sub]

/-- The classes in their order stand around each class. -/
theorem classList_eq_append (k : Sys2Proof.Class) :
    classList = classList.filter (fun j => decide (j < k)) ++ k :: classList.filter (fun j => decide (k < j)) ∧
      (classList.filter (fun j => decide (j < k)) ++ [k]).Nodup := by
  revert k
  decide

/-- A pad gets its share of what the more urgent classes leave of the budget (R58). -/
theorem State.grantOf_needPass_classList {p : Pad} (hp : p ∈ s.active) (budget : Nat) :
    grantOf (s.needPass classList budget) p =
      shareOf (budget - sumOver (s.activePads.filter fun q => decide (s.classOf q < s.classOf p)) s.demandOf)
        (s.activePads.filter fun q => decide (s.classOf q = s.classOf p)) s.demandOf p := by
  obtain ⟨hlist, hnodup⟩ := classList_eq_append (s.classOf p)
  have hneed := s.grantOf_needPass hp _ (classList.filter fun j => decide (s.classOf p < j)) budget hnodup
  rw [← hlist] at hneed
  simpa [State.classPads] using hneed

theorem State.mem_map_fst_needPass {p : Pad} (hp : p ∈ s.active) (budget : Nat) :
    p ∈ (s.needPass classList budget).map (·.1) := by
  have hmem : p ∈ s.byClass s.activePads := State.mem_byClass.mpr (State.mem_activePads.mpr hp)
  rwa [State.map_fst_needPass]

/-- The surplus pass adds a share over the rooms up to the reach (R60). -/
theorem State.grantOf_surplusPass {p : Pad} (hp : p ∈ s.active) (amount : Nat) {gs : List (Pad × Nat)}
    (hgs : p ∈ gs.map (·.1)) :
    grantOf (s.surplusPass amount gs) p =
      grantOf gs p + shareOf amount s.activePads (fun q => s.reachOf q - grantOf gs q) p := by
  rw [State.surplusPass, grantOf_map_add _ hgs]
  congr 1
  exact grantOf_portion amount _ _ s.activePads_pairwise p (State.mem_activePads.mpr hp)

end NeedPass

/-! ### Step D: the minimum-power pass (R61, R62) -/

section MinPowerPass

variable (s : State)

/-- The rooms up to the reach of those entries of a list that are at P_min or above. -/
def State.roomOf (gs : List (Pad × Nat)) : Nat :=
  ((gs.filter fun w => decide (s.feeder.pmin ≤ w.2)).map fun w => s.reachOf w.1 - w.2).sum

theorem State.roomOf_cons (w : Pad × Nat) (gs : List (Pad × Nat)) :
    s.roomOf (w :: gs) = (if s.feeder.pmin ≤ w.2 then s.reachOf w.1 - w.2 else 0) + s.roomOf gs := by
  unfold State.roomOf
  by_cases h : s.feeder.pmin ≤ w.2 <;> simp [h]

/-- A grant takes of the freed power what the rooms ahead of it leave, up to its own reach. -/
theorem State.grantOf_offerFreed {pre : List (Pad × Nat)} {p : Pad} (hpre : ∀ w ∈ pre, w.1 ≠ p) (g freed : Nat)
    (post : List (Pad × Nat)) :
    grantOf (s.offerFreed freed (pre ++ (p, g) :: post)) p =
      if s.feeder.pmin ≤ g then g + min (freed - s.roomOf pre) (s.reachOf p - g) else g := by
  induction pre generalizing freed with
  | nil =>
    rw [List.nil_append, State.offerFreed]
    split <;> simp [grantOf_cons, State.roomOf]
  | cons w pre ih =>
    obtain ⟨q, k⟩ := w
    have hq : q ≠ p := hpre (q, k) List.mem_cons_self
    have hrest : ∀ w ∈ pre, w.1 ≠ p := fun w hw => hpre w (.tail _ hw)
    rw [List.cons_append, State.offerFreed, s.roomOf_cons]
    dsimp only
    split
    · have hleft : freed - min freed (s.reachOf q - k) - s.roomOf pre =
          freed - (s.reachOf q - k + s.roomOf pre) := by omega
      rw [grantOf_cons, if_neg hq, ih hrest, hleft]
    · rw [grantOf_cons, if_neg hq, ih hrest, Nat.zero_add]

theorem dropSmall_of_le {pmin kw : Nat} (h : pmin ≤ kw) : dropSmall pmin kw = kw := if_neg (Nat.not_lt.mpr h)

theorem dropSmall_of_lt {pmin kw : Nat} (h : kw < pmin) : dropSmall pmin kw = 0 := if_pos h

/-- Grants that became 0 are offered nothing, the others have the rooms they had. -/
theorem State.roomOf_dropSmall (gs : List (Pad × Nat)) :
    s.roomOf (gs.map fun w => (w.1, dropSmall s.feeder.pmin w.2)) = s.roomOf gs := by
  induction gs with
  | nil => rfl
  | cons w gs ih =>
    rw [List.map_cons, s.roomOf_cons, s.roomOf_cons, ih]
    congr 1
    obtain h | h := Nat.lt_or_ge w.2 s.feeder.pmin
    · dsimp only
      rw [dropSmall_of_lt h, if_neg (by omega), if_neg (by omega)]
    · dsimp only
      rw [dropSmall_of_le h]

/-- What is freed is the sum of the grants that became 0. -/
theorem weightSum_sub_dropSmall (pmin : Nat) (gs : List (Pad × Nat)) :
    weightSum gs - weightSum (gs.map fun w => (w.1, dropSmall pmin w.2)) =
      weightSum (gs.filter fun w => decide (w.2 < pmin)) := by
  have hsum : weightSum (gs.map fun w => (w.1, dropSmall pmin w.2)) +
      weightSum (gs.filter fun w => decide (w.2 < pmin)) = weightSum gs := by
    induction gs with
    | nil => rfl
    | cons w gs ih =>
      rw [List.map_cons, weightSum_cons, weightSum_cons, ← ih]
      obtain h | h := Nat.lt_or_ge w.2 pmin
      · rw [List.filter_cons_of_pos (by simpa using h), weightSum_cons]
        dsimp only
        rw [dropSmall_of_lt h]
        omega
      · rw [List.filter_cons_of_neg (by simpa using h)]
        dsimp only
        rw [dropSmall_of_le h]
        omega
  omega

/-- A grant below P_min becomes 0; another takes what the rooms ahead of it leave of the freed power (R61, R62). -/
theorem State.grantOf_minPowerPass {pre : List (Pad × Nat)} {p : Pad} (hpre : ∀ w ∈ pre, w.1 ≠ p) (g : Nat)
    (post : List (Pad × Nat)) :
    grantOf (s.minPowerPass (pre ++ (p, g) :: post)) p =
      if g < s.feeder.pmin then 0
      else g + min (weightSum ((pre ++ (p, g) :: post).filter fun w => decide (w.2 < s.feeder.pmin)) - s.roomOf pre)
        (s.reachOf p - g) := by
  have hpre' : ∀ w ∈ pre.map fun w => (w.1, dropSmall s.feeder.pmin w.2), w.1 ≠ p := fun w hw => by
    obtain ⟨v, hv, rfl⟩ := List.mem_map.mp hw
    exact hpre v hv
  rw [State.minPowerPass, weightSum_sub_dropSmall, List.map_append, List.map_cons, s.grantOf_offerFreed hpre',
    s.roomOf_dropSmall]
  obtain h | h := Nat.lt_or_ge g s.feeder.pmin
  · rw [dropSmall_of_lt h, if_neg (by omega), if_pos h]
  · rw [dropSmall_of_le h, if_pos h, if_neg (Nat.not_lt.mpr h)]

end MinPowerPass

end Sys2Proof.Machine
end

section
/-! PROOFS. MID_SLOT_ROUND as one event (R49, R64). -/

namespace Sys2Proof.Machine

/-- A mid-slot round with its raise release attempt changes allocator records, collections and round request only. -/
theorem State.midSlotRound_frame (s : State) :
    s.midSlotRound =
      { s with
        alloc := s.midSlotRound.alloc
        queue := (s.roundMembers false).queue
        active := (s.roundMembers false).active
        roundRequest := false } :=
  (s.roundTargets false).releaseAttempt_frame.trans
    (congrArg (fun u : State => { u with alloc := s.midSlotRound.alloc }) (s.roundTargets_frame false))

/-- The event of a mid-slot round. -/
theorem State.Ready.midSlotRound {s : State} (hs : s.Ready) (hrequest : s.roundRequest = true) :
    ∃ alloc, exec .midSlotRound s = .next
        { s with
          alloc := alloc
          queue := (s.roundMembers false).queue
          active := (s.roundMembers false).active
          roundRequest := false } ∧
      ∀ p, ((s.roundTargets false).allocOf p).Released (alloc.get p) := by
  have hround : ∀ p, ((s.roundTargets false).allocOf p).Released (s.midSlotRound.allocOf p) :=
    fun p => State.allocOf_releaseAttempt _ p
  rw [s.midSlotRound_frame] at hround
  obtain ⟨alloc, hevent, hends⟩ := hs.event_released (after :=
    { s with
      alloc := s.midSlotRound.alloc
      queue := (s.roundMembers false).queue
      active := (s.roundMembers false).active
      roundRequest := false }) rfl
  refine ⟨alloc, ?_, fun p => (hround p).trans (hends p)⟩
  rw [← hevent, ← s.midSlotRound_frame]
  change execMidSlotRound s = _
  rw [execMidSlotRound, if_pos hrequest]

/-- Demand of a session by its terms and meter (R53, R54, R56). -/
theorem State.demandOf_of_matched {s : State} {p : Pad} {phase : Matched} {token tag : Nat} {terms : Terms} {m : Meter}
    (h : (s.session p).body = .matched phase token tag terms m) :
    s.demandOf p = (if (s.allocOf p).paused then 0 else min
      (if terms.target - m.delivered = 0 then 0 else if deadlineDistance terms.deadline s.timer.slot = 0 then
      s.capOf p else min ((terms.target - m.delivered + deadlineDistance terms.deadline s.timer.slot - 1) /
      deadlineDistance terms.deadline s.timer.slot) (s.capOf p))
      (min (s.capOf p) ((s.allocOf p).rampBase + s.feeder.ramp))) := by
  rw [State.demandOf, State.reachOf]
  split
  · rfl
  · simp only [State.needOf, Machine.needOf, State.remainingOf, State.distanceOf, h, PadBody.terms]

/-- Settles O43: the event by `State.Ready.midSlotRound`, each pass by its closed form. -/
theorem midSlotRoundTaken : Obligations.MidSlotRoundTaken := by
  unfold Obligations.MidSlotRoundTaken
  refine ⟨?round, fun s budget => ⟨rfl, s.map_fst_needPass classList budget⟩,
    fun p phase token tag terms m s hb => State.demandOf_of_matched hb,
    fun p budget s hp => s.grantOf_needPass_classList hp budget, ?surplus, ?minPower, ?none⟩
  case round =>
    intro a s hs hlaw hidle hrequest ha
    obtain rfl : a = s.roundMembers false := ha
    obtain ⟨alloc, hevent, hreleased⟩ := hs.midSlotRound hrequest
    have hadmits := State.admitsIdle_admission (b := { s with roundRequest := false }) hlaw.nodup hidle s.budget
    have hkept : ∀ p, (alloc.get p).target = ((s.roundTargets false).allocOf p).target := fun p => (hreleased p).kept.1
    refine ⟨_, hevent, rfl, hadmits.mem_iff, rfl, rfl, fun p hp => ?active, fun p hp => ?off, hadmits.records,
      fun p => ?cap, ?sum, rfl⟩
    case active =>
      have hrecord := s.allocOf_targets false p
      rw [if_pos hp] at hrecord
      have hself := hreleased p
      rw [hrecord] at hself
      exact hself
    case off =>
      have hrecord := s.allocOf_targets false p
      rw [if_neg hp] at hrecord
      have hself := hreleased p
      rw [hrecord] at hself
      exact hself.eq (Nat.zero_le _)
    case cap =>
      obtain ⟨htarget, -, haccept⟩ := (hreleased p).kept
      refine (htarget.trans_le (s.target_roundTargets_le_capOf false p)).trans_eq
        (State.capOf_congr ?_ ?_ ?_ haccept.symm)
      all_goals rw [s.roundTargets_frame]
    case sum =>
      exact (sumOver_congr fun p _ => hkept p).trans_le (s.sumOver_target_roundTargets_le false)
  case surplus =>
    rintro p budget amount gs s hp rfl
    exact s.grantOf_surplusPass hp amount (s.mem_map_fst_needPass hp budget)
  case minPower =>
    rintro pre post gs p g freed s rfl hpre rfl
    exact s.grantOf_minPowerPass hpre g post
  case none =>
    intro s hs hrequest
    change execMidSlotRound s = _
    rw [execMidSlotRound, if_neg (by rw [hrequest]; exact Bool.false_ne_true)]
    exact hs.event rfl rfl rfl

end Sys2Proof.Machine
end

section
/-! PROOFS. What a command does to the powers of the allocator and to what they are formed from, said once for every
relation between states that the operations on powers keep. -/

namespace Sys2Proof.Machine

/-! ### Changes that leave the powers -/

/-- A report in transit and what stood before it are in range (R135). -/
abbrev Handed.InRange (h : Handed) : Prop := h.report.measured ≤ padMax ∧ ∀ b ∈ h.before, b.exposure ≤ padMax

/-- Allocator records, active list, ratings, reports in transit and P_min are the same in two states, no cap is lower,
and the store's ratings stay in range. -/
structure State.SamePowers (s t : State) : Prop where
  alloc : t.alloc = s.alloc
  active : t.active = s.active
  handed : t.handed = s.handed
  rating : t.store.image.rating = s.store.image.rating
  stored : s.store.RatingsInRange → t.store.RatingsInRange
  caps : ∀ p, s.capOf p ≤ t.capOf p
  pmin : t.feeder.pmin = s.feeder.pmin

namespace State.SamePowers

theorem refl (s : State) : s.SamePowers s := ⟨rfl, rfl, rfl, rfl, id, fun _ => Nat.le_refl _, rfl⟩

theorem trans {s t u : State} (h : s.SamePowers t) (h' : t.SamePowers u) : s.SamePowers u :=
  ⟨h'.alloc.trans h.alloc, h'.active.trans h.active, h'.handed.trans h.handed, h'.rating.trans h.rating,
    fun hs => h'.stored (h.stored hs), fun p => (h.caps p).trans (h'.caps p), h'.pmin.trans h.pmin⟩

/-- A change of the fields that powers and caps are not formed from. -/
theorem of_fields {s t : State} (halloc : t.alloc = s.alloc) (hactive : t.active = s.active)
    (hhanded : t.handed = s.handed) (hstore : t.store = s.store) (hplan : t.plan.cells = s.plan.cells)
    (hslot : t.timer.slot = s.timer.slot) (hpmin : t.feeder.pmin = s.feeder.pmin) : s.SamePowers t :=
  ⟨halloc, hactive, hhanded, by rw [hstore], by rw [hstore]; exact id, fun p => Nat.le_of_eq (by
    simp only [State.capOf, State.rating, State.padCell, CapPlan.cell, State.allocOf, halloc, hstore, hplan, hslot]),
    hpmin⟩

/-- A change of the store that keeps the image's ratings, and keeps the stored ratings in range. -/
theorem of_store {s t : State} (h : t = { s with store := t.store })
    (hrating : t.store.image.rating = s.store.image.rating)
    (hstored : s.store.RatingsInRange → t.store.RatingsInRange) : s.SamePowers t := by
  refine ⟨?_, ?_, ?_, hrating, hstored, fun p => Nat.le_of_eq ?_, ?_⟩
  · rw [h]
  · rw [h]
  · rw [h]
  · simp only [State.capOf, State.rating, hrating]
    rw [h]
    rfl
  · rw [h]

theorem ite {s t u : State} (c : Prop) [Decidable c] (ht : s.SamePowers t) (hu : s.SamePowers u) :
    s.SamePowers (if c then t else u) := by
  split
  · exact ht
  · exact hu

theorem foldl {f : State → Pad → State} (h : ∀ (s : State) (p : Pad), s.SamePowers (f s p)) (l : List Pad) (s : State) :
    s.SamePowers (l.foldl f s) := by
  induction l generalizing s with
  | nil => exact .refl s
  | cons p rest ih => exact (h s p).trans (ih (f s p))

theorem setSessions (s : State) (new : Table 24 SessionRec) : s.SamePowers (s.setSessions new) :=
  of_fields rfl rfl rfl rfl rfl rfl rfl

theorem setSession (s : State) (p : Pad) (r : SessionRec) : s.SamePowers (s.setSession p r) :=
  of_fields rfl rfl rfl rfl rfl rfl rfl

theorem setBody (s : State) (p : Pad) (b : PadBody) : s.SamePowers (s.setBody p b) :=
  of_fields rfl rfl rfl rfl rfl rfl rfl

theorem enterPad (s : State) (p : Pad) : s.SamePowers (s.enterPad p) := of_fields rfl rfl rfl rfl rfl rfl rfl

theorem requestRound (s : State) : s.SamePowers s.requestRound := of_fields rfl rfl rfl rfl rfl rfl rfl

theorem offer (s : State) (p : Pad) : s.SamePowers (s.offer p) := of_fields rfl rfl rfl rfl rfl rfl rfl

theorem onPort (s : State) (port : Port) (f : PortRec → PortRec) : s.SamePowers (s.onPort port f) :=
  of_fields rfl rfl rfl rfl rfl rfl rfl

theorem takeLevel (s : State) (line : Line) : s.SamePowers (s.takeLevel line) := of_fields rfl rfl rfl rfl rfl rfl rfl

theorem answer (s : State) (port : Port) (status : Status) (body : List Byte) :
    s.SamePowers (s.answer port status body) := by
  rw [s.answer_frame]; exact of_fields rfl rfl rfl rfl rfl rfl rfl

theorem answerAfter (s : State) (port : Port) (waits : List StoreWait) (status : Status) (body : List Byte) :
    s.SamePowers (s.answerAfter port waits status body) := by
  rw [s.answerAfter_frame]; exact of_fields rfl rfl rfl rfl rfl rfl rfl

theorem setService (s : State) (v : ServiceState) : s.SamePowers (s.setService v) := by
  rw [s.setService_frame]; exact of_fields rfl rfl rfl rfl rfl rfl rfl

theorem setCeiling (s : State) (t : Term) : s.SamePowers (s.setCeiling t) := by
  rw [s.setCeiling_frame]; exact of_fields rfl rfl rfl rfl rfl rfl rfl

theorem releaseHeld (s : State) (id : RecordId) : s.SamePowers (s.releaseHeld id) := by
  rw [State.releaseHeld]
  split
  · exact .answerAfter s ..
  · exact .refl s

/-- A gated request leaves what its act leaves, or refuses (R154). -/
theorem gated {s : State} {k : RequestKind} {act : State → State} (h : s.SamePowers (act s)) :
    s.SamePowers (s.gated k act) := by
  obtain he | ⟨u, status, rfl | rfl, he⟩ := s.gated_cases k act
  · rw [he]; exact h
  · rw [he]; exact .answer u ..
  · rw [he]; exact (setService s _).trans (.answer _ ..)

theorem gatedOn {s : State} {port : Port} {k : RequestKind} {act : State → State} (h : s.SamePowers (act s)) :
    s.SamePowers (s.gatedOn port k act) := by
  cases port
  case s => exact h.gated
  all_goals exact h

end State.SamePowers

/-! ### The retained store's ratings (R162 to R165) -/

/-- What a write takes from an image with ratings in range is in range. -/
theorem StoreImage.content_inRange {img : StoreImage} (h : ∀ p, img.rating.get p ≤ padMax) (id : RecordId) :
    ∀ kw ∈ (img.content id).kw, kw ≤ padMax := by
  obtain ⟨kind, p⟩ := id
  cases kind with
  | rating => rintro kw ⟨⟩; exact h p
  | _ => exact nofun

/-- An image that takes a content in range stays in range. -/
theorem StoreImage.rating_put_inRange {img : StoreImage} (h : ∀ p, img.rating.get p ≤ padMax) (pad : Pad) {c : Content}
    (hc : ∀ kw ∈ c.kw, kw ≤ padMax) : ∀ p, (img.put pad c).rating.get p ≤ padMax := by
  cases c with
  | rating kw =>
    intro p
    by_cases hp : p = pad
    · subst hp
      rw [StoreImage.put, Table.get_set_self]
      exact hc kw rfl
    · rw [StoreImage.put, Table.get_set_ne _ _ hp]
      exact h p
  | _ => exact h

theorem Store.RatingsInRange.beginWrite {st : Store} (h : st.RatingsInRange) : st.beginWrite.RatingsInRange := by
  obtain ⟨himage, hcells, hwriting⟩ := h
  rw [Store.beginWrite]
  split
  · refine ⟨himage, hcells, ?_⟩
    rintro w ⟨⟩
    exact StoreImage.content_inRange himage _
  · exact ⟨himage, hcells, hwriting⟩

theorem Store.RatingsInRange.completeWrite {st : Store} (h : st.RatingsInRange) : st.completeWrite.RatingsInRange := by
  obtain ⟨himage, hcells, hwriting⟩ := h
  cases hw : st.writing with
  | none =>
    rw [Store.completeWrite, hw]
    exact ⟨himage, hcells, hwriting⟩
  | some w =>
    rw [Store.completeWrite_of_some hw]
    exact ⟨himage, StoreImage.rating_put_inRange hcells _ (hwriting w hw), nofun⟩

/-- Cells with a write cut off are in range, whichever content they hold (R165). -/
theorem Store.RatingsInRange.cellsAfterCut {st : Store} (h : st.RatingsInRange) (newContent : Bool) :
    ∀ p, (st.cellsAfterCut newContent).rating.get p ≤ padMax := by
  obtain ⟨-, hcells, hwriting⟩ := h
  obtain he | ⟨w, hw, he⟩ := st.cellsAfterCut_cases newContent
  · rw [he]; exact hcells
  · rw [he]; exact StoreImage.rating_put_inRange hcells _ (hwriting w hw)

/-- A change of a record in range. -/
theorem Store.RatingsInRange.change {st : Store} (h : st.RatingsInRange) (pad : Pad) {c : Content}
    (hc : ∀ kw ∈ c.kw, kw ≤ padMax) : (st.change pad c).RatingsInRange := by
  obtain ⟨himage, hcells, hwriting⟩ := h
  rw [Store.change_frame]
  exact ⟨StoreImage.rating_put_inRange himage pad hc, hcells, hwriting⟩

namespace State.SamePowers

/-- The change of a record that holds no rating. -/
theorem changeRecord (s : State) (pad : Pad) {c : Content} (hc : c.kw = none) :
    s.SamePowers (s.changeRecord pad c) := by
  refine of_store rfl ?_ fun h => h.change pad (by rw [hc]; exact nofun)
  change (s.store.change pad c).image.rating = _
  rw [Store.change_image]
  cases c with
  | rating kw => cases hc
  | _ => rfl

theorem beginWrite (s : State) : s.SamePowers s.beginWrite := by
  obtain ⟨himage, -, -⟩ := s.store.beginWrite_frame
  exact of_store rfl (congrArg _ himage) fun h => h.beginWrite

theorem completeWrite (s : State) : s.SamePowers { s with store := s.store.completeWrite } :=
  of_store rfl (congrArg _ s.store.completeWrite_image) fun h => h.completeWrite

end State.SamePowers

/-! ### Relations that the operations on powers keep -/

/-- A relation between states that what the session controller and the pad link do to powers keeps: changes that leave
the powers, an allocator record gone idle with its session (R33), a hold started or counted down (R73, R74), and reports
handed on (R141). -/
structure PowerBase (R : State → State → Prop) : Prop where
  trans : ∀ {s t u : State}, R s t → R t u → R s u
  same : ∀ {s t : State}, s.SamePowers t → R s t
  leaves : ∀ (s : State) (p : Pad), R s (s.leaveEligibility p)
  holds : ∀ {s u : State} (p : Pad) (value : Nat), R s u →
    (s.PowersInRange → u.PowersInRange → value ≤ padMax) → R s (u.startHold p value)
  counts : ∀ (s : State) (p : Pad) (link : LinkState), R s (s.setAlloc p ((s.allocOf p).countHold link))
  hands : ∀ {s u : State} (handed : List Handed), R s u → (s.PowersInRange → ∀ h ∈ handed, h.InRange) →
    R s { u with handed := handed }

/-- Every exposure is within the range of a power (R70). -/
theorem State.PowersInRange.exposure_le {s : State} (h : s.PowersInRange) (p : Pad) : s.exposure p ≤ padMax := by
  obtain ⟨hrecords, ⟨hratings, -, -⟩, -⟩ := h
  obtain ⟨hsetpoint, -, -, hmeasured, hmode, -, -⟩ := hrecords p
  have hrating : s.rating p ≤ padMax := hratings p
  rw [State.exposure, AllocRec.exposure]
  split
  · exact Nat.max_le.mpr ⟨hrating, hsetpoint⟩
  · exact Nat.max_le.mpr ⟨hsetpoint, hmeasured⟩
  · rename_i v k hm
    obtain ⟨hvalue, -⟩ := hmode (v, k) (by rw [hm]; rfl)
    exact Nat.max_le.mpr ⟨hvalue, Nat.max_le.mpr ⟨hsetpoint, hmeasured⟩⟩

/-- What stood before a report in transit is in range. -/
theorem State.PowersInRange.beforeOf_le {s : State} (hs : s.PowersInRange) {h : Handed} (hh : h ∈ s.handed) :
    (s.beforeOf h).exposure ≤ padMax := by
  obtain ⟨-, -, hhanded⟩ := id hs
  obtain ⟨-, hbefore⟩ := hhanded h hh
  rw [State.beforeOf]
  cases hb : h.before with
  | none => exact hs.exposure_le h.pad
  | some b => exact hbefore b hb

namespace PowerBase

variable {R : State → State → Prop} (hR : PowerBase R)
include hR

theorem refl (s : State) : R s s := hR.same (.refl s)

theorem then_same {s t u : State} (h : R s t) (hsame : t.SamePowers u) : R s u := hR.trans h (hR.same hsame)

omit hR in
theorem ite {s t u : State} (c : Prop) [Decidable c] (ht : R s t) (hu : R s u) : R s (if c then t else u) := by
  split
  · exact ht
  · exact hu

/-- Closing a pad makes the record of an ELIGIBLE one idle (R22, R33). -/
theorem closePad (s : State) (p : Pad) (ending : Ending) (body : PadBody) : R s (s.closePad p ending body) :=
  hR.then_same (ite _ (hR.leaves s p) (hR.refl s)) (.setSession ..)

theorem faultPad (s : State) (p : Pad) : R s (s.faultPad p) := by
  obtain h | ⟨h, -⟩ := s.faultPad_eq p
  · rw [h]; exact hR.closePad s p _ _
  · rw [h]; exact hR.refl s

theorem loseLink (s : State) (p : Pad) : R s (s.loseLink p) := by
  obtain h | ⟨h, -⟩ := s.loseLink_eq p
  · rw [h]; exact hR.closePad s p _ _
  · rw [h]; exact hR.refl s

/-- A latch with a hold value in range (R23, R73). -/
theorem latch {s u : State} (p : Pad) (cause : FaultCause) (code tag : Option Nat) (value : Nat) (h : R s u)
    (hvalue : s.PowersInRange → u.PowersInRange → value ≤ padMax) : R s (u.latch p cause code tag value) := by
  have hheld : R s ((u.startHold p value).faultPad p) := hR.trans (hR.holds p value h hvalue) (hR.faultPad _ p)
  unfold State.latch
  dsimp only
  exact ite _ hheld (hR.then_same hheld (.trans (.changeRecord _ p rfl) (.enterPad _ p)))

theorem latchNoncompliant {s u : State} {h : Handed} {before : Before} (hu : R s u)
    (hmeasured : s.PowersInRange → h.report.measured ≤ padMax) : R s (u.latchNoncompliant h before) := by
  refine hR.latch _ _ _ _ _ hu fun hs ht => Nat.max_le.mpr ⟨?_, hmeasured hs⟩
  obtain ⟨-, ⟨hratings, -, -⟩, -⟩ := id ht
  split
  · exact hratings h.pad
  · exact ht.exposure_le h.pad

/-- A report's transition closes a pad, makes a session leave eligibility, or leaves the powers (R10 to R20). -/
theorem reportTransition (s : State) (p : Pad) (r : Report) (lostSince : Bool) :
    R s (s.reportTransition p r lostSince) := by
  have hset : ∀ b, R s (s.setBody p b) := fun b => hR.same (.setBody s p b)
  have hclose : ∀ ending b, R s (s.closePad p ending b) := hR.closePad s p
  rw [State.reportTransition]
  split
  case h_1 => exact hset _
  case h_2 => exact ite _ (hR.refl s) (hset _)
  case h_3 =>
    split
    · exact hset _
    · exact ite _ (hset _) (hset _)
  case h_4 =>
    split
    · split
      · exact ite _ (hR.then_same (hset _) (.offer _ p)) (hclose _ _)
      · exact hR.refl s
    · exact hR.refl s
  case h_5 =>
    exact ite _ (hclose _ _) (ite _ (hR.then_same (hR.leaves s p) (.setBody ..)) (hR.refl s))
  case h_6 => exact ite _ (hclose _ _) (hR.refl s)
  case h_7 => exact ite _ (hclose _ _) (ite _ (hclose _ _) (hR.refl s))
  case h_8 =>
    split
    · exact hset _
    · exact ite _ (hset _) (hset _)
  case h_9 => exact hR.refl s
  case h_10 => exact hR.refl s

theorem takeAtSession {s : State} {h : Handed} (hh : h ∈ s.handed) :
    R s (s.takeAtSession h (s.beforeOf h)).state := by
  unfold State.takeAtSession
  extract_lets p r s1 body
  have haccount : R s s1 := hR.same (.setBody ..)
  have hvalue : s.PowersInRange → s1.PowersInRange → s1.latchHoldValue h (s.beforeOf h) ≤ padMax := fun hs hs1 => by
    obtain ⟨-, ⟨hratings, -, -⟩, hhanded⟩ := id hs1
    obtain ⟨hmeasured, -⟩ := hhanded h hh
    have hbefore := hs.beforeOf_le hh
    have hexposure := hs1.exposure_le h.pad
    have hrating : s1.rating h.pad ≤ padMax := hratings h.pad
    rw [State.latchHoldValue]
    split
    · exact Nat.max_le.mpr ⟨hrating, hmeasured⟩
    · refine Nat.max_le.mpr ⟨Nat.max_le.mpr ⟨hbefore, hexposure⟩, ?_⟩
      split
      · exact hmeasured
      · exact Nat.zero_le _
  split
  · exact haccount
  split
  · exact hR.latch _ _ _ _ _ haccount hvalue
  split
  · exact hR.latch _ _ _ _ _ haccount hvalue
  split
  · exact hR.latch _ _ _ _ _ haccount hvalue
  · exact hR.trans (hR.then_same haccount (.setBody ..)) (hR.reportTransition ..)

end PowerBase

/-- The first report that a block has not taken is in transit, with those before and after it. -/
theorem handed_of_firstUntaken {taken : Handed → Bool} {l pre post : List Handed} {h : Handed}
    (hl : firstUntaken taken l = some (pre, h, post)) : l = pre ++ h :: post := by
  induction l generalizing pre with
  | nil => cases hl
  | cons g rest ih =>
    rw [firstUntaken] at hl
    split at hl
    · split at hl
      · rename_i hrest
        cases hl
        rw [ih hrest]
        rfl
      · cases hl
    · cases hl
      rfl

/-- What a block makes of the reports in transit keeps their measured powers, and records what stood before one of them.
-/
theorem State.PowersInRange.handed_taken {s : State} (hs : s.PowersInRange) {pre pre' post : List Handed}
    {h h' : Handed} (hhanded : s.handed = pre ++ h :: post) (hreport : h'.report = h.report)
    (hbefore : h'.before = some (s.beforeOf h))
    (hpre : ∀ g ∈ pre', ∃ g' ∈ pre, g.report = g'.report ∧ g.before = g'.before) :
    ∀ g ∈ pre' ++ keepUntaken h' ++ post, g.InRange := by
  obtain ⟨-, -, hrange⟩ := id hs
  rw [State.HandedInRange, hhanded] at hrange
  have hmem : h ∈ s.handed := by rw [hhanded]; exact List.mem_append_right _ List.mem_cons_self
  intro g hg
  rw [List.mem_append, List.mem_append] at hg
  obtain (hg | hg) | hg := hg
  · obtain ⟨g', hg', hr, hb⟩ := hpre g hg
    rw [Handed.InRange, hr, hb]
    exact hrange g' (List.mem_append_left _ hg')
  · have heq : g = h' := by
      rw [keepUntaken] at hg
      split at hg
      · cases hg
      · exact List.mem_singleton.mp hg
    obtain ⟨hmeasured, -⟩ := hrange h (List.mem_append_right _ List.mem_cons_self)
    rw [heq, Handed.InRange, hreport, hbefore]
    refine ⟨hmeasured, ?_⟩
    rintro b ⟨⟩
    exact hs.beforeOf_le hmem
  · exact hrange g (List.mem_append_right _ (.tail _ hg))

theorem Handed.startHold_kept (p : Pad) (h : Handed) :
    (h.startHold p).report = h.report ∧ (h.startHold p).before = h.before := by
  rw [Handed.startHold]
  split <;> exact ⟨rfl, rfl⟩

theorem Handed.loseLink_before (p : Pad) (h : Handed) : (h.loseLink p).before = h.before := by
  rw [Handed.loseLink]
  split <;> rfl

/-- A reply carries a measured power of at most 400 kW (R135). -/
theorem measured_of_decodeReply {p : Pad} {reply : List Byte} {r : Report} (h : decodeReply p reply = some r) :
    r.measured ≤ padMax := by
  unfold decodeReply at h
  split at h
  · dsimp only at h
    split at h
    · cases h
      exact Nat.min_le_left ..
    · cases h
  · cases h

namespace PowerBase

variable {R : State → State → Prop} (hR : PowerBase R)
include hR

theorem sessionTakes (s : State) : R s s.sessionTakes := by
  rw [State.sessionTakes]
  split
  · exact hR.refl s
  · rename_i pre h post hfirst
    extract_lets before taken t
    have hhanded := handed_of_firstUntaken hfirst
    have hmem : h ∈ s.handed := by rw [hhanded]; exact List.mem_append_right _ List.mem_cons_self
    have htaken : R s taken.state := hR.takeAtSession hmem
    have hmeasured : s.PowersInRange → h.report.measured ≤ padMax := fun ⟨_, _, hreports⟩ => (hreports h hmem).1
    have ht : R s t := ite _ (hR.latchNoncompliant htaken hmeasured) htaken
    refine hR.hands _ ht fun hs => hs.handed_taken hhanded rfl rfl fun g hg => ?_
    split at hg
    · obtain ⟨g', hg', rfl⟩ := List.mem_map.mp hg
      exact ⟨g', hg', g'.startHold_kept h.pad⟩
    · exact ⟨g, hg, rfl, rfl⟩

/-- A poll's report is handed on (R141). -/
theorem pollReport (s : State) (p : Pad) {r : Report} (hr : r.measured ≤ padMax) : R s (s.pollReport p r) := by
  unfold State.pollReport
  extract_lets t u
  have hu : s.SamePowers u := by
    have ht : s.SamePowers t := .of_fields rfl rfl rfl rfl rfl rfl rfl
    exact .ite _ (ht.trans (.enterPad t p)) ht
  have hlink : s.SamePowers { u with link := u.link.endExchange } :=
    hu.trans (.of_fields rfl rfl rfl rfl rfl rfl rfl)
  refine hR.hands _ (hR.same hlink) fun ⟨_, _, hhanded⟩ h hh => ?_
  rw [hu.handed] at hh
  obtain hh | hh := List.mem_append.mp hh
  · exact hhanded h hh
  · rw [List.mem_singleton.mp hh]
    exact ⟨hr, nofun⟩

/-- A miss counts a hold down, or starts it from the exposure as it stands (R73, R74). -/
theorem pollMiss (s : State) (p : Pad) : R s (s.pollMiss p) := by
  unfold State.pollMiss
  extract_lets l t u misses
  have ht : s.SamePowers t := .of_fields rfl rfl rfl rfl rfl rfl rfl
  split
  · have hu : R s u := hR.hands _ (hR.same ht) fun ⟨_, _, hhanded⟩ h hh => by
      obtain ⟨g, hg, rfl⟩ := List.mem_map.mp hh
      rw [Handed.InRange, Handed.loseLink_report, Handed.loseLink_before]
      exact hhanded g hg
    have hlost : R s (u.setLink p { l with state := .lost, misses := 3 }) :=
      hR.then_same hu (.of_fields rfl rfl rfl rfl rfl rfl rfl)
    have hheld := hR.holds p (s.exposure p) hlost fun hs _ => hs.exposure_le p
    exact hR.then_same (hR.trans hheld (hR.loseLink _ p)) (.enterPad _ p)
  · have hlink : R s (t.setLink p { l with misses := misses }) :=
      hR.then_same (hR.same ht) (.of_fields rfl rfl rfl rfl rfl rfl rfl)
    exact hR.trans hlink (hR.counts _ p l.state)

end PowerBase

end Sys2Proof.Machine
end

section
/-! PROOFS. Every command changes the powers by the operations on powers only: one walk over the commands, for every
relation that those operations keep. -/

namespace Sys2Proof.Machine

/-- Forming the ceiling again inside a slot may curtail (R106, R112). -/
theorem PowerBase.reformInSlot {R : State → State → Prop} (hR : PowerBase R) (hcurtail : ∀ s : State, R s s.curtail)
    (s : State) : R s s.reformInSlot := by
  have hceiling : R s (s.setCeiling s.formCeiling) := hR.same (.setCeiling ..)
  rw [State.reformInSlot]
  split
  · exact hR.refl s
  · exact hR.then_same (PowerBase.ite _ (hR.trans hceiling (hcurtail _)) hceiling) (.requestRound _)

/-- A relation between states that every operation on powers keeps: those of the session controller and the pad link,
and the allocator's own (R75 to R80, R84, R86, R87, R91, R124). -/
structure PowerRel (R : State → State → Prop) : Prop extends PowerBase R where
  releases : ∀ s : State, R s s.releaseAttempt
  curtails : ∀ s : State, R s s.curtail
  handsOn : ∀ (s : State) (codes : List Word16), R s (State.handOnCells s { s with plan := s.plan.writeCodes codes })
  limits : ∀ (s : State) (ramp pmin fallback tie : Nat), R s (s.takeLimits ramp pmin fallback tie)
  takes : ∀ s : State, R s s.allocatorTakes
  rounds : ∀ s : State, R s s.midSlotRound
  boundaries : ∀ s : State, R s s.takeBoundary
  resets : ∀ {strap : Bool} {field : Byte} {s t : State}, execDeviceReset strap field s = .next t → R s t

/-- The relation holds of a rating change of a LOCKED pad from a state (R160). -/
abbrev RatingChange (R : State → State → Prop) (s : State) : Prop :=
  ∀ (p : Pad) (kw : Nat), s.padState p = .locked → kw ≤ padMax → R s (s.changeRecord p (.rating kw))

namespace PowerRel

variable {R : State → State → Prop} (hR : PowerRel R)
include hR

/-! ### Shared operations -/

theorem foldl {f : State → Pad → State} (h : ∀ (s : State) (p : Pad), R s (f s p)) (l : List Pad) (s : State) :
    R s (l.foldl f s) := by
  induction l generalizing s with
  | nil => exact hR.refl s
  | cons p rest ih => exact hR.trans (h s p) (ih (f s p))

/-- The end of an event may release raises (R80). -/
theorem event {s after t : State} (h : R s after) (he : s.event after = .next t) : R s t := by
  cases hp : s.powered with
  | false => rw [State.event_of_unpowered hp] at he; cases he; exact hR.refl s
  | true =>
    rw [State.event_of_powered hp] at he
    cases he
    exact hR.then_same (PowerBase.ite _ (hR.trans h (hR.releases after)) h) (.beginWrite _)

theorem event_same {s after t : State} (h : s.SamePowers after) (he : s.event after = .next t) : R s t :=
  hR.event (hR.same h) he

theorem gated {s : State} {k : RequestKind} {act : State → State} (h : R s (act s)) : R s (s.gated k act) := by
  obtain he | ⟨u, status, rfl | rfl, he⟩ := s.gated_cases k act
  · rw [he]; exact h
  · rw [he]; exact hR.same (.answer u ..)
  · rw [he]; exact hR.same ((State.SamePowers.setService s _).trans (.answer _ ..))

theorem reformInSlot (s : State) : R s s.reformInSlot := hR.toPowerBase.reformInSlot hR.curtails s

theorem ifBoundary {s : State} (c : Prop) [Decidable c] : R s (if c then s.takeBoundary else s) :=
  PowerBase.ite c (hR.boundaries s) (hR.refl s)

theorem supplyLineSettles (s : State) (line : Line) : R s (s.supplyLineSettles line) := by
  have htake : s.SamePowers (s.takeLevel line) := .takeLevel s line
  have hfield : s.SamePowers (s.takeLevel line).enterField := .of_fields rfl rfl rfl rfl rfl rfl rfl
  exact PowerBase.ite _ (hR.trans (hR.same hfield) (hR.reformInSlot _)) (hR.same htake)

/-! ### The requests -/

theorem bindPad (s : State) (p : Pad) (tag : Nat) (terms : Terms) : R s (s.bindPad p tag terms) := by
  refine hR.same ?_
  rw [State.bindPad]
  dsimp only
  split
  · exact .answer s ..
  split
  · exact (State.SamePowers.setSession s p _).trans (.answer _ ..)
  · split
    · exact ((State.SamePowers.setSession s p _).trans (.offer _ p)).trans (.answer _ ..)
    · exact .answer s ..
  · exact .answer s ..

theorem amendPad (s : State) (p : Pad) (terms : Terms) : R s (s.amendPad p terms) := by
  have hset : ∀ b, s.SamePowers (s.setBody p b) := .setBody s p
  rw [State.amendPad]
  split
  · refine hR.then_same (PowerBase.ite _ (hR.then_same (hR.leaves s p) (.setBody ..)) (hR.same ?_)) (.answer _ ..)
    refine (hset _).trans (.ite _ (.trans ?_ (.offer _ p)) (.refl _))
    exact .of_fields rfl rfl rfl rfl rfl rfl rfl
  · exact hR.same ((State.SamePowers.ite _ (hset _) ((hset _).trans (.offer _ p))).trans (.answer _ ..))
  · exact hR.same (.answer s ..)

theorem releasePad (s : State) (p : Pad) : R s (s.releasePad p) := by
  rw [State.releasePad]
  split
  · exact hR.then_same (hR.then_same (hR.leaves s p) (.setBody ..)) (.answer _ ..)
  · exact hR.same ((State.SamePowers.setBody s p _).trans (.answer _ ..))
  · exact hR.then_same (hR.closePad s p _ _) (.answer _ ..)
  all_goals exact hR.same (.answer s ..)

theorem lockPads (s : State) (base mask : Byte) : R s (s.lockPads base mask) := by
  have hlock : ∀ (u : State) (p : Pad), R u (u.lockPad p) := fun u p =>
    hR.then_same (hR.closePad u p _ _) ((State.SamePowers.changeRecord _ p rfl).trans (.enterPad _ p))
  exact PowerBase.ite _ (hR.then_same (hR.foldl hlock _ s) (.answerAfter _ ..)) (hR.same (.answer s ..))

theorem unlockPads (s : State) (base mask : Byte) : R s (s.unlockPads base mask) := by
  have hunlock : ∀ (u : State) (p : Pad), u.SamePowers (u.unlockPad p) := fun u p => by
    have hflag : u.SamePowers (u.changeRecord p (.lockout false)) := .changeRecord u p rfl
    have hcleared := State.SamePowers.ite ((u.faultOf p).isSome = true)
      (hflag.trans (.changeRecord _ p (c := .fault none) rfl)) hflag
    exact (hcleared.trans (.setBody ..)).trans (.enterPad _ p)
  exact PowerBase.ite _ (hR.same ((State.SamePowers.foldl hunlock _ s).trans (.answerAfter _ ..)))
    (hR.same (.answer s ..))

theorem clearFault (s : State) (pad : Byte) : R s (s.clearFault pad) := by
  refine hR.same ?_
  rw [State.clearFault]
  split
  · exact .answer s ..
  · rename_i p _
    have hclear : s.SamePowers (s.clearFaultOf p) :=
      ((State.SamePowers.changeRecord s p rfl).trans (.setBody ..)).trans (.enterPad _ p)
    exact .ite _ (hclear.trans (.answerAfter _ ..)) (.answer s ..)

theorem setRating {s : State} (hrate : RatingChange R s) (pad : Byte) (rating : Word16) :
    R s (s.setRating pad rating) := by
  rw [State.setRating]
  split
  · exact hR.same (.answer s ..)
  · rename_i p _
    dsimp only
    split
    · rename_i hlocked
      exact PowerBase.ite _ (hR.same (.answer s ..))
        (hR.then_same (hrate p _ hlocked (Nat.min_le_right ..)) (.answerAfter _ ..))
    · exact hR.same (.answer s ..)

theorem openService (s : State) (field : Byte) : R s (s.openService field) :=
  hR.same (.ite _ (.answer s ..) (.ite _ (.answer s ..) ((State.SamePowers.setService s _).trans (.answer _ ..))))

theorem confirmService (s : State) (field : Byte) : R s (s.confirmService field) :=
  hR.same (.ite _ ((State.SamePowers.setService s _).trans (.answer _ ..))
    ((State.SamePowers.setService s _).trans (.answer _ ..)))

/-- SET SLOT clears the plan, and no cap falls with its cells (R128). -/
theorem takeSlot (s : State) (n : Word16) : R s (s.takeSlot n) := by
  refine hR.then_same (hR.trans (hR.same ?_) (hR.reformInSlot _)) (.requestRound _)
  refine ⟨rfl, rfl, rfl, rfl, id, fun p => ?_, rfl⟩
  have hunset : ({ s with timer := { s.timer with slot := n, phase := 0 }, plan := s.plan.clear } : State).padCell p =
      none := by
    simp [State.padCell, CapPlan.cell, CapPlan.clear]
  rw [State.capOf, State.capOf, hunset]
  cases s.padCell p with
  | none => exact Nat.le_refl _
  | some v => exact Nat.min_le_left ..

theorem endShed (s : State) : R s s.endShed := by
  rw [State.endShed]
  split
  · refine hR.trans (hR.same ?_) (hR.reformInSlot _)
    exact .of_fields rfl rfl rfl rfl rfl rfl rfl
  · exact hR.refl s

theorem align (s : State) : R s s.align :=
  hR.then_same (hR.ifBoundary (s.timer.mode = .running ∧ 1800 ≤ s.timer.phase))
    (.of_fields rfl rfl rfl rfl rfl rfl rfl)

/-! ### The commands -/

theorem execAtPort {s t : State} {port : Port} {f : PortRec → PortRec} (h : s.event (s.onPort port f) = .next t) :
    R s t :=
  hR.event_same (.onPort ..) h

theorem execPing {port : Port} {s t : State} (h : execPing port s = .next t) : R s t := by
  refine hR.event_same ?_ h
  split
  · exact .gatedOn (.answer s ..)
  · exact .refl s

theorem execReadChanges {port : Port} {s t : State} (h : execReadChanges port s = .next t) : R s t := by
  refine hR.event_same ?_ h
  split
  · refine .gatedOn ((State.SamePowers.answer s port .ok (s.port port).changes.body).trans ?_)
    exact .of_fields rfl rfl rfl rfl rfl rfl rfl
  · exact .refl s

theorem execQueryPad {port : Port} {s t : State} (h : execQueryPad port s = .next t) : R s t := by
  refine hR.event_same ?_ h
  split
  · refine .gatedOn ?_
    split <;> exact .answer s ..
  · exact .refl s

theorem execQueryField {port : Port} {s t : State} (h : execQueryField port s = .next t) : R s t := by
  refine hR.event_same ?_ h
  split
  · exact .gatedOn (.answer s ..)
  · exact .refl s

theorem execBind {s t : State} (h : execBind s = .next t) : R s t := by
  refine hR.event ?_ h
  split
  · split
    · exact PowerBase.ite _ (hR.same (.answer s ..)) (hR.bindPad s ..)
    · exact hR.same (.answer s ..)
  · exact hR.refl s

theorem execAmend {s t : State} (h : execAmend s = .next t) : R s t := by
  refine hR.event ?_ h
  split
  · split
    · exact hR.amendPad s ..
    · exact hR.same (.answer s ..)
  · exact hR.refl s

theorem execRelease {s t : State} (h : execRelease s = .next t) : R s t := by
  refine hR.event ?_ h
  split
  · split
    · exact hR.releasePad s _
    · exact hR.same (.answer s ..)
  · exact hR.refl s

theorem execSetWindow {s t : State} (h : execSetWindow s = .next t) : R s t := by
  refine hR.event_same ?_ h
  split
  · split
    · refine State.SamePowers.trans ?_ (.answer _ ..)
      exact .of_fields rfl rfl rfl rfl rfl rfl rfl
    · exact .answer s ..
  · exact .refl s

theorem execWriteCells {s t : State} (h : execWriteCells s = .next t) : R s t := by
  refine hR.event ?_ h
  split
  · rename_i codes _
    exact hR.then_same (hR.handsOn s codes) (.answer _ ..)
  · exact hR.refl s

theorem execReadCells {s t : State} (h : execReadCells s = .next t) : R s t := by
  refine hR.event_same ?_ h
  split
  · refine .ite _ (.trans ?_ (.answer _ ..)) (.answer s ..)
    exact .of_fields rfl rfl rfl rfl rfl rfl rfl
  · exact .refl s

theorem execSetLimits {s t : State} (h : execSetLimits s = .next t) : R s t := by
  refine hR.event ?_ h
  split
  · exact hR.then_same (hR.limits s ..) (.answer _ ..)
  · exact hR.refl s

theorem execShed {s t : State} (h : execShed s = .next t) : R s t := by
  refine hR.event ?_ h
  split
  · refine hR.then_same (hR.trans (hR.same ?_) (hR.reformInSlot _)) (.answer _ ..)
    exact .of_fields rfl rfl rfl rfl rfl rfl rfl
  · exact hR.refl s

theorem execEndShed {s t : State} (h : execEndShed s = .next t) : R s t := by
  refine hR.event ?_ h
  split
  · exact hR.then_same (hR.endShed s) (.answer _ ..)
  · exact hR.refl s

theorem execSetSlot {s t : State} (h : execSetSlot s = .next t) : R s t := by
  refine hR.event ?_ h
  split
  · exact hR.then_same (hR.takeSlot s _) (.answer _ ..)
  · exact hR.refl s

theorem execLockPads {s t : State} (h : execLockPads s = .next t) : R s t := by
  refine hR.event ?_ h
  split
  · exact hR.gated (hR.lockPads s ..)
  · exact hR.refl s

theorem execOpenService {s t : State} (h : execOpenService s = .next t) : R s t := by
  refine hR.event ?_ h
  split
  · exact hR.gated (hR.openService s _)
  · exact hR.refl s

theorem execConfirmService {s t : State} (h : execConfirmService s = .next t) : R s t := by
  refine hR.event ?_ h
  split
  · exact hR.gated (hR.confirmService s _)
  · exact hR.refl s

theorem execCloseService {s t : State} (h : execCloseService s = .next t) : R s t := by
  refine hR.event_same ?_ h
  split
  · exact .gated ((State.SamePowers.setService s _).trans (.answer _ ..))
  · exact .refl s

theorem execUnlockPads {s t : State} (h : execUnlockPads s = .next t) : R s t := by
  refine hR.event ?_ h
  split
  · exact hR.gated (hR.unlockPads s ..)
  · exact hR.refl s

theorem execClearFault {s t : State} (h : execClearFault s = .next t) : R s t := by
  refine hR.event ?_ h
  split
  · exact hR.gated (hR.clearFault s _)
  · exact hR.refl s

theorem execSetRating {s t : State} (hrate : RatingChange R s) (h : execSetRating s = .next t) : R s t := by
  refine hR.event ?_ h
  split
  · exact hR.gated (hR.setRating hrate ..)
  · exact hR.refl s

theorem execReadFault {s t : State} (h : execReadFault s = .next t) : R s t := by
  refine hR.event_same ?_ h
  split
  · refine .gated ?_
    split <;> exact .answer s ..
  · exact .refl s

theorem execStoreWriteComplete {s t : State} (h : execStoreWriteComplete s = .next t) : R s t := by
  refine hR.event_same ?_ h
  split
  · exact (State.SamePowers.completeWrite s).trans (.releaseHeld ..)
  · exact .refl s

theorem execPollSlotStart {s t : State} (h : execPollSlotStart s = .next t) : R s t := by
  refine hR.event_same ?_ h
  split
  · exact .refl s
  · exact .of_fields rfl rfl rfl rfl rfl rfl rfl

theorem execBroadcastStop {s t : State} (h : execBroadcastStop s = .next t) : R s t := by
  refine hR.event_same ?_ h
  split
  · exact .of_fields rfl rfl rfl rfl rfl rfl rfl
  · exact .refl s

theorem execPollReport {reply : List Byte} {s t : State} (h : execPollReport reply s = .next t) : R s t := by
  refine hR.event ?_ h
  split
  · exact hR.refl s
  · dsimp only
    split
    · rename_i r hr
      exact hR.pollReport s _ (measured_of_decodeReply hr)
    · exact hR.same (.of_fields rfl rfl rfl rfl rfl rfl rfl)

theorem execPollMiss {s t : State} (h : execPollMiss s = .next t) : R s t := by
  refine hR.event ?_ h
  split
  · exact hR.pollMiss s _
  · exact hR.refl s

theorem execLinkLoss {s t : State} (h : execLinkLoss s = .next t) : R s t := by
  refine hR.event ?_ h
  split
  · exact PowerBase.ite _ (hR.pollMiss s _) (hR.refl s)
  · exact hR.refl s

theorem execSoftPersistLatch {s t : State} (h : execSoftPersistLatch s = .next t) : R s t := by
  refine hR.event ?_ h
  split
  · exact PowerBase.ite _ (hR.sessionTakes s) (hR.refl s)
  · exact hR.refl s

theorem execNoncompliantLatch {s t : State} (h : execNoncompliantLatch s = .next t) : R s t :=
  hR.event (PowerBase.ite _ (hR.takes s) (PowerBase.ite _ (hR.sessionTakes s) (hR.refl s))) h

theorem execDistrustHoldExpiry {s t : State} (h : execDistrustHoldExpiry s = .next t) : R s t := by
  refine hR.event (PowerBase.ite _ (hR.takes s) (PowerBase.ite _ ?_ (hR.refl s))) h
  split
  · exact hR.pollMiss s _
  · exact hR.refl s

theorem execSlotPhaseRise {s t : State} (h : execSlotPhaseRise s = .next t) : R s t := by
  refine hR.event (PowerBase.ite _ (PowerBase.ite _ (hR.boundaries s) (hR.same ?_)) (hR.refl s)) h
  exact .of_fields rfl rfl rfl rfl rfl rfl rfl

theorem execShedExpiry {s t : State} (h : execShedExpiry s = .next t) : R s t := by
  refine hR.event ?_ h
  split
  · exact hR.ifBoundary _
  · exact hR.refl s

theorem execSlotAlignActive {s t : State} (h : execSlotAlignActive s = .next t) : R s t :=
  hR.event (PowerBase.ite _ (hR.trans (hR.same (.takeLevel ..)) (hR.align _)) (hR.refl s)) h

theorem execSlotAlignRelease {s t : State} (h : execSlotAlignRelease s = .next t) : R s t := by
  refine hR.event_same (.ite _ (.refl s) (.ite _ ?_ (.takeLevel ..))) h
  exact .of_fields rfl rfl rfl rfl rfl rfl rfl

theorem execHeadroomGivenChange {s t : State} (h : execHeadroomGivenChange s = .next t) : R s t := by
  have htake : R s (s.takeLevel .headroomGiven) := hR.same (.takeLevel ..)
  exact hR.event (PowerBase.ite _ (hR.trans htake (hR.releases _)) htake) h

theorem execSvcKeyChange {s t : State} (h : execSvcKeyChange s = .next t) : R s t := by
  have htake : s.SamePowers (s.takeLevel .svcKey) := .takeLevel ..
  exact hR.event_same (.ite _ (htake.trans (.setService ..)) htake) h

theorem execOpenExpiry {s t : State} (h : execOpenExpiry s = .next t) : R s t :=
  hR.event_same (.ite _ (.setService ..) (.refl s)) h

theorem execPortBreak {port : Port} {s t : State} (h : execPortBreak port s = .next t) : R s t := by
  have hport : s.SamePowers (s.onPort port PortRec.broken) := .onPort ..
  exact hR.event_same (.ite _ (.refl s) (.ite _ (hport.trans (.setService ..)) hport)) h

/-- A loss of power cuts the write in progress (R165). -/
theorem execPowerLoss {s t : State} (h : execPowerLoss s = .next t) : R s t := by
  cases h
  refine hR.same (.ite _ ⟨rfl, rfl, rfl, rfl, fun hstore => ?_, fun p => Nat.le_refl _, rfl⟩ (.refl s))
  obtain ⟨himage, -, -⟩ := id hstore
  exact ⟨himage, hstore.cellsAfterCut _, nofun⟩

/-- What a command does to the powers, it does by the operations on powers. -/
theorem exec {c : Instr} {s t : State} (hrate : RatingChange R s) (h : exec c s = .next t) : R s t := by
  cases c
  case deviceReset => exact hR.resets h
  case frameReceived => exact hR.execAtPort h
  case frameSilenceDrop => exact hR.execAtPort h
  case frameOverrunDrop => exact hR.execAtPort h
  case answerSent => exact hR.execAtPort h
  case portBreak => exact hR.execPortBreak h
  case ping => exact hR.execPing h
  case readChanges => exact hR.execReadChanges h
  case queryPad => exact hR.execQueryPad h
  case queryField => exact hR.execQueryField h
  case bind => exact hR.execBind h
  case amend => exact hR.execAmend h
  case release => exact hR.execRelease h
  case setWindow => exact hR.execSetWindow h
  case writeCells => exact hR.execWriteCells h
  case readCells => exact hR.execReadCells h
  case setLimits => exact hR.execSetLimits h
  case shed => exact hR.execShed h
  case endShed => exact hR.execEndShed h
  case setSlot => exact hR.execSetSlot h
  case lockPads => exact hR.execLockPads h
  case openService => exact hR.execOpenService h
  case confirmService => exact hR.execConfirmService h
  case closeService => exact hR.execCloseService h
  case unlockPads => exact hR.execUnlockPads h
  case clearFault => exact hR.execClearFault h
  case setRating => exact hR.execSetRating hrate h
  case readFault => exact hR.execReadFault h
  case storeWriteComplete => exact hR.execStoreWriteComplete h
  case pollSlotStart => exact hR.execPollSlotStart h
  case pollReport => exact hR.execPollReport h
  case pollMiss => exact hR.execPollMiss h
  case linkLoss => exact hR.execLinkLoss h
  case sessionReport => exact hR.event (hR.sessionTakes s) h
  case softPersistLatch => exact hR.execSoftPersistLatch h
  case allocatorReport => exact hR.event (hR.takes s) h
  case noncompliantLatch => exact hR.execNoncompliantLatch h
  case distrustHoldExpiry => exact hR.execDistrustHoldExpiry h
  case broadcastStop => exact hR.execBroadcastStop h
  case midSlotRound => exact hR.event (PowerBase.ite _ (hR.rounds s) (hR.refl s)) h
  case slotBoundary => exact hR.event (hR.ifBoundary _) h
  case shedExpiry => exact hR.execShedExpiry h
  case bindExpiry => exact hR.event (hR.ifBoundary _) h
  case starvationReturn => exact hR.event (hR.ifBoundary _) h
  case slotAlignActive => exact hR.execSlotAlignActive h
  case slotAlignRelease => exact hR.execSlotAlignRelease h
  case fldEnableChange => exact hR.event (hR.supplyLineSettles s _) h
  case sourceLineChange => exact hR.event (hR.supplyLineSettles s _) h
  case headroomGivenChange => exact hR.execHeadroomGivenChange h
  case svcKeyChange => exact hR.execSvcKeyChange h
  case openExpiry => exact hR.execOpenExpiry h
  case slotPhaseRise => exact hR.execSlotPhaseRise h
  case rawLevelChange => cases h; exact hR.same (.of_fields rfl rfl rfl rfl rfl rfl rfl)
  case openingMarkerReceived => exact hR.execAtPort h
  case breakLineReturnsHigh => exact hR.execAtPort h
  case busyAnswerSent => exact hR.execAtPort h
  case powerLoss => exact hR.execPowerLoss h

/-- What a step does to the powers, it does by the operations on powers. -/
theorem step {s t : State} (hrate : ∀ rest, RatingChange R { s with pending := rest })
    (hstep : step s = .next t) : R s t := by
  unfold Sys2Proof.Machine.step at hstep
  split at hstep
  · cases hstep; exact hR.refl s
  · rename_i c rest _
    have hrest : s.SamePowers { s with pending := rest } := .of_fields rfl rfl rfl rfl rfl rfl rfl
    exact hR.trans (hR.same hrest) (hR.exec (hrate rest) hstep)

end PowerRel

end Sys2Proof.Machine
end

section
/-! PROOFS. The ranges of the allocator's powers and counts (R55, R66, R70, R71, R73, R76, R160) are kept by every step.
-/

namespace Sys2Proof.Machine

/-! ### One record -/

namespace AllocRec.InRange

variable {a : AllocRec}

theorem idle (h : a.InRange) : a.idle.InRange := by
  obtain ⟨-, -, -, hmeasured, hmode, hcompliance, -⟩ := h
  exact ⟨Nat.zero_le _, Nat.zero_le _, Nat.zero_le _, hmeasured, hmode, hcompliance, Nat.zero_le _⟩

/-- A change of the powers within the range, and of what has no range. -/
theorem powers {b : AllocRec} (h : a.InRange) (hsetpoint : b.setpoint ≤ padMax) (htarget : b.target ≤ padMax)
    (hkept : b.rampBase = a.rampBase ∧ b.measured = a.measured ∧ b.mode = a.mode ∧ b.compliance = a.compliance ∧
      b.starvation = a.starvation) : b.InRange := by
  obtain ⟨-, -, hramp, hmeasured, hmode, hcompliance, hstarvation⟩ := h
  obtain ⟨h1, h2, h3, h4, h5⟩ := hkept
  rw [AllocRec.InRange, h1, h2, h3, h4, h5]
  exact ⟨hsetpoint, htarget, hramp, hmeasured, hmode, hcompliance, hstarvation⟩

/-- Setpoint and target that did not rise. -/
theorem lowered {b : AllocRec} (h : a.InRange) (hsetpoint : b.setpoint ≤ a.setpoint) (htarget : b.target ≤ a.target)
    (hkept : b.rampBase = a.rampBase ∧ b.measured = a.measured ∧ b.mode = a.mode ∧ b.compliance = a.compliance ∧
      b.starvation = a.starvation) : b.InRange := by
  obtain ⟨hs, ht, -⟩ := id h
  exact h.powers (hsetpoint.trans hs) (htarget.trans ht) hkept

theorem released {b : AllocRec} (h : a.InRange) (hb : a.Released b) : b.InRange := by
  obtain rfl | ⟨-, rfl⟩ := hb
  · exact h
  · obtain ⟨-, ht, -⟩ := id h
    exact h.powers ht ht ⟨rfl, rfl, rfl, rfl, rfl⟩

theorem startHold (h : a.InRange) {value : Nat} (hvalue : value ≤ padMax) :
    { a with mode := .hold value 8 }.InRange := by
  obtain ⟨hsetpoint, htarget, hramp, hmeasured, -, hcompliance, hstarvation⟩ := h
  refine ⟨hsetpoint, htarget, hramp, hmeasured, ?_, hcompliance, hstarvation⟩
  rintro f ⟨⟩
  exact ⟨hvalue, Nat.succ_le_succ (Nat.zero_le 7), Nat.le_refl 8⟩

theorem endHold (h : a.InRange) (link : LinkState) : (a.endHold link).InRange := by
  obtain ⟨hsetpoint, htarget, hramp, hmeasured, -, hcompliance, hstarvation⟩ := h
  refine ⟨hsetpoint, htarget, hramp, ?_, nofun, hcompliance, hstarvation⟩
  rw [AllocRec.endHold]
  dsimp only
  split
  · exact Nat.zero_le _
  · exact hmeasured

theorem countHold (h : a.InRange) (link : LinkState) : (a.countHold link).InRange := by
  rw [AllocRec.countHold]
  split
  · rename_i value remaining hm
    split
    · exact h.endHold link
    · rename_i hrun
      obtain ⟨hsetpoint, htarget, hramp, hmeasured, hmode, hcompliance, hstarvation⟩ := h
      obtain ⟨hvalue, -, hpolls⟩ := hmode (value, remaining) (by rw [hm]; rfl)
      refine ⟨hsetpoint, htarget, hramp, hmeasured, ?_, hcompliance, hstarvation⟩
      rintro f ⟨⟩
      dsimp only at hpolls ⊢
      exact ⟨hvalue, by omega, by omega⟩
  · exact h

theorem takeMode (h : a.InRange) (r : Report) (ends counts : Bool) : (a.takeMode r ends counts).InRange := by
  rw [AllocRec.takeMode]
  split
  · obtain ⟨hsetpoint, htarget, hramp, hmeasured, -, hcompliance, hstarvation⟩ := h
    exact ⟨hsetpoint, htarget, hramp, hmeasured, nofun, hcompliance, hstarvation⟩
  · exact h
  · split
    · exact h.endHold .up
    split
    · exact h.countHold .up
    · exact h

/-- Steps 1 to 4 of R75: the compliance count restarts at its limit (R76). -/
theorem take (h : a.InRange) {r : Report} (hr : r.measured ≤ padMax) (current overdraw ends counts : Bool) :
    (a.take r current overdraw ends counts).InRange := by
  obtain ⟨hsetpoint, htarget, hramp, -, hmode, hcompliance, hstarvation⟩ := h
  rw [AllocRec.take]
  refine takeMode ?_ r ends counts
  refine ⟨hsetpoint, htarget, hramp, hr, hmode, ?_, hstarvation⟩
  cases overdraw with
  | false => exact Nat.zero_le _
  | true =>
    simp only [AllocRec.atLimit, Bool.true_and, decide_eq_true_eq, if_true]
    split
    · exact Nat.zero_le _
    · omega

/-- A grant becomes the target, and the setpoint falls to it (R63). -/
theorem target (h : a.InRange) {grant : Nat} (hgrant : grant ≤ padMax) :
    { a with target := grant, setpoint := min a.setpoint grant }.InRange := by
  obtain ⟨hs, -⟩ := id h
  exact h.powers ((Nat.min_le_left ..).trans hs) hgrant ⟨rfl, rfl, rfl, rfl, rfl⟩

theorem target_zero (h : a.InRange) : { a with target := 0 }.InRange :=
  h.lowered (Nat.le_refl _) (Nat.zero_le _) ⟨rfl, rfl, rfl, rfl, rfl⟩

/-- A count below its limit stays in range (R66). -/
theorem granted (h : a.InRange) {grant : Nat} (hgrant : grant ≤ padMax)
    (hcount : ¬ (a.paused = false ∧ 3 ≤ a.countAfter grant)) : (a.granted grant).InRange := by
  obtain ⟨hsetpoint, -, hramp, hmeasured, hmode, hcompliance, hstarvation⟩ := h
  refine ⟨(Nat.min_le_left ..).trans hsetpoint, hgrant, hramp, hmeasured, hmode, hcompliance, ?_⟩
  change a.countAfter grant ≤ 2
  cases hp : a.paused with
  | true => rw [AllocRec.countAfter, if_pos hp]; exact hstarvation
  | false => exact Nat.le_of_lt_succ (Nat.not_le.mp fun hle => hcount ⟨hp, hle⟩)

/-- What admission makes of a record in range. -/
theorem considered {b : AllocRec} (h : a.InRange) (hb : a.Considered b) : b.InRange := by
  obtain ⟨hsetpoint, htarget, hramp, hmeasured, hmode, hcompliance, hstarvation⟩ := h
  obtain ⟨-, hm, hp, hc, hsetpoint', htarget', hramp', hstarvation'⟩ := hb.kept
  have hlow : ∀ {x y bound : Nat}, x ≤ bound → y = x ∨ y = 0 → y ≤ bound := fun hx hy => by
    obtain rfl | rfl := hy
    · exact hx
    · exact Nat.zero_le _
  rw [AllocRec.InRange, hm, hp, hc]
  exact ⟨hlow hsetpoint hsetpoint', hlow htarget htarget', hlow hramp hramp', hmeasured, hmode, hcompliance,
    hlow hstarvation hstarvation'⟩

end AllocRec.InRange

theorem AllocRec.idle_granted (a : AllocRec) (grant : Nat) : (a.granted grant).idle = a.idle := rfl

/-- A cap in force is at most the pad's rating (R52). -/
theorem State.capOf_le_rating (s : State) (p : Pad) : s.capOf p ≤ s.rating p := by
  have hlimit : ∀ (a : Nat) (b : Option Nat), limitBy a b ≤ a := fun a b => by
    cases b with
    | none => exact Nat.le_refl a
    | some b => exact Nat.min_le_left a b
  exact (hlimit _ _).trans (hlimit _ _)

/-! ### Many records -/

/-- The law reads records, store and reports in transit. -/
theorem State.PowersInRange.of_records {s t : State} (h : s.PowersInRange) (hstore : t.store = s.store)
    (hhanded : t.handed = s.handed) (hrecords : ∀ p, (s.allocOf p).InRange → (t.allocOf p).InRange) :
    t.PowersInRange := by
  obtain ⟨hs, hratings, hreports⟩ := h
  rw [State.PowersInRange, State.HandedInRange, hstore, hhanded]
  exact ⟨fun p => hrecords p (hs p), hratings, hreports⟩

/-- One record changes. -/
theorem State.PowersInRange.setAlloc {s : State} (h : s.PowersInRange) {p : Pad} {a : AllocRec}
    (ha : (s.allocOf p).InRange → a.InRange) : (s.setAlloc p a).PowersInRange := by
  refine h.of_records rfl rfl fun q hq => ?_
  by_cases hqp : q = p
  · subst hqp
    rw [State.allocOf_setAlloc_self]
    exact ha hq
  · rw [State.allocOf_setAlloc_ne _ _ _ hqp]
    exact hq

theorem State.PowersInRange.of_same {s t : State} (h : s.PowersInRange) (hsame : s.SamePowers t) : t.PowersInRange := by
  obtain ⟨hrecords, hratings, hhanded⟩ := h
  refine ⟨fun p => ?_, hsame.stored hratings, ?_⟩
  · rw [State.allocOf, hsame.alloc]; exact hrecords p
  · rw [State.HandedInRange, hsame.handed]; exact hhanded

namespace State.PowersInRange

variable {s : State}

theorem releaseAttempt (h : s.PowersInRange) : s.releaseAttempt.PowersInRange :=
  h.of_records (by rw [s.releaseAttempt_frame]) (by rw [s.releaseAttempt_frame]) fun p hp =>
    hp.released (s.allocOf_releaseAttempt p)

theorem clampPad (h : s.PowersInRange) (p : Pad) : (s.clampPad p).PowersInRange := by
  refine h.of_records (by rw [s.clampPad_frame]) (by rw [s.clampPad_frame]) fun q hq => ?_
  by_cases hqp : q = p
  · subst hqp
    rw [s.allocOf_clampPad_self]
    exact hq.lowered (Nat.min_le_left ..) (Nat.min_le_left ..) ⟨rfl, rfl, rfl, rfl, rfl⟩
  · rw [s.allocOf_clampPad_ne p hqp]
    exact hq

theorem minPowerClamp (h : s.PowersInRange) : s.minPowerClamp.PowersInRange :=
  h.of_records rfl rfl fun p hp => by
    rw [State.minPowerClamp, State.allocOf_setAllocs]
    exact hp.lowered (dropSmall_le ..) (dropSmall_le ..) ⟨rfl, rfl, rfl, rfl, rfl⟩

end State.PowersInRange

/-! ### Curtailment (R84) -/

/-- Curtailment leaves a record, or brings setpoint and target of an active pad to one value, which is at most the
setpoint that stood, and 0 or at least P_min. -/
theorem State.allocOf_curtail (s : State) (p : Pad) :
    s.curtail.allocOf p = s.allocOf p ∨
      p ∈ s.active ∧ ∃ x, x ≤ (s.allocOf p).setpoint ∧ AtLeastPmin s.feeder.pmin x ∧
        s.curtail.allocOf p = { s.allocOf p with setpoint := x, target := x } := by
  rw [State.curtail]
  split
  · rename_i hlt
    by_cases hp : p ∈ s.active
    · exact .inr ⟨hp, _, curtailed_le hlt.le, curtailed_eq_zero_or .., by rw [State.allocOf_setAllocs, if_pos hp]⟩
    · exact .inl (by rw [State.allocOf_setAllocs, if_neg hp])
  · exact .inl rfl

theorem State.PowersInRange.curtail {s : State} (h : s.PowersInRange) : s.curtail.PowersInRange := by
  refine h.of_records (by rw [s.curtail_frame]) (by rw [s.curtail_frame]) fun p hp => ?_
  obtain he | ⟨-, x, hx, -, he⟩ := s.allocOf_curtail p
  · rw [he]; exact hp
  · rw [he]
    obtain ⟨hs, -⟩ := id hp
    exact hp.powers (hx.trans hs) (hx.trans hs) ⟨rfl, rfl, rfl, rfl, rfl⟩

/-! ### Rounds (R49 to R66) -/

/-- The records after pads went back to the queue, whatever the list holds. -/
theorem State.allocOf_foldl_toQueue (s : State) (pads : List Pad) (q : Pad) :
    (pads.foldl State.toQueue s).allocOf q = if q ∈ pads then (s.allocOf q).idle else s.allocOf q := by
  induction pads generalizing s with
  | nil => rfl
  | cons p rest ih =>
    rw [List.foldl_cons, ih, s.allocOf_toQueue]
    by_cases hq : q = p <;> by_cases hr : q ∈ rest <;> simp [hq, hr, AllocRec.idle]

theorem State.foldl_toQueue_frame (s : State) (pads : List Pad) :
    pads.foldl State.toQueue s =
      { s with
        alloc := (pads.foldl State.toQueue s).alloc
        queue := (pads.foldl State.toQueue s).queue
        active := (pads.foldl State.toQueue s).active } := by
  induction pads using List.reverseRecOn with
  | nil => rfl
  | append_singleton pads p ih =>
    rw [List.foldl_append, List.foldl_cons, List.foldl_nil, State.toQueue_frame, ih]

/-- What a boundary round leaves before its raise release attempt (R41, R66). -/
def State.roundReturned (s : State) : State := (s.roundTargets true).countStarvation.returnStarved

theorem State.boundaryRound_eq_releaseAttempt (s : State) : s.boundaryRound = s.roundReturned.releaseAttempt := rfl

theorem State.roundReturned_frame (s : State) :
    s.roundReturned =
      { s with
        alloc := s.roundReturned.alloc
        queue := s.roundReturned.queue
        active := s.roundReturned.active
        roundRequest := false } := by
  have hfold : s.roundReturned =
      { s.roundTargets true with
        alloc := s.roundReturned.alloc
        queue := s.roundReturned.queue
        active := s.roundReturned.active } :=
    (s.roundTargets true).countStarvation.foldl_toQueue_frame (s.roundTargets true).countStarvation.starvedPads
  exact hfold.trans (congrArg (fun u : State =>
    { u with
      alloc := s.roundReturned.alloc
      queue := s.roundReturned.queue
      active := s.roundReturned.active }) (s.roundTargets_frame true))

theorem State.allocOf_roundReturned (s : State) (p : Pad) :
    s.roundReturned.allocOf p =
      if p ∈ s.roundStarved then ((s.roundTargets true).countStarvation.allocOf p).idle
      else (s.roundTargets true).countStarvation.allocOf p := by
  rw [State.roundReturned, State.returnStarved, State.starvedPads_counted, State.allocOf_foldl_toQueue]

/-- Step A of a round leaves records in range (R36 to R40). -/
theorem State.PowersInRange.allocOf_roundMembers {s : State} (h : s.PowersInRange) (boundary : Bool) (p : Pad) :
    ((s.roundMembers boundary).allocOf p).InRange := by
  obtain ⟨hrecords, -, -⟩ := h
  have hfrom : ((s.roundFrom boundary).allocOf p).InRange := by
    rw [s.allocOf_roundFrom]
    split
    · obtain ⟨hsetpoint, htarget, -, hrest⟩ := hrecords p
      exact ⟨hsetpoint, htarget, hsetpoint, hrest⟩
    · exact hrecords p
  exact hfrom.considered ((s.roundFrom boundary).considered_admission s.budget p)

/-- A round's grants are powers of a pad (R60). -/
theorem State.PowersInRange.grant_le {s : State} (h : s.PowersInRange) (boundary : Bool) (p : Pad) :
    grantOf ((s.roundMembers boundary).grants s.budget) p ≤ padMax := by
  obtain ⟨-, ⟨hratings, -, -⟩, -⟩ := h
  have hrating : (s.roundMembers boundary).rating p = s.rating p := by rw [s.roundMembers_frame]; rfl
  refine (State.grantOf_grants_le_capOf _ _ p).trans ((State.capOf_le_rating _ p).trans ?_)
  rw [hrating]
  exact hratings p

theorem State.PowersInRange.roundTargets {s : State} (h : s.PowersInRange) (boundary : Bool) :
    (s.roundTargets boundary).PowersInRange := by
  refine h.of_records (by rw [s.roundTargets_frame]) (by rw [s.roundTargets_frame]) fun p _ => ?_
  have hmember := h.allocOf_roundMembers boundary p
  rw [s.allocOf_targets]
  split
  · exact hmember.target (h.grant_le boundary p)
  · exact hmember.target_zero

/-- A count that reaches 3 goes to 0 with its session's return (R41). -/
theorem State.PowersInRange.roundReturned {s : State} (h : s.PowersInRange) : s.roundReturned.PowersInRange := by
  refine h.of_records (by rw [s.roundReturned_frame]) (by rw [s.roundReturned_frame]) fun p _ => ?_
  have hmember : (s.roundAdmitted.allocOf p).InRange := h.allocOf_roundMembers true p
  have hgrant : s.roundGrant p ≤ padMax := h.grant_le true p
  rw [s.allocOf_roundReturned, s.allocOf_counted]
  by_cases hactive : p ∈ s.roundAdmitted.active
  · rw [if_pos hactive]
    by_cases hstarves : s.starvesAt p
    · rw [if_pos (State.mem_roundStarved.mpr ⟨hactive, hstarves⟩), AllocRec.idle_granted]
      exact hmember.idle
    · rw [if_neg fun hin => hstarves (State.mem_roundStarved.mp hin).2]
      exact hmember.granted hgrant hstarves
  · rw [if_neg hactive, if_neg fun hin => hactive (State.mem_roundStarved.mp hin).1]
    exact hmember.target_zero

/-! ### Every operation -/

/-- A state keeps another's powers in range. -/
abbrev State.KeepsRange (s t : State) : Prop := s.PowersInRange → t.PowersInRange

theorem keepsRange_base : PowerBase State.KeepsRange where
  trans h h' hs := h' (h hs)
  same hsame hs := hs.of_same hsame
  leaves s p hs := by
    have hidle : (s.setAlloc p (s.allocOf p).idle).PowersInRange := hs.setAlloc fun ha => ha.idle
    rw [s.leaveEligibility_frame]
    exact hidle.of_records rfl rfl fun _ => id
  holds p value hu hvalue hs := (hu hs).setAlloc fun ha => ha.startHold (hvalue hs (hu hs))
  counts s p link hs := hs.setAlloc fun ha => ha.countHold link
  hands handed hu hhanded hs := by
    obtain ⟨hrecords, hratings, -⟩ := hu hs
    exact ⟨hrecords, hratings, hhanded hs⟩

theorem State.PowersInRange.reformInSlot {s : State} (h : s.PowersInRange) : s.reformInSlot.PowersInRange :=
  keepsRange_base.reformInSlot (fun _ hu => hu.curtail) s h

theorem State.PowersInRange.handOnCells {before s : State} (h : s.PowersInRange) :
    (State.handOnCells before s).PowersInRange := by
  have hpad : ∀ (u : State) (p : Pad), u.KeepsRange (State.handOnPadCell before u p) := fun u p hu => by
    unfold State.handOnPadCell
    split
    · exact hu
    split
    · split
      · exact hu.clampPad p
      · exact hu
    split
    · exact hu.of_same (.requestRound u)
    · exact hu
  have hpads : ∀ (l : List Pad) (u : State), u.KeepsRange (l.foldl (State.handOnPadCell before) u) := fun l => by
    induction l with
    | nil => exact fun _ => id
    | cons p rest ih => exact fun u hu => ih _ (hpad u p hu)
  unfold State.handOnCells
  dsimp only
  split
  · exact hpads padList s h
  · exact (hpads padList s h).reformInSlot

theorem State.PowersInRange.takeLimits {s : State} (h : s.PowersInRange) (ramp pmin fallback tie : Nat) :
    (s.takeLimits ramp pmin fallback tie).PowersInRange := by
  unfold State.takeLimits
  extract_lets p feeder s1 s2
  have hs1 : s1.PowersInRange := h.of_records rfl rfl fun _ => id
  have hs2 : s2.PowersInRange := by
    simp only [s2]
    split
    · exact hs1.minPowerClamp
    · exact hs1
  exact hs2.reformInSlot.of_same (.requestRound _)

/-- A pause brings a session to 0 (R145, R147). -/
theorem State.PowersInRange.pauseBy {s : State} (h : s.PowersInRange) (p : Pad) (current : Bool)
    (state : ChargerState) : (s.pauseBy p current state).PowersInRange := by
  unfold State.pauseBy
  dsimp only
  split
  · split
    · split
      · exact h
      · exact h.setAlloc fun ha => ha.lowered (Nat.zero_le _) (Nat.zero_le _) ⟨rfl, rfl, rfl, rfl, rfl⟩
    · split
      · refine State.PowersInRange.of_same (h.setAlloc fun ha => ?_) (.requestRound _)
        exact ha.lowered (Nat.le_refl _) (Nat.le_refl _) ⟨rfl, rfl, rfl, rfl, rfl⟩
      · exact h
  · exact h

theorem State.PowersInRange.capStep {s : State} (h : s.PowersInRange) (p : Pad) (current : Bool) (oldCap : Nat) :
    (s.capStep p current oldCap).PowersInRange := by
  rw [State.capStep]
  split
  · split
    · split
      · exact h.clampPad p
      · exact h
    · split
      · exact h.of_same (.requestRound s)
      · exact h
  · exact h

/-- The allocator takes a report (R75). -/
theorem State.PowersInRange.allocatorTakes {s : State} (hs : s.PowersInRange) : s.allocatorTakes.PowersInRange := by
  unfold State.allocatorTakes
  split
  · exact hs
  · rename_i pre h post hfirst
    extract_lets before taken
    have hhanded := handed_of_firstUntaken hfirst
    have hmem : h ∈ s.handed := by rw [hhanded]; exact List.mem_append_right _ List.mem_cons_self
    obtain ⟨-, -, hreports⟩ := id hs
    obtain ⟨hmeasured, -⟩ := hreports h hmem
    have htaken : taken.state.PowersInRange := by
      refine State.PowersInRange.capStep (State.PowersInRange.pauseBy ?_ ..) ..
      have hrecord : ∀ current overdraw ends counts, (s.setAlloc h.pad
          ((s.allocOf h.pad).take h.report current overdraw ends counts)).PowersInRange := fun _ _ _ _ =>
        hs.setAlloc fun ha => ha.take hmeasured ..
      split
      · exact keepsRange_base.latchNoncompliant (keepsRange_base.refl _) (fun _ => hmeasured) (hrecord ..)
      · exact hrecord ..
    obtain ⟨hrecords, hratings, -⟩ := htaken
    exact ⟨hrecords, hratings, hs.handed_taken hhanded rfl rfl fun g hg => ⟨g, hg, rfl, rfl⟩⟩

theorem State.PowersInRange.takeBoundary {s : State} (h : s.PowersInRange) : s.takeBoundary.PowersInRange := by
  have hstages : s.boundaryStages.PowersInRange := by
    rw [s.boundaryStages_frame]
    exact h.of_records rfl rfl fun _ => id
  rw [State.takeBoundary, State.boundaryRound_eq_releaseAttempt]
  exact hstages.roundReturned.releaseAttempt

/-- Device reset loads the cells and empties the allocator's records (R27, R162). -/
theorem State.PowersInRange.afterReset {s : State} (h : s.PowersInRange) (mode : FeederMode) (field : Byte)
    (draws : Nat) : (State.afterReset s.pending s.lines mode field s.cutCells draws).PowersInRange := by
  obtain ⟨-, hratings, -⟩ := h
  have hcells : ∀ p, s.cutCells.rating.get p ≤ padMax := hratings.cellsAfterCut _
  have hstore : (Store.loaded s.cutCells).RatingsInRange := ⟨hcells, hcells, nofun⟩
  have hhanded : (State.afterReset s.pending s.lines mode field s.cutCells draws).handed = [] := rfl
  refine ⟨fun p => ?record, hstore, ?reports⟩
  case record =>
    rw [State.allocOf_afterReset]
    exact ⟨Nat.zero_le _, Nat.zero_le _, Nat.zero_le _, Nat.zero_le _, nofun, Nat.zero_le _, Nat.zero_le _⟩
  case reports => rw [State.HandedInRange, hhanded]; exact fun _ h => absurd h List.not_mem_nil

theorem keepsRange : PowerRel State.KeepsRange where
  toPowerBase := keepsRange_base
  releases _ hs := hs.releaseAttempt
  curtails _ hs := hs.curtail
  handsOn _ _ hs := State.PowersInRange.handOnCells (hs.of_records rfl rfl fun _ => id)
  limits _ _ _ _ _ hs := hs.takeLimits ..
  takes _ hs := hs.allocatorTakes
  rounds _ hs := (hs.roundTargets false).releaseAttempt
  boundaries _ hs := hs.takeBoundary
  resets h hs := by cases h; exact hs.afterReset ..

/-- SET RATING stores at most 400 kW (R160). -/
theorem State.PowersInRange.setRating {s : State} (h : s.PowersInRange) (p : Pad) {kw : Nat} (hkw : kw ≤ padMax) :
    (s.changeRecord p (.rating kw)).PowersInRange := by
  obtain ⟨hrecords, hratings, hhanded⟩ := h
  exact ⟨hrecords, hratings.change p (by rintro _ ⟨⟩; exact hkw), hhanded⟩

theorem AllocRec.setpoint_le_exposure (a : AllocRec) (rating : Nat) : a.setpoint ≤ a.exposure rating := by
  rw [AllocRec.exposure]
  split
  · exact Nat.le_max_right ..
  · exact Nat.le_max_left ..
  · exact (Nat.le_max_left ..).trans (Nat.le_max_right ..)

/-- Settles O8: every operation on powers keeps the ranges, and the exposure is formed from powers in range. -/
theorem powersInRangeKept : Obligations.PowersInRangeKept := by
  unfold Obligations.PowersInRangeKept
  refine ⟨fun s t hs hstep => ?_, fun s p hs => ⟨hs.exposure_le p, AllocRec.setpoint_le_exposure ..⟩⟩
  exact keepsRange.step (fun rest p kw _ hkw hrest => hrest.setRating p hkw) hstep hs

end Sys2Proof.Machine
end

section
/-! PROOFS. What a WRITE CELLS hands to the allocator (R124), in one expression. -/

namespace Sys2Proof.Machine

/-- The cap in force of a pad under another cap plan (R52). -/
def State.capUnder (s : State) (c : CapPlan) (p : Pad) : Nat := { s with plan := c }.capOf p

/-- Whether a cap plan lowers the cap of an ACTIVE pad (R124). -/
def State.clampsUnder (s : State) (c : CapPlan) (p : Pad) : Bool :=
  decide (p ∈ s.active) && decide (s.capUnder c p < s.capOf p)

/-- What a pad's record becomes when a cap plan is handed on: clamped when the cap of an ACTIVE pad falls (R86, R124).
-/
def State.recordUnder (s : State) (c : CapPlan) (p : Pad) : AllocRec :=
  let limit := clampLimit (s.capUnder c p) s.feeder.pmin
  if s.clampsUnder c p then
    { s.allocOf p with target := min (s.allocOf p).target limit, setpoint := min (s.allocOf p).setpoint limit }
  else s.allocOf p

/-- Whether the handing on requests a round for a pad: its cap rose, or its clamp lowered the setpoint (R86, R124). -/
def State.requestsUnder (s : State) (c : CapPlan) (p : Pad) : Bool :=
  decide (s.capOf p < s.capUnder c p) ||
    (s.clampsUnder c p && decide (clampLimit (s.capUnder c p) s.feeder.pmin < (s.allocOf p).setpoint))

/-- The state with a new cap plan handed on for the pads of a list. -/
def State.handedOn (s : State) (c : CapPlan) (pads : List Pad) : State :=
  { s with
    plan := c
    alloc := .tabulate fun p => if p ∈ pads then s.recordUnder c p else s.allocOf p
    roundRequest := s.roundRequest || pads.any (s.requestsUnder c) }

theorem State.allocOf_handedOn (s : State) (c : CapPlan) (pads : List Pad) (p : Pad) :
    (s.handedOn c pads).allocOf p = if p ∈ pads then s.recordUnder c p else s.allocOf p :=
  Table.get_tabulate ..

theorem State.accept_recordUnder (s : State) (c : CapPlan) (p : Pad) :
    (s.recordUnder c p).accept = (s.allocOf p).accept := by
  unfold State.recordUnder
  dsimp only
  split <;> rfl

/-- A clamp leaves caps as they are. -/
theorem State.capOf_handedOn (s : State) (c : CapPlan) (pads : List Pad) (p : Pad) :
    (s.handedOn c pads).capOf p = s.capUnder c p := by
  refine State.capOf_congr rfl rfl rfl ?_
  rw [s.allocOf_handedOn]
  split
  · exact s.accept_recordUnder c p
  · rfl

theorem State.capUnder_of_padCell {s : State} {c : CapPlan} {p : Pad}
    (h : { s with plan := c }.padCell p = s.padCell p) : s.capUnder c p = s.capOf p := by
  rw [State.capUnder, State.capOf, h]
  rfl

theorem Table.set_get_self {n : Nat} {α : Type} (t : Table n α) (i : Fin n) : t.set i (t.get i) = t :=
  Table.ext_get fun j => by
    by_cases h : j = i
    · subst h; exact Table.get_set_self ..
    · exact Table.get_set_ne _ _ h

/-- One pad more. -/
theorem State.handedOn_append (s : State) (c : CapPlan) (pads : List Pad) (p : Pad) :
    s.handedOn c (pads ++ [p]) =
      { s.handedOn c pads with
        alloc := (s.handedOn c pads).alloc.set p (s.recordUnder c p)
        roundRequest := (s.handedOn c pads).roundRequest || s.requestsUnder c p } := by
  unfold State.handedOn
  congr 1
  · refine Table.ext_get fun q => ?_
    by_cases hq : q = p
    · subst hq; simp
    · simp [hq]
  · simp [Bool.or_assoc]

/-- A pad whose record and round request the new plan leaves. -/
theorem State.handedOn_append_of_kept {s : State} {c : CapPlan} {pads : List Pad} {p : Pad} (hp : p ∉ pads)
    (hrecord : s.clampsUnder c p = false) :
    s.handedOn c (pads ++ [p]) =
      if s.capOf p < s.capUnder c p then (s.handedOn c pads).requestRound else s.handedOn c pads := by
  have hself : (s.handedOn c pads).alloc.set p (s.recordUnder c p) = (s.handedOn c pads).alloc := by
    have hget : (s.handedOn c pads).alloc.get p = s.recordUnder c p := by
      have hget := s.allocOf_handedOn c pads p
      rw [if_neg hp] at hget
      rw [State.recordUnder, hrecord]
      exact hget
    rw [← hget, Table.set_get_self]
  rw [s.handedOn_append, hself, State.requestsUnder, hrecord, Bool.false_and, Bool.or_false]
  split
  · rename_i hrise
    rw [decide_eq_true hrise, Bool.or_true]
    rfl
  · rename_i hrise
    rw [decide_eq_false hrise, Bool.or_false]

theorem State.clampPad_handedOn {s : State} {c : CapPlan} {pads : List Pad} {p : Pad} (hp : p ∉ pads)
    (hclamps : s.clampsUnder c p = true) : (s.handedOn c pads).clampPad p = s.handedOn c (pads ++ [p]) := by
  have hcap := s.capOf_handedOn c pads p
  have hrecord : (s.handedOn c pads).allocOf p = s.allocOf p := by rw [s.allocOf_handedOn, if_neg hp]
  have hfall : s.capUnder c p < s.capOf p := by
    rw [State.clampsUnder, Bool.and_eq_true] at hclamps
    exact of_decide_eq_true hclamps.2
  have hpmin : (s.handedOn c pads).feeder.pmin = s.feeder.pmin := rfl
  unfold State.clampPad
  dsimp only
  rw [hcap, hrecord, hpmin, s.handedOn_append, State.recordUnder, State.requestsUnder, hclamps, if_pos rfl,
    decide_eq_false (Nat.lt_asymm hfall), Bool.false_or, Bool.true_and]
  split
  · rename_i hlow
    rw [decide_eq_true hlow, Bool.or_true]
    rfl
  · rename_i hlow
    rw [decide_eq_false hlow, Bool.or_false]
    rfl

theorem State.handOnPadCell_handedOn {s : State} {c : CapPlan} {pads : List Pad} {p : Pad} (hp : p ∉ pads) :
    State.handOnPadCell s (s.handedOn c pads) p = s.handedOn c (pads ++ [p]) := by
  have hactive : (s.handedOn c pads).active = s.active := rfl
  have hcap := s.capOf_handedOn c pads p
  unfold State.handOnPadCell
  rw [hcap, hactive]
  split
  · rename_i hcell
    have hsame : s.capUnder c p = s.capOf p := State.capUnder_of_padCell hcell
    have hkept : s.clampsUnder c p = false := by
      rw [State.clampsUnder, hsame, decide_eq_false (Nat.lt_irrefl _), Bool.and_false]
    rw [State.handedOn_append_of_kept hp hkept,
      hsame, if_neg (Nat.lt_irrefl _)]
  split
  · rename_i hfall
    split
    · rename_i hin
      exact State.clampPad_handedOn hp (by rw [State.clampsUnder, decide_eq_true hin, decide_eq_true hfall]; rfl)
    · rename_i hoff
      rw [State.handedOn_append_of_kept hp (by rw [State.clampsUnder, decide_eq_false hoff, Bool.false_and]),
        if_neg (Nat.lt_asymm hfall)]
  · rename_i hfall
    rw [State.handedOn_append_of_kept hp (by rw [State.clampsUnder, decide_eq_false hfall, Bool.and_false])]

/-- The state after a WRITE CELLS before the ceiling is formed again (R124). -/
theorem State.foldl_handOnPadCell (s : State) (c : CapPlan) :
    padList.foldl (State.handOnPadCell s) { s with plan := c } = s.handedOn c padList := by
  have hnil : { s with plan := c } = s.handedOn c [] := by
    have halloc : Table.tabulate (fun p => s.allocOf p) = s.alloc := Table.ext_get fun p => Table.get_tabulate ..
    simp [State.handedOn, halloc]
  have hfold : ∀ pads : List Pad, pads.Nodup →
      pads.foldl (State.handOnPadCell s) { s with plan := c } = s.handedOn c pads := fun pads => by
    induction pads using List.reverseRecOn with
    | nil => exact fun _ => hnil
    | append_singleton pads p ih =>
      intro hnodup
      obtain ⟨hpads, -, hdisjoint⟩ := List.nodup_append.mp hnodup
      rw [List.foldl_append, ih hpads, List.foldl_cons, List.foldl_nil]
      exact State.handOnPadCell_handedOn fun hp => hdisjoint p hp p (List.mem_singleton_self p) rfl
  exact hfold padList padList_nodup

theorem State.handOnCells_eq (s : State) (c : CapPlan) :
    State.handOnCells s { s with plan := c } =
      if (s.handedOn c padList).feederCell = s.feederCell then s.handedOn c padList
      else (s.handedOn c padList).reformInSlot := by
  unfold State.handOnCells
  rw [s.foldl_handOnPadCell]

end Sys2Proof.Machine
end

section
/-! PROOFS. Setpoints and targets within the caps in force, and 0 or at least P_min (R65, R86, R87): kept by every step.
-/

namespace Sys2Proof.Machine

/-! ### The laws of one pad -/

/-- Setpoint and target of a pad are 0 or at least P_min, and 0 off the active list. -/
structure State.SoundAt (s : State) (q : Pad) : Prop where
  setpoint : AtLeastPmin s.feeder.pmin (s.allocOf q).setpoint
  target : AtLeastPmin s.feeder.pmin (s.allocOf q).target
  off : q ∉ s.active → (s.allocOf q).setpoint = 0 ∧ (s.allocOf q).target = 0

/-- Besides, both are within a limit. -/
structure State.FitsIn (s : State) (q : Pad) (limit : Nat) : Prop extends s.SoundAt q where
  setpoint_le : (s.allocOf q).setpoint ≤ limit
  target_le : (s.allocOf q).target ≤ limit

/-- The law of O6 for one pad. -/
abbrev State.FitsAt (s : State) (q : Pad) : Prop := s.FitsIn q (s.capOf q)

/-- A state keeps the law of a pad. -/
abbrev State.KeepsFit (q : Pad) (s t : State) : Prop := s.FitsAt q → t.FitsAt q

/-- A pad's setpoint and target did not rise, its cap did not fall, and the rest of the law is kept. -/
structure State.LowersAt (q : Pad) (s t : State) : Prop where
  sound : s.SoundAt q → t.SoundAt q
  setpoint : (t.allocOf q).setpoint ≤ (s.allocOf q).setpoint
  target : (t.allocOf q).target ≤ (s.allocOf q).target
  cap : s.capOf q ≤ t.capOf q

theorem State.SoundAt.of_zero {s : State} {q : Pad} (hs : (s.allocOf q).setpoint = 0) (ht : (s.allocOf q).target = 0) :
    s.SoundAt q :=
  ⟨.inl hs, .inl ht, fun _ => ⟨hs, ht⟩⟩

/-- The law of a pad whose powers, membership and P_min are the same. -/
theorem State.SoundAt.of_same {s t : State} {q : Pad} (h : s.SoundAt q) (hpmin : t.feeder.pmin = s.feeder.pmin)
    (hactive : q ∉ t.active → q ∉ s.active) (hs : (t.allocOf q).setpoint = (s.allocOf q).setpoint)
    (ht : (t.allocOf q).target = (s.allocOf q).target) : t.SoundAt q := by
  obtain ⟨hsetpoint, htarget, hoff⟩ := h
  refine ⟨?_, ?_, fun hq => ?_⟩
  · rw [hpmin, hs]; exact hsetpoint
  · rw [hpmin, ht]; exact htarget
  · rw [hs, ht]; exact hoff (hactive hq)

theorem State.FitsIn.mono {s : State} {q : Pad} {a b : Nat} (h : s.FitsIn q a) (hab : a ≤ b) : s.FitsIn q b :=
  ⟨h.toSoundAt, h.setpoint_le.trans hab, h.target_le.trans hab⟩

theorem State.FitsIn.of_powers {s t : State} {q : Pad} {limit : Nat} (h : s.FitsIn q limit)
    (hpmin : t.feeder.pmin = s.feeder.pmin) (hactive : t.active = s.active)
    (hs : (t.allocOf q).setpoint = (s.allocOf q).setpoint) (ht : (t.allocOf q).target = (s.allocOf q).target) :
    t.FitsIn q limit := by
  obtain ⟨hsound, hsetpoint, htarget⟩ := h
  exact ⟨hsound.of_same hpmin (fun hq => hactive ▸ hq) hs ht, hs.le.trans hsetpoint, ht.le.trans htarget⟩

/-- A pad off the active list is within every limit. -/
theorem State.SoundAt.fitsIn_of_off {s : State} {q : Pad} (h : s.SoundAt q) (hq : q ∉ s.active) (limit : Nat) :
    s.FitsIn q limit := by
  obtain ⟨hs, ht⟩ := h.off hq
  exact ⟨h, hs.le.trans (Nat.zero_le _), ht.le.trans (Nat.zero_le _)⟩

theorem State.FitsIn.of_lowers {s t : State} {q : Pad} {limit : Nat} (hs : s.FitsIn q limit) (h : s.LowersAt q t) :
    t.FitsIn q limit :=
  ⟨h.sound hs.toSoundAt, h.setpoint.trans hs.setpoint_le, h.target.trans hs.target_le⟩

theorem State.FitsAt.of_lowers {s t : State} {q : Pad} (hs : s.FitsAt q) (h : s.LowersAt q t) : t.FitsAt q :=
  (State.FitsIn.of_lowers hs h).mono h.cap

namespace State.LowersAt

variable {q : Pad} {s t u : State}

theorem trans (h : s.LowersAt q t) (h' : t.LowersAt q u) : s.LowersAt q u :=
  ⟨fun hs => h'.sound (h.sound hs), h'.setpoint.trans h.setpoint, h'.target.trans h.target, h.cap.trans h'.cap⟩

/-- Powers that are the same. -/
theorem of_same (hpmin : t.feeder.pmin = s.feeder.pmin) (hactive : q ∉ t.active → q ∉ s.active)
    (hs : (t.allocOf q).setpoint = (s.allocOf q).setpoint) (ht : (t.allocOf q).target = (s.allocOf q).target)
    (hcap : s.capOf q ≤ t.capOf q) : s.LowersAt q t :=
  ⟨fun h => h.of_same hpmin hactive hs ht, hs.le, ht.le, hcap⟩

/-- Powers that are 0. -/
theorem of_zero (hs : (t.allocOf q).setpoint = 0) (ht : (t.allocOf q).target = 0) (hcap : s.capOf q ≤ t.capOf q) :
    s.LowersAt q t :=
  ⟨fun _ => .of_zero hs ht, hs.le.trans (Nat.zero_le _), ht.le.trans (Nat.zero_le _), hcap⟩

theorem of_samePowers (h : s.SamePowers t) : s.LowersAt q t := by
  have hrecord : t.allocOf q = s.allocOf q := by rw [State.allocOf, h.alloc]; rfl
  exact of_same h.pmin (fun hq => h.active ▸ hq) (by rw [hrecord]) (by rw [hrecord]) (h.caps q)

/-- A record that changes keeps its acceptance limit, and with it the cap. -/
theorem capOf_setAlloc {p : Pad} {a : AllocRec} (ha : a.accept = (s.allocOf p).accept) (q : Pad) :
    (s.setAlloc p a).capOf q = s.capOf q := by
  refine State.capOf_congr rfl rfl rfl ?_
  by_cases hq : q = p
  · subst hq; rw [State.allocOf_setAlloc_self, ha]
  · rw [State.allocOf_setAlloc_ne _ _ _ hq]

/-- One record changes with setpoint, target and acceptance limit kept. -/
theorem setAlloc {p : Pad} {a : AllocRec} (hs : a.setpoint = (s.allocOf p).setpoint)
    (ht : a.target = (s.allocOf p).target) (ha : a.accept = (s.allocOf p).accept) :
    s.LowersAt q (s.setAlloc p a) := by
  have hcap := (capOf_setAlloc ha q).ge
  by_cases hq : q = p
  · subst hq
    exact of_same rfl id (by rw [State.allocOf_setAlloc_self, hs]) (by rw [State.allocOf_setAlloc_self, ht]) hcap
  · have hrecord := State.allocOf_setAlloc_ne s p a hq
    exact of_same rfl id (by rw [hrecord]) (by rw [hrecord]) hcap

/-- One record goes to 0. -/
theorem setAlloc_zero {p : Pad} {a : AllocRec} (hs : a.setpoint = 0) (ht : a.target = 0)
    (ha : a.accept = (s.allocOf p).accept) : s.LowersAt q (s.setAlloc p a) := by
  have hcap := (capOf_setAlloc ha q).ge
  by_cases hq : q = p
  · subst hq
    exact of_zero (by rw [State.allocOf_setAlloc_self, hs]) (by rw [State.allocOf_setAlloc_self, ht]) hcap
  · have hrecord := State.allocOf_setAlloc_ne s p a hq
    exact of_same rfl id (by rw [hrecord]) (by rw [hrecord]) hcap

end State.LowersAt

theorem AllocRec.countHold_kept (a : AllocRec) (link : LinkState) :
    (a.countHold link).setpoint = a.setpoint ∧ (a.countHold link).target = a.target ∧
      (a.countHold link).accept = a.accept := by
  rw [AllocRec.countHold]
  split
  · split <;> exact ⟨rfl, rfl, rfl⟩
  · exact ⟨rfl, rfl, rfl⟩

/-- Leaving eligibility makes a record idle as it leaves the list (R33). -/
theorem State.leaveEligibility_lowers (s : State) (p q : Pad) : s.LowersAt q (s.leaveEligibility p) := by
  rw [s.leaveEligibility_frame]
  by_cases hq : q = p
  · subst hq
    have hzero : s.LowersAt q (s.setAlloc q (s.allocOf q).idle) := .setAlloc_zero rfl rfl rfl
    have hrecord := State.allocOf_setAlloc_self s q (s.allocOf q).idle
    exact .of_zero (congrArg (·.setpoint) hrecord) (congrArg (·.target) hrecord) hzero.cap
  · have hrecord := State.allocOf_setAlloc_ne s p (s.allocOf p).idle hq
    have hcap := (State.LowersAt.capOf_setAlloc (s := s) (p := p) (a := (s.allocOf p).idle) rfl q).ge
    exact .of_same rfl (fun hoff hin => hoff ((List.mem_erase_of_ne hq).mpr hin)) (congrArg (·.setpoint) hrecord)
      (congrArg (·.target) hrecord) hcap

theorem lowersAt_base (q : Pad) : PowerBase (State.LowersAt q) where
  trans := .trans
  same := .of_samePowers
  leaves s p := s.leaveEligibility_lowers p q
  holds _ _ h _ := h.trans (.setAlloc rfl rfl rfl)
  counts s p link := by
    obtain ⟨hs, ht, ha⟩ := (s.allocOf p).countHold_kept link
    exact .setAlloc hs ht ha
  hands _ h _ := h.trans (.of_same rfl id rfl rfl (Nat.le_refl _))

theorem keepsFit_base (q : Pad) : PowerBase (State.KeepsFit q) where
  trans h h' hs := h' (h hs)
  same h hs := hs.of_lowers (.of_samePowers h)
  leaves s p hs := hs.of_lowers (s.leaveEligibility_lowers p q)
  holds _ _ h _ hs := (h hs).of_lowers (.setAlloc rfl rfl rfl)
  counts s p link hs := hs.of_lowers ((lowersAt_base q).counts s p link)
  hands _ h _ hs := (h hs).of_lowers (.of_same rfl id rfl rfl (Nat.le_refl _))

/-! ### The operations of the allocator -/

/-- Setpoint and target of a pad on an unchanged list are changed to powers that fit; its cap stays. -/
theorem State.FitsAt.of_record {s t : State} {q : Pad} {x y : Nat}
    (hframe : t = { s with alloc := t.alloc }) (hrecord : t.allocOf q = { s.allocOf q with setpoint := x, target := y })
    (hx : AtLeastPmin s.feeder.pmin x ∧ x ≤ s.capOf q) (hy : AtLeastPmin s.feeder.pmin y ∧ y ≤ s.capOf q)
    (hoff : q ∉ s.active → x = 0 ∧ y = 0) : t.FitsAt q := by
  have hpmin : t.feeder.pmin = s.feeder.pmin := by rw [hframe]
  have hactive : t.active = s.active := by rw [hframe]
  have hcap : t.capOf q = s.capOf q :=
    State.capOf_congr (by rw [hframe]) (by rw [hframe]) (by rw [hframe]) (by rw [hrecord])
  obtain ⟨hxp, hxc⟩ := hx
  obtain ⟨hyp, hyc⟩ := hy
  rw [State.FitsAt, hcap]
  refine ⟨⟨?_, ?_, ?_⟩, ?_, ?_⟩
  · rw [hpmin, hrecord]; exact hxp
  · rw [hpmin, hrecord]; exact hyp
  · rw [hactive, hrecord]; exact hoff
  · rw [hrecord]; exact hxc
  · rw [hrecord]; exact hyc

/-- A raise is released to the target (R79). -/
theorem State.FitsAt.releaseAttempt {s : State} {q : Pad} (h : s.FitsAt q) : s.releaseAttempt.FitsAt q := by
  obtain ⟨⟨hsetpoint, htarget, hoff⟩, hsetpoint_le, htarget_le⟩ := h
  obtain he | ⟨-, he⟩ := s.allocOf_releaseAttempt q
  · exact .of_record s.releaseAttempt_frame he ⟨hsetpoint, hsetpoint_le⟩ ⟨htarget, htarget_le⟩ hoff
  · exact .of_record s.releaseAttempt_frame he ⟨htarget, htarget_le⟩ ⟨htarget, htarget_le⟩ fun hq =>
      ⟨(hoff hq).2, (hoff hq).2⟩

/-- A curtailed setpoint is no higher (R84). -/
theorem State.FitsAt.curtail {s : State} {q : Pad} (h : s.FitsAt q) : s.curtail.FitsAt q := by
  obtain ⟨⟨hsetpoint, htarget, hoff⟩, hsetpoint_le, htarget_le⟩ := h
  obtain he | ⟨hq, x, hx, hpmin, he⟩ := s.allocOf_curtail q
  · exact .of_record s.curtail_frame he ⟨hsetpoint, hsetpoint_le⟩ ⟨htarget, htarget_le⟩ hoff
  · have hxc := hx.trans hsetpoint_le
    exact .of_record s.curtail_frame he ⟨hpmin, hxc⟩ ⟨hpmin, hxc⟩ fun hoff => absurd hq hoff

theorem State.FitsAt.reformInSlot {s : State} {q : Pad} (h : s.FitsAt q) : s.reformInSlot.FitsAt q :=
  (keepsFit_base q).reformInSlot (fun _ hu => hu.curtail) s h

/-- A clamp brings a pad within its cap (R86). -/
theorem State.SoundAt.clampPad {s : State} {p : Pad} (h : s.SoundAt p) : (s.clampPad p).FitsAt p := by
  obtain ⟨hsetpoint, htarget, hoff⟩ := h
  have hlimit : AtLeastPmin s.feeder.pmin (clampLimit (s.capOf p) s.feeder.pmin) := clampLimit_eq_zero_or ..
  have hle : ∀ kw, min kw (clampLimit (s.capOf p) s.feeder.pmin) ≤ s.capOf p := fun kw =>
    (Nat.min_le_right ..).trans (clampLimit_le ..)
  have hfits : ({ s with alloc := (s.clampPad p).alloc } : State).FitsAt p :=
    .of_record (s := s) rfl (s.allocOf_clampPad_self p) ⟨hsetpoint.min hlimit, hle _⟩ ⟨htarget.min hlimit, hle _⟩
      fun hq => by
        obtain ⟨hs, ht⟩ := hoff hq
        rw [hs, ht]
        exact ⟨Nat.zero_min _, Nat.zero_min _⟩
  rw [s.clampPad_frame]
  exact hfits.of_lowers (.of_same rfl id rfl rfl (Nat.le_refl _))

/-- A clamp of another pad leaves a pad's law. -/
theorem State.clampPad_lowers (s : State) {p q : Pad} (hq : q ≠ p) : s.LowersAt q (s.clampPad p) := by
  have hrecord := s.allocOf_clampPad_ne p hq
  refine .of_same ?_ ?_ (by rw [hrecord]) (by rw [hrecord]) (State.capOf_congr ?_ ?_ ?_ (by rw [hrecord])).ge
  all_goals rw [s.clampPad_frame]
  exact id

/-- WRITE CELLS hands the caps on: a pad whose cap fell is clamped, and one off the list has nothing to clamp (R124). -/
theorem State.FitsAt.handedOn {s : State} {q : Pad} (h : s.FitsAt q) (c : CapPlan) :
    (s.handedOn c padList).FitsAt q := by
  have hrecord := s.allocOf_handedOn c padList q
  rw [if_pos (mem_padList q), State.recordUnder] at hrecord
  cases hclamps : s.clampsUnder c q with
  | true =>
    rw [hclamps, if_pos rfl] at hrecord
    obtain ⟨⟨hsetpoint, htarget, hoff⟩, -, -⟩ := h
    have hlimit : AtLeastPmin s.feeder.pmin (clampLimit (s.capUnder c q) s.feeder.pmin) := clampLimit_eq_zero_or ..
    have hle : ∀ kw, min kw (clampLimit (s.capUnder c q) s.feeder.pmin) ≤ s.capUnder c q := fun kw =>
      (Nat.min_le_right ..).trans (clampLimit_le ..)
    refine .of_record (s := { s with plan := c, roundRequest := (s.handedOn c padList).roundRequest }) rfl hrecord
      ⟨hsetpoint.min hlimit, hle _⟩ ⟨htarget.min hlimit, hle _⟩ fun hq => ?_
    obtain ⟨hs, ht⟩ := hoff hq
    dsimp only [State.allocOf] at hs ht ⊢
    rw [hs, ht]
    exact ⟨Nat.zero_min _, Nat.zero_min _⟩
  | false =>
    rw [hclamps, if_neg Bool.false_ne_true] at hrecord
    rw [State.FitsAt, s.capOf_handedOn]
    refine State.FitsIn.of_powers (s := s) ?_ rfl rfl (by rw [hrecord]) (by rw [hrecord])
    rw [State.clampsUnder, Bool.and_eq_false_imp, decide_eq_true_eq, decide_eq_false_iff_not] at hclamps
    by_cases hq : q ∈ s.active
    · exact h.mono (Nat.not_lt.mp (hclamps hq))
    · exact h.toSoundAt.fitsIn_of_off hq _

/-- A raised P_min zeroes what is below it (R87). -/
theorem State.FitsAt.takeLimits {s : State} {q : Pad} (h : s.FitsAt q) (ramp pmin fallback tie : Nat) :
    (s.takeLimits ramp pmin fallback tie).FitsAt q := by
  unfold State.takeLimits
  extract_lets p feeder s1 s2
  obtain ⟨⟨hsetpoint, htarget, hoff⟩, hsetpoint_le, htarget_le⟩ := h
  have hs2 : s2.FitsAt q := by
    simp only [s2]
    split
    · refine .of_record (s := s1) rfl (State.allocOf_setAllocs s1 _ q)
        ⟨dropSmall_eq_zero_or .., (dropSmall_le ..).trans hsetpoint_le⟩
        ⟨dropSmall_eq_zero_or .., (dropSmall_le ..).trans htarget_le⟩ fun hq => ?_
      obtain ⟨hs, ht⟩ := hoff hq
      exact ⟨Nat.le_zero.mp ((dropSmall_le ..).trans hs.le), Nat.le_zero.mp ((dropSmall_le ..).trans ht.le)⟩
    · rename_i hlower
      exact ⟨⟨hsetpoint.imp_right (Nat.not_lt.mp hlower).trans, htarget.imp_right (Nat.not_lt.mp hlower).trans, hoff⟩,
        hsetpoint_le, htarget_le⟩
  exact (keepsFit_base q).then_same State.FitsAt.reformInSlot (.requestRound s2.reformInSlot) hs2

/-- A pause brings setpoint and target to 0 (R145). -/
theorem State.pauseBy_lowers (s : State) (p : Pad) (current : Bool) (state : ChargerState) (q : Pad) :
    s.LowersAt q (s.pauseBy p current state) := by
  have hrefl : s.LowersAt q s := (lowersAt_base q).refl s
  unfold State.pauseBy
  dsimp only
  split
  · split
    · exact PowerBase.ite _ hrefl (.setAlloc_zero rfl rfl rfl)
    · have hunpaused : s.LowersAt q (s.setAlloc p { s.allocOf p with paused := false }) := .setAlloc rfl rfl rfl
      exact PowerBase.ite _ ((lowersAt_base q).then_same hunpaused (.requestRound _)) hrefl
  · exact hrefl

/-- Step 5 of R75 brings a pad within its cap, whatever the cap was. -/
theorem State.FitsIn.capStep {s : State} {p : Pad} {oldCap : Nat} (h : s.FitsIn p oldCap) {current : Bool}
    (hstale : current = false → oldCap ≤ s.capOf p) : (s.capStep p current oldCap).FitsAt p := by
  rw [State.capStep]
  split
  · split
    · split
      · exact h.toSoundAt.clampPad
      · rename_i hoff
        exact h.toSoundAt.fitsIn_of_off hoff _
    · rename_i hfall
      have hfits : s.FitsAt p := h.mono (Nat.not_lt.mp hfall)
      exact (PowerBase.ite (R := State.KeepsFit p) _ ((keepsFit_base p).same (.requestRound s)) id) hfits
  · rename_i hcurrent
    exact h.mono (hstale (Bool.eq_false_iff.mpr hcurrent))

theorem State.capStep_lowers (s : State) {p q : Pad} (hq : q ≠ p) (current : Bool) (oldCap : Nat) :
    s.LowersAt q (s.capStep p current oldCap) := by
  have hrefl : s.LowersAt q s := (lowersAt_base q).refl s
  exact PowerBase.ite _ (PowerBase.ite _ (PowerBase.ite _ (s.clampPad_lowers hq) hrefl)
    (PowerBase.ite _ (.of_samePowers (.requestRound s)) hrefl)) hrefl

/-- Steps 1 to 4 of R75 leave setpoint and target, and a stale report leaves the acceptance limit. -/
theorem AllocRec.take_kept (a : AllocRec) (r : Report) (current overdraw ends counts : Bool) :
    (a.take r current overdraw ends counts).setpoint = a.setpoint ∧
      (a.take r current overdraw ends counts).target = a.target ∧
      (current = false → (a.take r current overdraw ends counts).accept = a.accept) := by
  rw [AllocRec.take, AllocRec.takeMode_frame]
  refine ⟨rfl, rfl, ?_⟩
  rintro rfl
  rfl

/-- The allocator takes a report (R75). -/
theorem State.FitsAt.allocatorTakes {s : State} {q : Pad} (hs : s.FitsAt q) : s.allocatorTakes.FitsAt q := by
  unfold State.allocatorTakes
  split
  · exact hs
  · rename_i pre h post hfirst
    extract_lets before taken
    have hmem : h ∈ s.handed := by
      rw [handed_of_firstUntaken hfirst]; exact List.mem_append_right _ List.mem_cons_self
    have htaken : taken.state.FitsAt q := by
      simp only [taken]
      unfold State.takeAtAllocator
      extract_lets p r current overdraw limit link s4 s4'
      have hlatch : s4.LowersAt q s4' := PowerBase.ite _
        ((lowersAt_base q).latchNoncompliant ((lowersAt_base q).refl s4) fun ⟨_, _, hreports⟩ => (hreports h hmem).1)
        ((lowersAt_base q).refl s4)
      have hpaused : s4.LowersAt q (s4'.pauseBy p current r.state) := hlatch.trans (s4'.pauseBy_lowers ..)
      obtain ⟨hsetpoint, htarget, haccept⟩ := (s.allocOf p).take_kept r current overdraw
        (h.endsHold link && !limit) (h.countsHold link && !limit)
      by_cases hq : q = p
      · subst hq
        have hrecord := State.allocOf_setAlloc_self s p
          ((s.allocOf p).take r current overdraw (h.endsHold link && !limit) (h.countsHold link && !limit))
        have hs4 : s4.FitsIn p (s.capOf p) :=
          hs.of_powers rfl rfl (by rw [hrecord, hsetpoint]) (by rw [hrecord, htarget])
        exact (hs4.of_lowers hpaused).capStep fun hstale =>
          (State.LowersAt.capOf_setAlloc (haccept hstale) p).ge.trans hpaused.cap
      · have hrecord : s4.allocOf q = s.allocOf q := State.allocOf_setAlloc_ne s p _ hq
        have hcap : s4.capOf q = s.capOf q := State.capOf_congr rfl rfl rfl (by rw [hrecord])
        have hs4 : s.LowersAt q s4 := .of_same rfl id (by rw [hrecord]) (by rw [hrecord]) hcap.ge
        exact hs.of_lowers ((hs4.trans hpaused).trans (State.capStep_lowers _ hq ..))
    exact htaken.of_lowers (.of_same rfl id rfl rfl (Nat.le_refl _))

/-! ### Rounds -/

theorem State.SoundAt.toQueue {s : State} {q : Pad} (h : s.SoundAt q) (p : Pad) : (s.toQueue p).SoundAt q := by
  have hrecord := s.allocOf_toQueue p q
  by_cases hq : q = p
  · rw [if_pos hq] at hrecord
    exact .of_zero (by rw [hrecord]; rfl) (by rw [hrecord]; rfl)
  · rw [if_neg hq] at hrecord
    exact h.of_same rfl (fun hoff hin => hoff ((List.mem_erase_of_ne hq).mpr hin)) (by rw [hrecord]) (by rw [hrecord])

theorem State.SoundAt.foldl_toQueue {q : Pad} (pads : List Pad) {s : State} (h : s.SoundAt q) :
    (pads.foldl State.toQueue s).SoundAt q := by
  induction pads generalizing s with
  | nil => exact h
  | cons p rest ih => exact ih (h.toQueue p)

theorem State.SoundAt.enlisted {s : State} {q : Pad} (h : s.SoundAt q) (c : Pad) : (s.enlisted c).SoundAt q := by
  have hactive : q ∉ (s.enlisted c).active → q ∉ s.active := fun hoff hin => hoff (List.mem_append_left _ hin)
  by_cases hq : q = c
  · subst hq
    have hrecord := s.allocOf_enlisted_self q
    exact h.of_same rfl hactive (by rw [hrecord]) (by rw [hrecord])
  · have hrecord := s.allocOf_enlisted_ne hq
    exact h.of_same rfl hactive (by rw [hrecord]) (by rw [hrecord])

/-- Step A of a round leaves powers or sets them to 0, and a pad off the list at 0. -/
theorem State.SoundAt.roundMembers {s : State} {q : Pad} (h : s.SoundAt q) (boundary : Bool) :
    (s.roundMembers boundary).SoundAt q := by
  have hfrom : (s.roundFrom boundary).SoundAt q := by
    have hrecord := s.allocOf_roundFrom boundary q
    have hkept : ((s.roundFrom boundary).allocOf q).setpoint = (s.allocOf q).setpoint ∧
        ((s.roundFrom boundary).allocOf q).target = (s.allocOf q).target := by
      rw [hrecord]
      split <;> exact ⟨rfl, rfl⟩
    obtain ⟨hs, ht⟩ := hkept
    cases boundary <;> exact h.of_same rfl id hs ht
  exact State.admission_induction (fun u => u.SoundAt q) hfrom fun u c gone hu _ _ _ =>
    (hu.foldl_toQueue gone).enlisted c

/-- After the five steps of a round every pad fits, wherever its powers stood (R61 to R65). -/
theorem State.SoundAt.roundTargets {s : State} {q : Pad} (h : s.SoundAt q) (boundary : Bool) :
    (s.roundTargets boundary).FitsAt q := by
  have hmembers := h.roundMembers boundary
  have hpmin : (s.roundMembers boundary).feeder.pmin = s.feeder.pmin := by rw [s.roundMembers_frame]
  have hpmin' : (s.roundTargets boundary).feeder.pmin = s.feeder.pmin := by rw [s.roundTargets_frame]
  have hactive := s.active_roundTargets boundary
  have htarget := s.target_roundTargets_atLeastPmin boundary q
  have hcap := s.target_roundTargets_le_capOf boundary q
  have hrecord := s.allocOf_targets boundary q
  have htargetEq := s.target_roundTargets boundary q
  obtain ⟨hsetpoint, -, hoff⟩ := hmembers
  rw [hpmin] at hsetpoint
  by_cases hq : q ∈ (s.roundMembers boundary).active
  · rw [if_pos hq] at hrecord htargetEq
    have hset : ((s.roundTargets boundary).allocOf q).setpoint =
        min ((s.roundMembers boundary).allocOf q).setpoint ((s.roundTargets boundary).allocOf q).target := by
      rw [htargetEq, hrecord]
    refine ⟨⟨?_, ?_, fun hnot => absurd (hactive ▸ hq) hnot⟩, ?_, hcap⟩
    · rw [hpmin', hset]; exact hsetpoint.min htarget
    · rw [hpmin']; exact htarget
    · rw [hset]; exact (Nat.min_le_right _ _).trans hcap
  · rw [if_neg hq] at hrecord htargetEq
    obtain ⟨hzero, -⟩ := hoff hq
    have hset : ((s.roundTargets boundary).allocOf q).setpoint = 0 := by rw [hrecord]; exact hzero
    exact (State.SoundAt.of_zero hset htargetEq).fitsIn_of_off (by rw [hactive]; exact hq) _

/-- What a boundary round does after its targets leaves powers or sets them to 0 (R41, R66). -/
theorem State.roundReturned_lowers (s : State) (q : Pad) : (s.roundTargets true).LowersAt q s.roundReturned := by
  have hrecord := s.allocOf_roundReturned q
  have hcounted : ((s.roundTargets true).countStarvation.allocOf q).setpoint =
        ((s.roundTargets true).allocOf q).setpoint ∧
      ((s.roundTargets true).countStarvation.allocOf q).target = ((s.roundTargets true).allocOf q).target ∧
      ((s.roundTargets true).countStarvation.allocOf q).accept = ((s.roundTargets true).allocOf q).accept := by
    rw [State.countStarvation, State.allocOf_setAllocs]
    dsimp only
    split <;> exact ⟨rfl, rfl, rfl⟩
  obtain ⟨hs, ht, ha⟩ := hcounted
  have haccept : (s.roundReturned.allocOf q).accept = ((s.roundTargets true).allocOf q).accept := by
    rw [hrecord, ← ha]
    split <;> rfl
  have hcap : s.roundReturned.capOf q = (s.roundTargets true).capOf q :=
    State.capOf_congr (by rw [s.roundReturned_frame, s.roundTargets_frame])
      (by rw [s.roundReturned_frame, s.roundTargets_frame]) (by rw [s.roundReturned_frame, s.roundTargets_frame])
      haccept
  have hpmin : s.roundReturned.feeder.pmin = (s.roundTargets true).feeder.pmin := by
    rw [s.roundReturned_frame, s.roundTargets_frame]
  by_cases hq : q ∈ s.roundStarved
  · rw [if_pos hq] at hrecord
    exact .of_zero (by rw [hrecord]; rfl) (by rw [hrecord]; rfl) hcap.ge
  · rw [if_neg hq] at hrecord
    refine .of_same hpmin (fun hoff hin => hoff ?_) (by rw [hrecord, hs]) (by rw [hrecord, ht]) hcap.ge
    exact State.mem_active_foldl_toQueue (u := (s.roundTargets true).countStarvation) hin
      (by rw [State.starvedPads_counted]; exact hq)

theorem State.FitsAt.takeBoundary {s : State} {q : Pad} (h : s.FitsAt q) : s.takeBoundary.FitsAt q := by
  have hstages : s.boundaryStages.SoundAt q := by
    rw [s.boundaryStages_frame]
    exact h.toSoundAt.of_same rfl id rfl rfl
  rw [State.takeBoundary, State.boundaryRound_eq_releaseAttempt]
  exact ((hstages.roundTargets true).of_lowers (State.roundReturned_lowers _ q)).releaseAttempt

/-! ### Every step -/

theorem keepsFit (q : Pad) : PowerRel (State.KeepsFit q) where
  toPowerBase := keepsFit_base q
  releases _ hs := hs.releaseAttempt
  curtails _ hs := hs.curtail
  handsOn s codes hs := by
    rw [s.handOnCells_eq]
    split
    · exact hs.handedOn _
    · exact (hs.handedOn _).reformInSlot
  limits _ _ _ _ _ hs := hs.takeLimits ..
  takes _ hs := hs.allocatorTakes
  rounds _ hs := (hs.toSoundAt.roundTargets false).releaseAttempt
  boundaries _ hs := hs.takeBoundary
  resets h _ := by
    cases h
    refine State.SoundAt.fitsIn_of_off (.of_zero ?_ ?_) List.not_mem_nil _ <;> rw [State.allocOf_afterReset] <;> rfl

/-- A rating change of a pad off the active list moves no cap of an active one (R160). -/
theorem State.FitsAt.setRating {s : State} {p q : Pad} {kw : Nat} (h : s.FitsAt q) (hp : p ∉ s.active) :
    (s.changeRecord p (.rating kw)).FitsAt q := by
  have hsound : (s.changeRecord p (.rating kw)).SoundAt q := h.toSoundAt.of_same rfl id rfl rfl
  by_cases hq : q = p
  · subst hq
    exact hsound.fitsIn_of_off hp _
  · have hrating : (s.changeRecord p (.rating kw)).rating q = s.rating q := by
      change (s.store.change p (.rating kw)).image.rating.get q = _
      rw [Store.change_image, StoreImage.put, Table.get_set_ne _ _ hq]
      rfl
    have hcap : (s.changeRecord p (.rating kw)).capOf q = s.capOf q := by
      rw [State.capOf, hrating]
      rfl
    exact h.of_lowers (.of_same rfl id rfl rfl hcap.ge)

theorem State.SetpointsInCaps.fitsAt {s : State} (h : s.SetpointsInCaps) (hidle : s.IdleOffList) (q : Pad) :
    s.FitsAt q := by
  obtain ⟨hsetpoint, htarget, hsp, htp⟩ := h q
  refine ⟨⟨hsp, htp, fun hq => ?_⟩, hsetpoint, htarget⟩
  obtain ⟨hs, ht, -⟩ := hidle q hq
  exact ⟨hs, ht⟩

/-- Settles O6: every operation on powers keeps the law of a pad; a LOCKED pad, whose rating may fall, is off the list.
-/
theorem setpointsInCapsKept : Obligations.SetpointsInCapsKept := by
  unfold Obligations.SetpointsInCapsKept
  rintro s t ⟨-, -, -, hmem⟩ - hidle hs hstep q
  have hq := (keepsFit q).step ?_ hstep (hs.fitsAt hidle q)
  · exact ⟨hq.setpoint_le, hq.target_le, hq.setpoint, hq.target⟩
  intro rest p kw hlocked _ hrest
  have hoff : p ∉ s.active := fun hin => by
    have heligible : s.padState p = .eligible := (hmem p).mpr (.inr hin)
    exact nomatch heligible.symm.trans hlocked
  exact State.FitsAt.setRating hrest hoff

end Sys2Proof.Machine
end

section
/-! PROOFS. What an event inside a slot settles at its end: the ceiling formed again, the curtailment of a fall, the
raise release attempt of a rise or of an exposure that fell (R80, R84, R106, R112). -/

namespace Sys2Proof.Machine

/-! ### The ceiling formed again inside a slot (R106, R112) -/

/-- Whether forming the ceiling again changes the ceiling or its cause. -/
def State.ceilingMoves (s : State) : Bool :=
  decide (s.formCeiling.value ≠ s.feeder.ceiling ∨ s.formCeiling.cause ≠ s.feeder.cause)

/-- The records after the ceiling was formed again inside a slot: a fall curtails. -/
def State.reformedAlloc (s : State) : Table 24 AllocRec :=
  if s.formCeiling.value < s.feeder.ceiling then s.reformAtBoundary.curtail.alloc else s.alloc

theorem State.reformInSlot_eq (s : State) :
    s.reformInSlot =
      { s with
        feeder := { s.feeder with ceiling := s.formCeiling.value, cause := s.formCeiling.cause }
        alloc := s.reformedAlloc
        roundRequest := s.roundRequest || s.ceilingMoves
        ports := s.ports.enter (fun _ => false) s.ceilingMoves
        link :=
          { s.link with
            stopRequest := s.link.stopRequest ||
              (decide (0 < s.feeder.ceiling) && decide (s.formCeiling.value = 0)) } } := by
  have hboundary := s.reformAtBoundary_eq
  by_cases h : s.formCeiling = ⟨s.feeder.ceiling, s.feeder.cause⟩
  · have hsame : s.reformAtBoundary = s := by rw [State.reformAtBoundary, if_pos h]
    have hmoves : s.ceilingMoves = false := by simp [State.ceilingMoves, h]
    have halloc : s.reformedAlloc = s.alloc := by simp [State.reformedAlloc, h]
    rw [hsame] at hboundary
    rw [State.reformInSlot, if_pos h, halloc, hmoves, Bool.or_false]
    rw [State.ceilingMoves] at hmoves
    rw [hmoves] at hboundary
    exact hboundary
  · have hset : s.reformAtBoundary = s.setCeiling s.formCeiling := by rw [State.reformAtBoundary, if_neg h]
    have hmoves : s.ceilingMoves = true := by
      refine decide_eq_true ?_
      by_contra hsame
      obtain ⟨hvalue, hcause⟩ := not_or.mp hsame
      exact h (by rw [← not_not.mp hvalue, ← not_not.mp hcause])
    have hceiling : (s.setCeiling s.formCeiling).feeder.ceiling = s.formCeiling.value := by rw [s.setCeiling_frame]
    rw [State.reformInSlot, if_neg h]
    dsimp only
    rw [hceiling, State.reformedAlloc, ← hset, hmoves, Bool.or_true]
    rw [State.ceilingMoves] at hmoves
    rw [hmoves] at hboundary
    split
    · rw [State.curtail_frame]
      exact congrArg
        (fun u : State => { u with alloc := s.reformAtBoundary.curtail.alloc, roundRequest := true }) hboundary
    · exact congrArg (fun u : State => { u with roundRequest := true }) hboundary

/-! ### Raise releases -/

/-- Raise releases read neither round request nor change sets nor the pad link. -/
theorem State.releaseFrom_outside (s : State) (request : Bool) (ports : Ports) (link : LinkCtl) (pads : List Pad) :
    (({ s with roundRequest := request, ports := ports, link := link } : State).releaseFrom pads).alloc =
      (s.releaseFrom pads).alloc := by
  induction pads generalizing s with
  | nil => rfl
  | cons p rest ih =>
    by_cases hfits : s.othersExposure p + (s.allocOf p).target ≤ s.feeder.ceiling
    · have hother : ({ s with roundRequest := request, ports := ports, link := link } : State).releaseFrom (p :: rest) =
          ({ s.releaseRaise p with roundRequest := request, ports := ports, link := link } : State).releaseFrom rest :=
        if_pos hfits
      rw [hother, ih, State.releaseFrom, if_pos hfits]
    · have hother : ({ s with roundRequest := request, ports := ports, link := link } : State).releaseFrom (p :: rest) =
          { s with roundRequest := request, ports := ports, link := link } := if_neg hfits
      rw [hother, State.releaseFrom, if_neg hfits]

theorem State.releaseAttempt_outside (s : State) (request : Bool) (ports : Ports) (link : LinkCtl) :
    ({ s with roundRequest := request, ports := ports, link := link } : State).releaseAttempt.alloc =
      s.releaseAttempt.alloc := by
  have hother : ({ s with roundRequest := request, ports := ports, link := link } : State).releaseAttempt =
      if s.headroomOk then
        ({ s with roundRequest := request, ports := ports, link := link } : State).releaseFrom s.raiseOrder
      else { s with roundRequest := request, ports := ports, link := link } := rfl
  rw [hother, State.releaseAttempt]
  split
  · exact s.releaseFrom_outside ..
  · rfl

/-! ### What the end of an event settles -/

theorem State.Ready.event_settled {s after : State} (hs : s.Ready) (hstore : after.store = s.store) :
    s.event after = .next (if exposureFell s after || decide (s.feeder.ceiling < after.feeder.ceiling)
      then after.releaseAttempt else after) := by
  obtain ⟨hpowered, -, hidle⟩ := hs
  rw [State.event_of_powered hpowered, finishEvent, State.beginWrite_eq_self]
  split
  · rw [State.releaseAttempt_frame, hstore]; exact hidle
  · rw [hstore]; exact hidle

theorem exposureFell_iff {before after : State} :
    exposureFell before after = true ↔ ∃ p, after.exposure p < before.exposure p := by
  simp [exposureFell]

/-- A curtailment of too small a budget sets every active record. -/
theorem State.allocOf_curtail_of_lt {s : State}
    (h : s.feeder.ceiling - s.offListExposure < sumOver s.activePads fun p => (s.allocOf p).setpoint) (p : Pad) :
    s.curtail.allocOf p =
      if p ∈ s.active then
        { s.allocOf p with
          setpoint := curtailed (s.allocOf p).setpoint (s.feeder.ceiling - s.offListExposure)
            (sumOver s.activePads fun p => (s.allocOf p).setpoint) s.feeder.pmin
          target := curtailed (s.allocOf p).setpoint (s.feeder.ceiling - s.offListExposure)
            (sumOver s.activePads fun p => (s.allocOf p).setpoint) s.feeder.pmin }
      else s.allocOf p := by
  rw [State.curtail, if_pos h, State.allocOf_setAllocs]

theorem State.curtail_of_le {s : State}
    (h : sumOver s.activePads (fun p => (s.allocOf p).setpoint) ≤ s.feeder.ceiling - s.offListExposure) :
    s.curtail = s := by
  rw [State.curtail, if_neg (Nat.not_lt.mpr h)]

/-- The state in which the ceiling has been formed again at a boundary, as the curtailment reads it. -/
theorem State.curtail_reformAtBoundary (u : State) :
    u.reformAtBoundary.offListExposure = u.offListExposure ∧ u.reformAtBoundary.activePads = u.activePads ∧
      u.reformAtBoundary.active = u.active ∧ (∀ p, u.reformAtBoundary.allocOf p = u.allocOf p) ∧
      u.reformAtBoundary.feeder.ceiling = u.formCeiling.value ∧ u.reformAtBoundary.feeder.pmin = u.feeder.pmin := by
  rw [u.reformAtBoundary_frame]
  exact ⟨rfl, rfl, rfl, fun _ => rfl, rfl, rfl⟩

/-- Whether a new ceiling curtails: it fell, and the active setpoints come to more than the new budget (R84). -/
abbrev State.curtailsTo (u : State) (ceiling : Nat) : Prop :=
  ceiling < u.feeder.ceiling ∧
    ceiling - u.offListExposure < sumOver u.activePads fun p => (u.allocOf p).setpoint

/-- The records after a fall of the ceiling that curtails. -/
theorem State.get_reformedAlloc_of_curtails {u : State} (h : u.curtailsTo u.formCeiling.value) (p : Pad) :
    u.reformedAlloc.get p =
      if p ∈ u.active then
        { u.allocOf p with
          setpoint := curtailed (u.allocOf p).setpoint (u.formCeiling.value - u.offListExposure)
            (sumOver u.activePads fun p => (u.allocOf p).setpoint) u.feeder.pmin
          target := curtailed (u.allocOf p).setpoint (u.formCeiling.value - u.offListExposure)
            (sumOver u.activePads fun p => (u.allocOf p).setpoint) u.feeder.pmin }
      else u.allocOf p := by
  obtain ⟨hfall, hlt⟩ := h
  obtain ⟨hoff, hpads, hactive, hrecords, hceiling, hpmin⟩ := u.curtail_reformAtBoundary
  rw [State.reformedAlloc, if_pos hfall]
  have hcurtail := State.allocOf_curtail_of_lt (s := u.reformAtBoundary) (p := p)
  simp only [hoff, hpads, hactive, hrecords, hceiling, hpmin] at hcurtail
  exact hcurtail hlt

/-- Without a curtailment the records stay. -/
theorem State.reformedAlloc_of_not_curtails {u : State} (h : ¬ u.curtailsTo u.formCeiling.value) :
    u.reformedAlloc = u.alloc := by
  rw [State.reformedAlloc]
  split
  · rename_i hfall
    obtain ⟨hoff, hpads, -, hrecords, hceiling, -⟩ := u.curtail_reformAtBoundary
    rw [State.curtail_of_le, u.reformAtBoundary_frame]
    simp only [hoff, hpads, hrecords, hceiling]
    exact Nat.not_lt.mp fun hlt => h ⟨hfall, hlt⟩
  · rfl

/-- An event inside a slot that made its own changes, `u`, and then formed the ceiling again ends as R80, R84 and R112
say. -/
theorem State.Ready.settledTo {s u after : State} (hs : s.Ready) (hstore : u.store = s.store)
    (hceiling : u.feeder.ceiling = s.feeder.ceiling) (hidle : ∀ p, p ∉ u.active → (u.allocOf p).target = 0)
    (hafter : after = { u with
      feeder := { u.feeder with ceiling := u.formCeiling.value, cause := u.formCeiling.cause }
      alloc := u.reformedAlloc
      roundRequest := after.roundRequest
      ports := after.ports
      link := after.link }) :
    ∃ alloc, s.event after = .next { after with alloc := alloc } ∧
      s.SettledTo u { after with alloc := alloc } := by
  have hstore' : after.store = s.store := by rw [hafter]; exact hstore
  have hfeeder : after.feeder = { u.feeder with ceiling := u.formCeiling.value, cause := u.formCeiling.cause } := by
    rw [hafter]
  have hvalue : after.feeder.ceiling = u.formCeiling.value := by rw [hfeeder]
  have hpmin : after.feeder.pmin = u.feeder.pmin := by rw [hfeeder]
  have halloc : after.alloc = u.reformedAlloc := by rw [hafter]
  have hevent := hs.event_settled hstore'
  by_cases hcurtails : u.curtailsTo u.formCeiling.value
  · have hrecord : ∀ p, after.allocOf p = _ := fun p => by
      rw [State.allocOf, halloc, State.get_reformedAlloc_of_curtails hcurtails]
    have hsettled : after.releaseAttempt = after := State.releaseAttempt_eq_self fun p => by
      rw [hrecord]
      split
      · exact Nat.le_refl _
      · rename_i hoff
        exact (hidle p hoff).le.trans (Nat.zero_le _)
    refine ⟨after.alloc, by rw [hevent, hsettled, ite_self], ?_⟩
    unfold State.SettledTo
    dsimp only
    rw [hvalue, hpmin, if_pos hcurtails]
    intro p
    have hp : after.alloc.get p = _ := hrecord p
    rw [State.allocOf]
    dsimp only
    split
    · rename_i hin
      rw [hp, if_pos hin]
      rfl
    · rename_i hoff
      rw [hp, if_neg hoff]
      exact .inl rfl
  · rw [State.reformedAlloc_of_not_curtails hcurtails] at halloc hafter
    have hfell : exposureFell s after = true ↔ ∃ p, u.exposure p < s.exposure p := by
      rw [exposureFell_iff, hafter]
      rfl
    have hrelease : after.releaseAttempt.alloc = { u with feeder := after.feeder }.releaseAttempt.alloc := by
      rw [hfeeder, hafter]
      exact State.releaseAttempt_outside
        { u with feeder := { u.feeder with ceiling := u.formCeiling.value, cause := u.formCeiling.cause } } ..
    have hattempts : (exposureFell s after || decide (s.feeder.ceiling < after.feeder.ceiling)) = true ↔
        u.feeder.ceiling < after.feeder.ceiling ∨ ∃ p, u.exposure p < s.exposure p := by
      rw [Bool.or_eq_true, hfell, decide_eq_true_eq, hceiling, or_comm]
    refine ⟨if exposureFell s after || decide (s.feeder.ceiling < after.feeder.ceiling) then after.releaseAttempt.alloc
      else after.alloc, ?_, ?_⟩
    · rw [hevent]
      split
      · exact congrArg _ after.releaseAttempt_frame
      · rfl
    · unfold State.SettledTo
      dsimp only
      rw [if_neg (by rw [hvalue]; exact hcurtails)]
      by_cases h : u.feeder.ceiling < after.feeder.ceiling ∨ ∃ p, u.exposure p < s.exposure p
      · rw [if_pos h, if_pos (hattempts.mpr h), hrelease]
      · rw [if_neg h, if_neg (fun hc => h (hattempts.mp hc)), halloc]

end Sys2Proof.Machine
end

section
/-! PROOFS. The cap plan's requests (R118, R121, R122, R124, R125). -/

namespace Sys2Proof.Machine

/-! ### SET WINDOW (R118) -/

theorem orderOf_code (o : Order) : orderOf o.code = some o := by
  cases o <;> rfl

theorem orderOf_of_lt {b : Byte} (h : 1 < b.toNat) : orderOf b = none := by
  have h0 : b ≠ 0x00#8 := fun hb => by rw [hb] at h; exact absurd h (by decide)
  have h1 : b ≠ 0x01#8 := fun hb => by rw [hb] at h; exact absurd h (by decide)
  rw [orderOf, if_neg h0, if_neg h1]

/-- The bytes of a window in range give the window with its pointer at the first cell. -/
theorem windowOf_of_inRange {ls le cs ce : Byte} {w : Window} (hls : ls.toNat = w.lineStart.val)
    (hle : le.toNat = w.lineEnd.val) (hlines : w.lineStart ≤ w.lineEnd) (hcs : cs.toNat = w.colStart.val)
    (hce : ce.toNat = w.colEnd.val) (hline : w.line = w.lineStart) (hcol : w.col = w.colStart) :
    windowOf ls le cs ce w.order.code = some w := by
  have hrange : (le.toNat < 25 ∧ ls.toNat ≤ le.toNat) ∧ cs.toNat < 16 ∧ ce.toNat < 16 := by
    rw [hls, hle, hcs, hce]
    exact ⟨⟨w.lineEnd.isLt, hlines⟩, w.colStart.isLt, w.colEnd.isLt⟩
  obtain ⟨lineStart, lineEnd, colStart, colEnd, order, line, col⟩ := w
  dsimp only at hls hle hcs hce hline hcol
  rw [windowOf, orderOf_code]
  dsimp only
  rw [dif_pos hrange]
  simp only [hls, hle, hcs, hce, hline, hcol]

theorem windowOf_of_outOfRange {ls le cs ce order : Byte}
    (h : 24 < le.toNat ∨ le.toNat < ls.toNat ∨ 15 < cs.toNat ∨ 15 < ce.toNat ∨ 1 < order.toNat) :
    windowOf ls le cs ce order = none := by
  rw [windowOf]
  split
  · rfl
  · rename_i o ho
    refine dif_neg ?_
    have horder : ¬ 1 < order.toNat := fun hlt => by rw [orderOf_of_lt hlt] at ho; cases ho
    omega

/-! ### READ CELLS (R122) -/

/-- The cells read are those the pointer visits, and the pointer ends behind them. -/
theorem CapPlan.readCells_eq (c : CapPlan) (n : Nat) (w : Window) :
    c.readCells n w =
      ((List.range n).flatMap fun i => readCode (c.cell (Window.advance^[i] w).line (Window.advance^[i] w).col),
        Window.advance^[n] w) := by
  induction n generalizing w with
  | zero => rfl
  | succ n ih =>
    rw [CapPlan.readCells, ih, List.range_succ_eq_map, List.flatMap_cons, List.flatMap_map]
    rfl

/-! ### WRITE CELLS (R121, R124, R125) -/

/-- A plan with the same current column changes no cap. -/
theorem State.capUnder_of_column {s : State} {c : CapPlan}
    (h : ∀ line, c.cell line (columnOf s.timer.slot) = s.plan.cell line (columnOf s.timer.slot)) (p : Pad) :
    s.capUnder c p = s.capOf p :=
  State.capUnder_of_padCell (h (padLine p))

/-- Such a plan is handed on without any other change. -/
theorem State.handedOn_of_column {s : State} {c : CapPlan}
    (h : ∀ line, c.cell line (columnOf s.timer.slot) = s.plan.cell line (columnOf s.timer.slot)) :
    s.handedOn c padList = { s with plan := c } := by
  have hclamps : ∀ p, s.clampsUnder c p = false := fun p => by
    rw [State.clampsUnder, State.capUnder_of_column h, decide_eq_false (Nat.lt_irrefl _), Bool.and_false]
  have hrequests : s.requestsUnder c = fun _ => false := by
    funext p
    rw [State.requestsUnder, hclamps, State.capUnder_of_column h, decide_eq_false (Nat.lt_irrefl _)]
    rfl
  have halloc : (s.handedOn c padList).alloc = s.alloc := Table.ext_get fun p => by
    have hrecord := s.allocOf_handedOn c padList p
    rw [if_pos (mem_padList p), State.recordUnder, hclamps] at hrecord
    exact hrecord
  have hframe : s.handedOn c padList =
      { s with
        plan := c
        alloc := (s.handedOn c padList).alloc
        roundRequest := s.roundRequest || padList.any (s.requestsUnder c) } := rfl
  rw [hframe, halloc, hrequests]
  simp

theorem State.handOnCells_of_column {s : State} {c : CapPlan}
    (h : ∀ line, c.cell line (columnOf s.timer.slot) = s.plan.cell line (columnOf s.timer.slot)) :
    State.handOnCells s { s with plan := c } = { s with plan := c } := by
  rw [s.handOnCells_eq, State.handedOn_of_column h]
  exact if_pos (h 0)

/-- With the ceiling formed, a WRITE CELLS hands the pad cells on and forms the ceiling again, whether or not the feeder
cell changed. -/
theorem State.CeilingFormed.handOnCells {s : State} (h : s.CeilingFormed) (c : CapPlan) :
    State.handOnCells s { s with plan := c } = (s.handedOn c padList).reformInSlot := by
  rw [s.handOnCells_eq]
  split
  · rename_i hcell
    have hterm : (s.handedOn c padList).planTerm = s.planTerm := by
      unfold State.planTerm
      rw [hcell]
      rfl
    have hform : (s.handedOn c padList).formCeiling = s.formCeiling := by
      unfold State.formCeiling
      rw [hterm]
      rfl
    rw [State.reformInSlot]
    exact (if_pos (hform.trans h)).symm
  · rfl

/-! ### What WRITE CELLS leaves -/

/-- The state of a WRITE CELLS before the end of its event. -/
def State.cellsWritten (s : State) (codes : List Word16) : State :=
  ((s.handedOn (s.plan.writeCodes codes) padList).reformInSlot).answer .f .ok
    (byte codes.length :: (s.plan.writeCodes codes).window.pointerBytes)

/-- The state with the new plan handed on forms this ceiling. -/
def State.ceilingAfterCells (s : State) (codes : List Word16) : Term :=
  (s.handedOn (s.plan.writeCodes codes) padList).formCeiling

/-- Whether a WRITE CELLS changes the ceiling or its cause. -/
def State.cellsMoveCeiling (s : State) (codes : List Word16) : Bool :=
  decide ((s.ceilingAfterCells codes).value ≠ s.feeder.ceiling ∨ (s.ceilingAfterCells codes).cause ≠ s.feeder.cause)

theorem State.cellsWritten_frame (s : State) (codes : List Word16) :
    s.cellsWritten codes =
      { s with
        plan := s.plan.writeCodes codes
        alloc := (s.handedOn (s.plan.writeCodes codes) padList).reformedAlloc
        roundRequest :=
          (s.roundRequest || padList.any (s.requestsUnder (s.plan.writeCodes codes))) || s.cellsMoveCeiling codes
        feeder :=
          { s.feeder with
            ceiling := (s.ceilingAfterCells codes).value, cause := (s.ceilingAfterCells codes).cause }
        link :=
          { s.link with
            stopRequest := s.link.stopRequest ||
              (decide (0 < s.feeder.ceiling) && decide ((s.ceilingAfterCells codes).value = 0)) }
        ports := ({ s with
          ports := s.ports.enter (fun _ => false) (s.cellsMoveCeiling codes) }.answer .f .ok
            (byte codes.length :: (s.plan.writeCodes codes).window.pointerBytes)).ports } := by
  have hreform := State.reformInSlot_eq (s.handedOn (s.plan.writeCodes codes) padList)
  rw [State.cellsWritten, State.answer_frame, State.answer_ports_congr (t := { s with
    ports := s.ports.enter (fun _ => false) (s.cellsMoveCeiling codes) }) (by rw [hreform]; rfl), hreform]
  rfl

theorem exec_writeCells_event {s : State} {codes : List Word16} (h : s.handedRequest .f = some (.writeCells codes))
    (hformed : s.CeilingFormed) : exec .writeCells s = s.event (s.cellsWritten codes) := by
  change execWriteCells s = _
  rw [execWriteCells, h]
  dsimp only
  rw [hformed.handOnCells, State.cellsWritten]
  have hplan : (s.handedOn (s.plan.writeCodes codes) padList).reformInSlot.plan = s.plan.writeCodes codes := by
    rw [State.reformInSlot_frame]
    rfl
  rw [hplan]

/-- The records a clamp leaves are read alike whatever the round request is. -/
theorem State.SettledTo.of_roundRequest {before u t : State} {request : Bool} (h : before.SettledTo u t) :
    before.SettledTo { u with roundRequest := request } t := by
  have hrelease := State.releaseAttempt_outside { u with feeder := t.feeder } request u.ports u.link
  unfold State.SettledTo at h ⊢
  dsimp only at h ⊢
  rw [hrelease]
  exact h

theorem State.any_requestsUnder (s : State) (c : CapPlan) :
    padList.any (s.requestsUnder c) =
      (decide (∃ p, s.capOf p < s.capUnder c p) || decide (∃ p, p ∈ s.active ∧ s.capUnder c p < s.capOf p ∧
        clampLimit (s.capUnder c p) s.feeder.pmin < (s.allocOf p).setpoint)) := by
  rw [Bool.eq_iff_iff]
  simp only [State.requestsUnder, State.clampsUnder, List.any_eq_true, mem_padList, true_and, Bool.or_eq_true,
    Bool.and_eq_true, decide_eq_true_eq, and_assoc, exists_or]

/-- Forming the ceiling again leaves the acceptance limits. -/
theorem State.accept_reformedAlloc (u : State) (p : Pad) :
    (u.reformedAlloc.get p).accept = (u.allocOf p).accept := by
  by_cases h : u.curtailsTo u.formCeiling.value
  · rw [State.get_reformedAlloc_of_curtails h]
    split <;> rfl
  · rw [State.reformedAlloc_of_not_curtails h]
    rfl

/-- The end of an event releases raises. -/
theorem State.Ready.released_of_event {s after : State} {alloc : Table 24 AllocRec} (hs : s.Ready)
    (h : s.event after = .next { after with alloc := alloc }) (p : Pad) :
    (after.allocOf p).Released (alloc.get p) := by
  obtain ⟨hpowered, -⟩ := hs
  rw [State.event_of_powered hpowered] at h
  injection h with h
  have hrecord : (finishEvent s after).allocOf p = alloc.get p := by rw [h]; rfl
  rw [← hrecord]
  exact allocOf_finishEvent s after p

/-- After a WRITE CELLS each pad has the cap of the new plan. -/
theorem State.Ready.capOf_cellsWritten {s : State} {codes : List Word16} {alloc : Table 24 AllocRec} (hs : s.Ready)
    (h : s.event (s.cellsWritten codes) = .next { s.cellsWritten codes with alloc := alloc }) (p : Pad) :
    ({ s.cellsWritten codes with alloc := alloc } : State).capOf p = s.capUnder (s.plan.writeCodes codes) p := by
  obtain ⟨-, -, haccept⟩ := (hs.released_of_event h p).kept
  have hrecord : ((s.cellsWritten codes).allocOf p).accept =
      ((s.handedOn (s.plan.writeCodes codes) padList).allocOf p).accept := by
    rw [s.cellsWritten_frame]
    exact State.accept_reformedAlloc _ p
  rw [← s.capOf_handedOn _ padList p]
  refine State.capOf_congr ?_ ?_ ?_ (haccept.trans hrecord) <;> rw [s.cellsWritten_frame] <;> rfl

/-- An event that writes cells settles the records that the clamps left. -/
theorem State.Ready.cellsWritten_settled {s : State} (hs : s.Ready) (hidle : s.IdleOffList) (codes : List Word16) :
    ∃ alloc, s.event (s.cellsWritten codes) = .next { s.cellsWritten codes with alloc := alloc } ∧
      s.SettledTo (s.handedOn (s.plan.writeCodes codes) padList) { s.cellsWritten codes with alloc := alloc } := by
  refine hs.settledTo rfl rfl (fun p hp => ?_) ?_
  · have hoff : p ∉ s.active := hp
    obtain ⟨-, htarget, -⟩ := hidle p hoff
    rw [s.allocOf_handedOn, if_pos (mem_padList p), State.recordUnder, State.clampsUnder, decide_eq_false hoff,
      Bool.false_and]
    exact htarget
  · rw [s.cellsWritten_frame]
    rfl

/-- SET WINDOW in range, and out of it (R118). -/
theorem State.Ready.setWindow {s : State} (hs : s.Ready) {ls le cs ce order : Byte}
    (h : s.handedRequest .f = some (.setWindow ls le cs ce order)) :
    (∀ w, windowOf ls le cs ce order = some w → exec .setWindow s =
      .next ({ s with plan := { s.plan with window := w } }.answer .f .ok [ls, le, cs, ce, order])) ∧
      (windowOf ls le cs ce order = none → exec .setWindow s = .next (s.answer .f .range [])) := by
  refine ⟨fun w hw => ?_, fun hw => ?_⟩
  · change execSetWindow s = _
    rw [execSetWindow, h]
    dsimp only
    rw [hw]
    exact hs.event_answer .f .ok _ rfl rfl rfl
  · change execSetWindow s = _
    rw [execSetWindow, h]
    dsimp only
    rw [hw]
    exact hs.event_answer .f .range _ rfl rfl rfl

/-- READ CELLS in range, and out of it (R122). -/
theorem State.Ready.readCells {s : State} (hs : s.Ready) {count : Byte}
    (h : s.handedRequest .f = some (.readCells count)) :
    exec .readCells s =
      if 1 ≤ count.toNat ∧ count.toNat ≤ 16 then
        .next ({ s with plan := { s.plan with window := (s.plan.readCells count.toNat s.plan.window).2 } }.answer .f .ok
          ((s.plan.readCells count.toNat s.plan.window).1 ++
            (s.plan.readCells count.toNat s.plan.window).2.pointerBytes))
      else .next (s.answer .f .range []) := by
  change execReadCells s = _
  rw [execReadCells, h]
  dsimp only
  split
  · exact hs.event_answer .f .ok _ rfl rfl rfl
  · exact hs.event_answer .f .range _ rfl rfl rfl

/-- WRITE CELLS that leaves the current column (R121). -/
theorem State.Ready.writeCells_of_column {s : State} (hs : s.Ready) {codes : List Word16}
    (h : s.handedRequest .f = some (.writeCells codes))
    (hcolumn : ∀ line, (s.plan.writeCodes codes).cell line (columnOf s.timer.slot) =
      s.plan.cell line (columnOf s.timer.slot)) :
    exec .writeCells s = .next ({ s with plan := s.plan.writeCodes codes }.answer .f .ok
      (byte codes.length :: (s.plan.writeCodes codes).window.pointerBytes)) := by
  change execWriteCells s = _
  rw [execWriteCells, h]
  dsimp only
  rw [State.handOnCells_of_column hcolumn]
  exact hs.event_answer .f .ok _ rfl rfl rfl

/-- Settles O48: SET WINDOW and READ CELLS by their ranges, WRITE CELLS by the plan handed on in one expression and the
end of an event inside a slot. -/
theorem planRequestsTaken : Obligations.PlanRequestsTaken := by
  unfold Obligations.PlanRequestsTaken
  refine ⟨?window, ?windowRange, ?read, ?readRange, ?column, ?write⟩
  case window =>
    rintro ls le cs ce order w s hs h hls hle hlines hcs hce rfl hline hcol
    exact (hs.setWindow h).1 w (windowOf_of_inRange hls hle hlines hcs hce hline hcol)
  case windowRange =>
    intro ls le cs ce order s hs h hrange
    exact (hs.setWindow h).2 (windowOf_of_outOfRange hrange)
  case read =>
    intro count s hs h hlow hhigh
    rw [hs.readCells h, if_pos ⟨hlow, hhigh⟩, CapPlan.readCells_eq]
    rfl
  case readRange =>
    intro count s hs h hrange
    rw [hs.readCells h, if_neg (by omega)]
  case column =>
    intro codes s hs h hcolumn
    exact hs.writeCells_of_column h hcolumn
  case write =>
    intro codes cap lim w s hs hmem hheld hidle hcaps hformed h hcap hlim hw hrecords
    have hcapUnder : ∀ p, s.capUnder (s.plan.writeCodes codes) p = cap p := fun p => (hcap p).symm
    have hlimit : ∀ p, clampLimit (cap p) s.feeder.pmin = lim p := fun p => (hlim p).symm
    have hexec := exec_writeCells_event h hformed
    obtain ⟨alloc, hevent, hsettled⟩ := hs.cellsWritten_settled hidle codes
    have hw' : { s.handedOn (s.plan.writeCodes codes) padList with roundRequest := s.roundRequest } = w := by
      have halloc : (s.handedOn (s.plan.writeCodes codes) padList).alloc = w.alloc := Table.ext_get fun p => by
        have hrecord := s.allocOf_handedOn (s.plan.writeCodes codes) padList p
        rw [if_pos (mem_padList p), State.recordUnder, State.clampsUnder, hcapUnder, hlimit] at hrecord
        refine hrecord.trans (Eq.trans ?_ (hrecords p).symm)
        simp only [Bool.and_eq_true, decide_eq_true_eq]
      rw [hw, ← halloc]
      rfl
    refine ⟨_, hexec.trans hevent, fun p => (hs.capOf_cellsWritten hevent p).trans (hcapUnder p),
      hw' ▸ hsettled.of_roundRequest, ?_, ?_, ?_, ?_, ?_, ?_, ?_, ?_⟩
    · rw [s.cellsWritten_frame]
      simp only [State.any_requestsUnder, hcapUnder, hlimit, Bool.or_assoc]
      rfl
    · rw [s.cellsWritten_frame]
    · rw [s.cellsWritten_frame]
      rfl
    · rw [State.CeilingFormed, s.cellsWritten_frame]
      rfl
    · intro q
      have hq := (keepsFit q).execWriteCells (hexec.trans hevent) (hcaps.fitsAt hidle q)
      exact ⟨hq.setpoint_le, hq.target_le, hq.setpoint, hq.target⟩
    · rw [s.cellsWritten_frame]
      rfl
    · rw [s.cellsWritten_frame]
    · rw [s.cellsWritten_frame]

end Sys2Proof.Machine
end

section
/-! PROOFS. The allocator takes a report (R75, R76, R86, R145, R147), in one expression. -/

namespace Sys2Proof.Machine

/-! ### The pause (R145, R147) -/

/-- Whether a report of a pad pauses its ACTIVE session (R145). -/
def State.pausesOn (s : State) (p : Pad) (current : Bool) (state : ChargerState) : Bool :=
  current && decide (p ∈ s.active ∧ state = .softFault ∧ (s.allocOf p).paused = false)

/-- Whether a report of a pad ends the pause of its ACTIVE session (R147). -/
def State.unpausesOn (s : State) (p : Pad) (current : Bool) (state : ChargerState) : Bool :=
  current && decide (p ∈ s.active ∧ state ≠ .softFault ∧ (s.allocOf p).paused = true)

/-- A record with its pause started or ended. -/
def AllocRec.pausedBy (a : AllocRec) (pauses unpauses : Bool) : AllocRec :=
  { a with
    paused := (a.paused || pauses) && !unpauses
    setpoint := if pauses then 0 else a.setpoint
    target := if pauses then 0 else a.target }

/-- A record put back in its place. -/
theorem State.alloc_set_allocOf (s : State) (p : Pad) : s.alloc.set p (s.allocOf p) = s.alloc :=
  Table.set_get_self s.alloc p

theorem State.pauseBy_eq (s : State) (p : Pad) (current : Bool) (state : ChargerState) :
    s.pauseBy p current state =
      { s with
        alloc := s.alloc.set p ((s.allocOf p).pausedBy (s.pausesOn p current state) (s.unpausesOn p current state))
        roundRequest := s.roundRequest || s.unpausesOn p current state } := by
  have hsame : s.pausesOn p current state = false → s.unpausesOn p current state = false →
      s = { s with
        alloc := s.alloc.set p ((s.allocOf p).pausedBy (s.pausesOn p current state) (s.unpausesOn p current state))
        roundRequest := s.roundRequest || s.unpausesOn p current state } := fun hp hu => by
    rw [hp, hu, Bool.or_false]
    have hrecord : (s.allocOf p).pausedBy false false = s.allocOf p := by simp [AllocRec.pausedBy]
    rw [hrecord, s.alloc_set_allocOf]
  unfold State.pauseBy
  dsimp only
  split
  · rename_i hactive
    obtain ⟨hcurrent, hin⟩ := hactive
    split
    · rename_i hsoft
      split
      · rename_i hpaused
        exact hsame (by simp [State.pausesOn, hpaused]) (by simp [State.unpausesOn, hsoft])
      · rename_i hpaused
        have hp : s.pausesOn p current state = true := by simp [State.pausesOn, hcurrent, hin, hsoft, hpaused]
        have hu : s.unpausesOn p current state = false := by simp [State.unpausesOn, hsoft]
        rw [hp, hu, Bool.or_false]
        simp [State.setAlloc, AllocRec.pausedBy]
    · rename_i hsoft
      split
      · rename_i hpaused
        have hp : s.pausesOn p current state = false := by simp [State.pausesOn, hsoft]
        have hu : s.unpausesOn p current state = true := by simp [State.unpausesOn, hcurrent, hin, hsoft, hpaused]
        rw [hp, hu, Bool.or_true]
        simp [State.setAlloc, State.requestRound, AllocRec.pausedBy]
      · rename_i hpaused
        exact hsame (by simp [State.pausesOn, hsoft]) (by simp [State.unpausesOn, hpaused])
  · rename_i hactive
    refine hsame ?_ ?_
    · rw [State.pausesOn, Bool.and_eq_false_imp, decide_eq_false_iff_not]
      exact fun hcurrent ⟨hin, _⟩ => hactive ⟨hcurrent, hin⟩
    · rw [State.unpausesOn, Bool.and_eq_false_imp, decide_eq_false_iff_not]
      exact fun hcurrent ⟨hin, _⟩ => hactive ⟨hcurrent, hin⟩

/-! ### The cap (R86) -/

/-- A record with its target and setpoint brought to a limit, when there is one. -/
def AllocRec.limited (a : AllocRec) (limit : Option Nat) : AllocRec :=
  { a with target := limitBy a.target limit, setpoint := limitBy a.setpoint limit }

/-- The limit of step 5 of R75: of a pad that is ACTIVE, when a current report lowered its cap. -/
def State.capLimit (s : State) (p : Pad) (current : Bool) (oldCap : Nat) : Option Nat :=
  if current && decide (p ∈ s.active ∧ s.capOf p < oldCap) then some (clampLimit (s.capOf p) s.feeder.pmin) else none

theorem State.capStep_eq (s : State) (p : Pad) (current : Bool) (oldCap : Nat) :
    s.capStep p current oldCap =
      { s with
        alloc := s.alloc.set p ((s.allocOf p).limited (s.capLimit p current oldCap))
        roundRequest := (s.roundRequest || (current && decide (oldCap < s.capOf p))) ||
          (s.capLimit p current oldCap).any fun x => decide (x < (s.allocOf p).setpoint) } := by
  have hkeeps : s.capLimit p current oldCap = none →
      { s with
        alloc := s.alloc.set p ((s.allocOf p).limited (s.capLimit p current oldCap))
        roundRequest := (s.roundRequest || (current && decide (oldCap < s.capOf p))) ||
          (s.capLimit p current oldCap).any fun x => decide (x < (s.allocOf p).setpoint) } =
      { s with roundRequest := s.roundRequest || (current && decide (oldCap < s.capOf p)) } := fun hnone => by
    rw [hnone]
    have hrecord : (s.allocOf p).limited none = s.allocOf p := rfl
    rw [hrecord, s.alloc_set_allocOf, Option.any_none, Bool.or_false]
  unfold State.capStep
  cases current with
  | false => rw [hkeeps rfl, Bool.false_and, Bool.or_false]; rfl
  | true =>
    rw [if_pos rfl]
    split
    · rename_i hfall
      split
      · rename_i hin
        have hlimit : s.capLimit p true oldCap = some (clampLimit (s.capOf p) s.feeder.pmin) := by
          simp [State.capLimit, hin, hfall]
        rw [hlimit, decide_eq_false (Nat.lt_asymm hfall), Bool.and_false, Bool.or_false, Option.any_some]
        unfold State.clampPad
        dsimp only
        split
        · rename_i hlow
          rw [decide_eq_true hlow, Bool.or_true]
          rfl
        · rename_i hlow
          rw [decide_eq_false hlow, Bool.or_false]
          rfl
      · rename_i hoff
        rw [hkeeps (by simp [State.capLimit, hoff]), decide_eq_false (Nat.lt_asymm hfall), Bool.and_false,
          Bool.or_false]
    · rename_i hfall
      rw [hkeeps (by simp [State.capLimit, hfall]), Bool.true_and]
      split
      · rename_i hrise
        rw [decide_eq_true hrise, Bool.or_true]
        rfl
      · rename_i hrise
        rw [decide_eq_false hrise, Bool.or_false]

/-! ### The taking (R75) -/

/-- Whether the allocator takes a report in transit as current (R5). -/
def State.currentAt (s : State) (h : Handed) : Bool := (s.session h.pad).body.takesAsCurrent h.report.echo

/-- A pad's record after steps 1 to 4 of R75 and the pause, where the report does not reach the compliance limit. -/
def State.recordNoted (s : State) (h : Handed) : AllocRec :=
  ((s.allocOf h.pad).take h.report (s.currentAt h) (overdraws (s.currentAt h) (s.beforeOf h) h.report)
    (h.endsHold (s.linkOf h.pad).state) (h.countsHold (s.linkOf h.pad).state)).pausedBy
    (s.pausesOn h.pad (s.currentAt h) h.report.state) (s.unpausesOn h.pad (s.currentAt h) h.report.state)

/-- The state at step 5 of R75. -/
def State.reportNoted (s : State) (h : Handed) : State :=
  { s with
    alloc := s.alloc.set h.pad (s.recordNoted h)
    roundRequest := s.roundRequest || s.unpausesOn h.pad (s.currentAt h) h.report.state }

theorem State.allocOf_reportNoted_self (s : State) (h : Handed) : (s.reportNoted h).allocOf h.pad = s.recordNoted h :=
  Table.get_set_self ..

theorem AllocRec.take_paused (a : AllocRec) (r : Report) (current overdraw ends counts : Bool) :
    (a.take r current overdraw ends counts).paused = a.paused := by
  rw [AllocRec.take, AllocRec.takeMode_frame]

theorem State.takeAtAllocator_eq {s : State} {h : Handed} (hlimit : s.limitDue h = false) :
    s.takeAtAllocator h (s.beforeOf h) =
      ⟨(s.reportNoted h).capStep h.pad (s.currentAt h) (s.capOf h.pad), false⟩ := by
  unfold State.takeAtAllocator
  extract_lets p r current overdraw limit link s4 s4'
  have hlimit' : limit = false := hlimit
  have hs4' : s4' = s4 := by simp only [s4', hlimit', Bool.false_and, Bool.false_eq_true, if_false]
  have hrecord : s4.allocOf p =
      (s.allocOf p).take r current overdraw (h.endsHold link) (h.countsHold link) := by
    simp only [s4, State.allocOf_setAlloc_self, hlimit', Bool.not_false, Bool.and_true]
  have hpaused : (s4.allocOf p).paused = (s.allocOf p).paused := by rw [hrecord, AllocRec.take_paused]
  have hpauses : s4.pausesOn p current r.state = s.pausesOn p current r.state := by
    rw [State.pausesOn, hpaused]; rfl
  have hunpauses : s4.unpausesOn p current r.state = s.unpausesOn p current r.state := by
    rw [State.unpausesOn, hpaused]; rfl
  have hnoted : s4.pauseBy p current r.state = s.reportNoted h := by
    rw [State.pauseBy_eq, hpauses, hunpauses, hrecord]
    simp only [s4, State.setAlloc, Table.set_set]
    rfl
  rw [hs4', hnoted, hlimit']
  rfl

/-- The allocator takes a report that does not reach the compliance limit. -/
theorem State.allocatorTakes_eq {s : State} {h : Handed} {rest : List Handed} (hhanded : s.handed = h :: rest)
    (hby : h.byAllocator = false) (hlimit : s.limitDue h = false) :
    s.allocatorTakes =
      { (s.reportNoted h).capStep h.pad (s.currentAt h) (s.capOf h.pad) with
        handed := keepUntaken { h with byAllocator := true, before := some (s.beforeOf h), noncompliant := false }
          ++ rest } := by
  have hfirst : firstUntaken (·.byAllocator) s.handed = some ([], h, rest) := by
    simp [hhanded, firstUntaken, hby]
  unfold State.allocatorTakes
  rw [hfirst]
  dsimp only
  rw [State.takeAtAllocator_eq hlimit]
  rfl

/-- A release changes the setpoint alone, and that of a pending raise to its target (R79). -/
theorem AllocRec.Released.eq_setpoint {a b : AllocRec} (h : a.Released b) :
    b = { a with setpoint := b.setpoint } ∧
      (b.setpoint = a.setpoint ∨ (a.setpoint < a.target ∧ b.setpoint = a.target)) := by
  obtain rfl | ⟨hlt, rfl⟩ := h
  · exact ⟨rfl, .inl rfl⟩
  · exact ⟨rfl, .inr ⟨hlt, rfl⟩⟩

/-- The record at step 5 of R75, field by field. -/
theorem State.recordNoted_eq (s : State) (h : Handed) :
    s.recordNoted h =
      { s.allocOf h.pad with
        measured := h.report.measured
        accept := if s.currentAt h then h.report.accept else (s.allocOf h.pad).accept
        mode := (s.recordNoted h).mode
        compliance := if overdraws (s.currentAt h) (s.beforeOf h) h.report then
          (if (s.allocOf h.pad).atLimit (overdraws (s.currentAt h) (s.beforeOf h) h.report) then 0
          else (s.allocOf h.pad).compliance + 1) else 0
        paused := ((s.allocOf h.pad).paused || s.pausesOn h.pad (s.currentAt h) h.report.state) &&
          !s.unpausesOn h.pad (s.currentAt h) h.report.state
        setpoint := if s.pausesOn h.pad (s.currentAt h) h.report.state then 0 else (s.allocOf h.pad).setpoint
        target := if s.pausesOn h.pad (s.currentAt h) h.report.state then 0 else (s.allocOf h.pad).target } := by
  rw [State.recordNoted, AllocRec.take, AllocRec.takeMode_frame]
  rfl

theorem State.recordNoted_setpoint (s : State) (h : Handed) :
    (s.recordNoted h).setpoint =
      if s.pausesOn h.pad (s.currentAt h) h.report.state then 0 else (s.allocOf h.pad).setpoint := by
  rw [s.recordNoted_eq]

theorem State.recordNoted_target (s : State) (h : Handed) :
    (s.recordNoted h).target =
      if s.pausesOn h.pad (s.currentAt h) h.report.state then 0 else (s.allocOf h.pad).target := by
  rw [s.recordNoted_eq]

/-- The mode after a report: a hold ends at 3 kW or less, counts down, or stays (R71, R74, R141). -/
theorem State.recordNoted_mode (s : State) (h : Handed) :
    (s.recordNoted h).mode =
      match (s.allocOf h.pad).mode with
      | .start => .normal
      | .normal => .normal
      | .hold v k =>
        if decide ((s.linkOf h.pad).state = .up ∧ h.lostSince = false ∧ h.latched = false) = false then .hold v k
        else if h.report.measured ≤ 3 then .normal
        else if h.heldSince then .hold v k
        else if k ≤ 1 then .normal else .hold v (k - 1) := by
  have hends : decide ((s.linkOf h.pad).state = .up ∧ h.lostSince = false ∧ h.latched = false) =
      h.endsHold (s.linkOf h.pad).state := by
    rw [Handed.endsHold, Bool.decide_and, Bool.decide_and, Bool.and_assoc]
    cases h.lostSince <;> cases h.latched <;> rfl
  have htake : (s.recordNoted h).mode = _ := AllocRec.takeMode_mode ..
  rw [htake, hends, Handed.countsHold]
  dsimp only
  cases (s.allocOf h.pad).mode with
  | start => rfl
  | normal => rfl
  | hold v k => cases h.endsHold (s.linkOf h.pad).state <;> cases h.heldSince <;> simp

/-! ### What the taking leaves -/

/-- The new cap of a report's pad (R52). -/
def State.capNoted (s : State) (h : Handed) : Nat :=
  limitBy (limitBy (s.rating h.pad) (if s.currentAt h then h.report.accept else (s.allocOf h.pad).accept))
    (s.padCell h.pad)

/-- The limit of the clamp that a report makes, if it makes one (R75, R86). -/
def State.limitNoted (s : State) (h : Handed) : Option Nat :=
  if s.currentAt h && decide (h.pad ∈ s.active ∧ s.capNoted h < s.capOf h.pad) then
    some (if s.capNoted h < s.feeder.pmin then 0 else s.capNoted h)
  else none

theorem State.capOf_reportNoted (s : State) (h : Handed) : (s.reportNoted h).capOf h.pad = s.capNoted h := by
  rw [State.capOf, s.allocOf_reportNoted_self, s.recordNoted_eq]
  rfl

theorem State.capLimit_reportNoted (s : State) (h : Handed) :
    (s.reportNoted h).capLimit h.pad (s.currentAt h) (s.capOf h.pad) = s.limitNoted h := by
  rw [State.capLimit, s.capOf_reportNoted]
  rfl

/-- The allocator takes a report that does not reach the compliance limit, in one expression. -/
theorem State.allocatorTakes_frame {s : State} {h : Handed} {rest : List Handed} (hhanded : s.handed = h :: rest)
    (hby : h.byAllocator = false) (hlimit : s.limitDue h = false) :
    s.allocatorTakes =
      { s with
        alloc := s.alloc.set h.pad ((s.recordNoted h).limited (s.limitNoted h))
        roundRequest := ((s.roundRequest || s.unpausesOn h.pad (s.currentAt h) h.report.state) ||
          (s.currentAt h && decide (s.capOf h.pad < s.capNoted h))) ||
            (s.limitNoted h).any fun x => decide (x < (s.recordNoted h).setpoint)
        handed := keepUntaken { h with byAllocator := true, before := some (s.beforeOf h), noncompliant := false }
          ++ rest } := by
  rw [State.allocatorTakes_eq hhanded hby hlimit, State.capStep_eq, s.capLimit_reportNoted, s.capOf_reportNoted,
    s.allocOf_reportNoted_self]
  simp only [State.reportNoted, Table.set_set]

/-- A report that is not the sixth overdraw in a row does not reach the compliance limit (R77). -/
theorem State.limitDue_eq (s : State) (h : Handed) :
    s.limitDue h = ((s.currentAt h && decide ((s.beforeOf h).setpoint + 3 < h.report.measured)) &&
      decide (5 ≤ (s.allocOf h.pad).compliance)) := by
  have hcount : (6 ≤ (s.allocOf h.pad).compliance + 1) = (5 ≤ (s.allocOf h.pad).compliance) := by
    rw [Nat.succ_le_succ_iff]
  rw [State.limitDue, AllocRec.atLimit, overdraws]
  simp only [hcount]
  rfl

/-- Step 4 of R75 short of the limit. -/
theorem State.recordNoted_compliance {s : State} {h : Handed} (hlimit : s.limitDue h = false) :
    (s.recordNoted h).compliance =
      if s.currentAt h && decide ((s.beforeOf h).setpoint + 3 < h.report.measured) then
        (s.allocOf h.pad).compliance + 1 else 0 := by
  have hlimit' : (s.allocOf h.pad).atLimit (overdraws (s.currentAt h) (s.beforeOf h) h.report) = false := hlimit
  rw [s.recordNoted_eq]
  dsimp only
  rw [hlimit', if_neg Bool.false_ne_true]
  rfl

/-- The records that the taking leaves. -/
theorem State.allocOf_allocatorTakes {s : State} {h : Handed} {rest : List Handed} (hhanded : s.handed = h :: rest)
    (hby : h.byAllocator = false) (hlimit : s.limitDue h = false) (q : Pad) :
    s.allocatorTakes.allocOf q =
      if q = h.pad then (s.recordNoted h).limited (s.limitNoted h) else s.allocOf q := by
  rw [State.allocatorTakes_frame hhanded hby hlimit]
  exact Table.get_set ..

/-- The end of the event releases raises. -/
theorem State.Ready.allocatorReport {s : State} {h : Handed} {rest : List Handed} (hs : s.Ready)
    (hhanded : s.handed = h :: rest) (hby : h.byAllocator = false) (hlimit : s.limitDue h = false) :
    ∃ alloc, exec .allocatorReport s = .next { s.allocatorTakes with alloc := alloc } ∧
      ∀ q, (s.allocatorTakes.allocOf q).Released (alloc.get q) :=
  hs.event_released (after := s.allocatorTakes) (by rw [State.allocatorTakes_frame hhanded hby hlimit])

/-- A report that counts a hold to 0 makes DISTRUST_HOLD_EXPIRY and ALLOCATOR_REPORT one event (R74). -/
theorem exec_distrustHoldExpiry_of_holdEndsBy {s : State} {h : Handed} {rest : List Handed}
    (hhanded : s.handed = h :: rest) (hby : h.byAllocator = false) (hends : s.holdEndsBy h = true) :
    exec .distrustHoldExpiry s = exec .allocatorReport s := by
  have hfirst : firstUntaken (·.byAllocator) s.handed = some ([], h, rest) := by simp [hhanded, firstUntaken, hby]
  change execDistrustHoldExpiry s = execAllocatorReport s
  rw [execDistrustHoldExpiry, execAllocatorReport, hfirst]
  dsimp only
  rw [if_pos hends]

/-- Settles O36: the taking in one expression, with what the end of its event releases. -/
theorem allocatorReportTaken : Obligations.AllocatorReportTaken := by
  unfold Obligations.AllocatorReportTaken
  refine ⟨?taken, ?expiry⟩
  case taken =>
    rintro h rest current s ends pauses unpauses clamps cap limit setpoint target hs hhanded hby rfl hlimit rfl rfl rfl
      rfl rfl rfl rfl rfl
    have hdue : s.limitDue h = false := (s.limitDue_eq h).trans hlimit
    have hframe := State.allocatorTakes_frame hhanded hby hdue
    have hrecords := State.allocOf_allocatorTakes hhanded hby hdue
    have hnoted := s.recordNoted_eq h
    obtain ⟨alloc, hevent, hreleased⟩ := hs.allocatorReport hhanded hby hdue
    obtain ⟨hrecord, hsetpoint⟩ := (hreleased h.pad).eq_setpoint
    rw [hrecords, if_pos rfl] at hrecord hsetpoint
    refine ⟨_, hevent, ?measured, ?accept, ?cap, ?mode, ?compliance, ?paused, ?target, ?setpoint, ?request, ?ramp,
      ?starvation, ?other, ?handed, ?frame⟩
    case measured => change (alloc.get h.pad).measured = _; rw [hrecord, AllocRec.limited, hnoted]
    case accept => change (alloc.get h.pad).accept = _; rw [hrecord, AllocRec.limited, hnoted]; rfl
    case cap =>
      have haccept : (alloc.get h.pad).accept = (s.recordNoted h).accept := by rw [hrecord]; rfl
      have hcap : ({ s.allocatorTakes with alloc := alloc } : State).capOf h.pad = (s.reportNoted h).capOf h.pad := by
        refine State.capOf_congr ?_ ?_ ?_ (haccept.trans (by rw [s.allocOf_reportNoted_self])) <;> rw [hframe] <;> rfl
      exact hcap.trans (s.capOf_reportNoted h)
    case mode =>
      change (alloc.get h.pad).mode = _
      rw [hrecord]
      exact s.recordNoted_mode h
    case compliance =>
      change (alloc.get h.pad).compliance = _
      rw [hrecord]
      exact State.recordNoted_compliance hdue
    case paused => change (alloc.get h.pad).paused = _; rw [hrecord, AllocRec.limited, hnoted]; rfl
    case target => change (alloc.get h.pad).target = _; rw [hrecord, AllocRec.limited, hnoted]; rfl
    case setpoint =>
      rw [AllocRec.limited, s.recordNoted_setpoint, s.recordNoted_target] at hsetpoint
      exact hsetpoint
    case request =>
      rw [s.recordNoted_setpoint] at hframe
      rw [hframe]
      rfl
    case ramp => change (alloc.get h.pad).rampBase = _; rw [hrecord, AllocRec.limited, hnoted]
    case starvation => change (alloc.get h.pad).starvation = _; rw [hrecord, AllocRec.limited, hnoted]
    case other =>
      intro q hq
      have hq' := hreleased q
      rw [hrecords, if_neg hq] at hq'
      exact hq'
    case handed => rw [hframe]
    case frame => rw [hframe]
  case expiry =>
    intro h rest v k s hs hhanded hby hlost hheld hlatched hlink hcompliance hmode hk
    have hdue : s.limitDue h = false := by
      rw [s.limitDue_eq, decide_eq_false (Nat.not_le.mpr hcompliance), Bool.and_false]
    have hends : s.holdEndsBy h = true := by
      simp [State.holdEndsBy, AllocRec.lastPoll, hmode, hk, Handed.countsHold, Handed.endsHold, hlink, hlost, hheld,
        hlatched, hdue]
    obtain ⟨alloc, hevent, hreleased⟩ := hs.allocatorReport hhanded hby hdue
    obtain ⟨hrecord, -⟩ := (hreleased h.pad).eq_setpoint
    rw [State.allocOf_allocatorTakes hhanded hby hdue, if_pos rfl] at hrecord
    refine ⟨_, (exec_distrustHoldExpiry_of_holdEndsBy hhanded hby hends).trans hevent, hevent, ?_⟩
    change (alloc.get h.pad).mode = _
    rw [hrecord]
    change (s.recordNoted h).mode = _
    rw [s.recordNoted_mode, hmode]
    simp [hlink, hlost, hlatched, hheld, hk]

end Sys2Proof.Machine
end

section
/-! PROOFS. What only named events move, and setpoints that do not rise: the operations of the model, each said once in
these terms (R79, R81, R89, R129, R162, R163). -/

namespace Sys2Proof.Machine

/-! ### Steady changes -/

/-- What O17 says of: the commands that wait, the straps, the non-volatile cells, the slot number and the plan's cells.
-/
structure Standing where
  pending : List Instr
  feederMode : FeederMode
  fieldId : Byte
  cells : StoreImage
  slot : Word16
  plan : Table 25 (Table 16 (Option Nat))

def State.standing (s : State) : Standing :=
  ⟨s.pending, s.feederMode, s.fieldId, s.store.cells, s.timer.slot, s.plan.cells⟩

/-- A record whose setpoint and target did not rise. -/
structure AllocRec.Lowered (a b : AllocRec) : Prop where
  setpoint : b.setpoint ≤ a.setpoint
  target : b.target ≤ a.target

/-- A record with setpoint and target 0, as it stands off the active list (R33). -/
structure AllocRec.AtZero (a : AllocRec) : Prop where
  setpoint : a.setpoint = 0
  target : a.target = 0

theorem AllocRec.Lowered.refl (a : AllocRec) : a.Lowered a := ⟨Nat.le_refl _, Nat.le_refl _⟩

theorem AllocRec.Lowered.trans {a b c : AllocRec} (h : a.Lowered b) (h' : b.Lowered c) : a.Lowered c :=
  ⟨h'.setpoint.trans h.setpoint, h'.target.trans h.target⟩

theorem AllocRec.AtZero.of_lowered {a b : AllocRec} (ha : a.AtZero) (h : a.Lowered b) : b.AtZero :=
  ⟨Nat.le_zero.mp (h.setpoint.trans ha.setpoint.le), Nat.le_zero.mp (h.target.trans ha.target.le)⟩

theorem AllocRec.AtZero.lowered {b : AllocRec} (hb : b.AtZero) (a : AllocRec) : a.Lowered b :=
  ⟨hb.setpoint.le.trans (Nat.zero_le _), hb.target.le.trans (Nat.zero_le _)⟩

theorem AllocRec.idle_atZero (a : AllocRec) : a.idle.AtZero := ⟨rfl, rfl⟩

/-- The ceiling stays, no setpoint and no target rises, and a pad that left the active list has both 0. -/
structure State.Recedes (s t : State) : Prop where
  ceiling : t.feeder.ceiling = s.feeder.ceiling
  lowered : ∀ p, (s.allocOf p).Lowered (t.allocOf p)
  off : ∀ p, p ∉ t.active → p ∉ s.active ∨ (t.allocOf p).AtZero

/-- Besides, what only named events move stays. -/
structure State.Steady (s t : State) : Prop extends s.Recedes t where
  standing : t.standing = s.standing

theorem State.Recedes.trans {s t u : State} (h : s.Recedes t) (h' : t.Recedes u) : s.Recedes u where
  ceiling := h'.ceiling.trans h.ceiling
  lowered p := (h.lowered p).trans (h'.lowered p)
  off p hp := by
    obtain hoff | hzero := h'.off p hp
    · exact (h.off p hoff).imp_right fun hzero => hzero.of_lowered (h'.lowered p)
    · exact .inr hzero

theorem State.Recedes.of_same {s t : State} (hceiling : t.feeder.ceiling = s.feeder.ceiling)
    (halloc : t.alloc = s.alloc) (hactive : t.active = s.active) : s.Recedes t where
  ceiling := hceiling
  lowered p := by rw [State.allocOf, State.allocOf, halloc]; exact .refl _
  off p hp := .inl (hactive ▸ hp)

/-- Records change without a setpoint or target that rises. -/
theorem State.Recedes.of_alloc {s t : State} (hceiling : t.feeder.ceiling = s.feeder.ceiling)
    (hactive : t.active = s.active) (hlowered : ∀ p, (s.allocOf p).Lowered (t.allocOf p)) : s.Recedes t :=
  ⟨hceiling, hlowered, fun _ hp => .inl (hactive ▸ hp)⟩

namespace State.Steady

theorem refl (s : State) : s.Steady s := ⟨.of_same rfl rfl rfl, rfl⟩

theorem trans {s t u : State} (h : s.Steady t) (h' : t.Steady u) : s.Steady u :=
  ⟨h.toRecedes.trans h'.toRecedes, h'.standing.trans h.standing⟩

theorem ite {s t u : State} (c : Prop) [Decidable c] (ht : s.Steady t) (hu : s.Steady u) :
    s.Steady (if c then t else u) := by
  split
  · exact ht
  · exact hu

theorem foldl {f : State → Pad → State} (h : ∀ (s : State) (p : Pad), s.Steady (f s p)) (l : List Pad) (s : State) :
    s.Steady (l.foldl f s) := by
  induction l generalizing s with
  | nil => exact .refl s
  | cons p rest ih => exact (h s p).trans (ih (f s p))

/-- A change of other fields than those the relation reads. -/
theorem of_same {s t : State} (hstanding : t.standing = s.standing) (hceiling : t.feeder.ceiling = s.feeder.ceiling)
    (halloc : t.alloc = s.alloc) (hactive : t.active = s.active) : s.Steady t :=
  ⟨.of_same hceiling halloc hactive, hstanding⟩

/-- One record changes, and neither its setpoint nor its target rises. -/
theorem setAlloc (s : State) (p : Pad) {a : AllocRec} (ha : (s.allocOf p).Lowered a) :
    s.Steady (s.setAlloc p a) := by
  refine ⟨.of_alloc rfl rfl fun q => ?_, rfl⟩
  by_cases hq : q = p
  · subst hq
    rwa [State.allocOf_setAlloc_self]
  · rw [State.allocOf_setAlloc_ne _ _ _ hq]
    exact .refl _

/-- A pad that leaves the active list leaves it with setpoint and target 0 (R33, R39, R41). -/
theorem leaves {s t : State} (p : Pad) (hstanding : t.standing = s.standing)
    (hceiling : t.feeder.ceiling = s.feeder.ceiling) (hactive : t.active = s.active.erase p)
    (hself : (t.allocOf p).AtZero) (hne : ∀ q, q ≠ p → t.allocOf q = s.allocOf q) : s.Steady t := by
  refine ⟨⟨hceiling, fun q => ?_, fun q hq => ?_⟩, hstanding⟩
  · by_cases hqp : q = p
    · subst hqp; exact hself.lowered _
    · rw [hne q hqp]; exact .refl _
  · by_cases hqp : q = p
    · subst hqp; exact .inr hself
    · exact .inl fun hin => hq (hactive ▸ (List.mem_erase_of_ne hqp).mpr hin)

/-! ### Operations that change neither records nor collections -/

theorem answer (s : State) (port : Port) (status : Status) (body : List Byte) :
    s.Steady (s.answer port status body) := by
  rw [s.answer_frame]; exact .of_same rfl rfl rfl rfl

theorem answerAfter (s : State) (port : Port) (waits : List StoreWait) (status : Status) (body : List Byte) :
    s.Steady (s.answerAfter port waits status body) := by
  rw [s.answerAfter_frame]; exact .of_same rfl rfl rfl rfl

theorem setService (s : State) (v : ServiceState) : s.Steady (s.setService v) := by
  rw [s.setService_frame]; exact .of_same rfl rfl rfl rfl

theorem releaseHeld (s : State) (id : RecordId) : s.Steady (s.releaseHeld id) := by
  rw [State.releaseHeld]
  split
  · exact answerAfter ..
  · exact .refl s

theorem onPort (s : State) (port : Port) (f : PortRec → PortRec) : s.Steady (s.onPort port f) :=
  .of_same rfl rfl rfl rfl

theorem setSession (s : State) (p : Pad) (r : SessionRec) : s.Steady (s.setSession p r) := .of_same rfl rfl rfl rfl

theorem setBody (s : State) (p : Pad) (b : PadBody) : s.Steady (s.setBody p b) := .of_same rfl rfl rfl rfl

theorem enterPad (s : State) (p : Pad) : s.Steady (s.enterPad p) := .of_same rfl rfl rfl rfl

theorem offer (s : State) (p : Pad) : s.Steady (s.offer p) := .of_same rfl rfl rfl rfl

theorem requestRound (s : State) : s.Steady s.requestRound := .of_same rfl rfl rfl rfl

theorem takeLevel (s : State) (line : Line) : s.Steady (s.takeLevel line) := .of_same rfl rfl rfl rfl

/-- A change of the image leaves the cells until its write completes (R163). -/
theorem changeRecord (s : State) (p : Pad) (c : Content) : s.Steady (s.changeRecord p c) := by
  refine .of_same ?_ rfl rfl rfl
  have hcells : (s.store.change p c).cells = s.store.cells := by rw [Store.change_frame]
  exact congrArg (fun cells => { s.standing with cells := cells }) hcells

theorem beginWrite (s : State) : s.Steady s.beginWrite := by
  obtain ⟨-, hcells, -⟩ := s.store.beginWrite_frame
  exact .of_same (congrArg (fun cells => { s.standing with cells := cells }) hcells) rfl rfl rfl

/-- A gated request leaves what its act leaves, or refuses (R154). -/
theorem gated {s : State} {k : RequestKind} {act : State → State} (h : s.Steady (act s)) :
    s.Steady (s.gated k act) := by
  obtain he | ⟨u, status, rfl | rfl, he⟩ := s.gated_cases k act
  · rw [he]; exact h
  · rw [he]; exact .answer u ..
  · rw [he]; exact (setService s _).trans (.answer _ ..)

theorem gatedOn {s : State} {port : Port} {k : RequestKind} {act : State → State} (h : s.Steady (act s)) :
    s.Steady (s.gatedOn port k act) := by
  cases port
  case s => exact h.gated
  all_goals exact h

/-! ### Endings, latches and reports (R6, R22 to R25, R33, R75) -/

theorem leaveEligibility (s : State) (p : Pad) : s.Steady (s.leaveEligibility p) := by
  rw [s.leaveEligibility_frame]
  refine .leaves p rfl rfl rfl ?_ fun q hq => Table.get_set_ne _ _ hq
  rw [State.allocOf, Table.get_set_self]
  exact AllocRec.idle_atZero _

theorem closePad (s : State) (p : Pad) (ending : Ending) (body : PadBody) : s.Steady (s.closePad p ending body) :=
  (ite _ (leaveEligibility s p) (.refl s)).trans (setSession ..)

theorem faultPad (s : State) (p : Pad) : s.Steady (s.faultPad p) := by
  obtain h | ⟨h, -⟩ := s.faultPad_eq p
  · rw [h]; exact closePad ..
  · rw [h]; exact .refl s

theorem loseLink (s : State) (p : Pad) : s.Steady (s.loseLink p) := by
  obtain h | ⟨h, -⟩ := s.loseLink_eq p
  · rw [h]; exact closePad ..
  · rw [h]; exact .refl s

theorem startHold (s : State) (p : Pad) (value : Nat) : s.Steady (s.startHold p value) :=
  setAlloc s p ⟨Nat.le_refl _, Nat.le_refl _⟩

theorem latch (s : State) (p : Pad) (cause : FaultCause) (code tag : Option Nat) (value : Nat) :
    s.Steady (s.latch p cause code tag value) := by
  have hheld := (startHold s p value).trans (faultPad _ p)
  unfold State.latch
  dsimp only
  exact ite _ hheld ((hheld.trans (changeRecord ..)).trans (enterPad ..))

theorem reportTransition (s : State) (p : Pad) (r : Report) (lostSince : Bool) :
    s.Steady (s.reportTransition p r lostSince) := by
  have hset : ∀ b, s.Steady (s.setBody p b) := setBody s p
  have hclose : ∀ ending b, s.Steady (s.closePad p ending b) := closePad s p
  rw [State.reportTransition]
  split
  case h_1 => exact hset _
  case h_2 => exact ite _ (.refl s) (hset _)
  case h_3 =>
    split
    · exact hset _
    · exact ite _ (hset _) (hset _)
  case h_4 =>
    split
    · split
      · exact ite _ ((hset _).trans (offer ..)) (hclose ..)
      · exact .refl s
    · exact .refl s
  case h_5 => exact ite _ (hclose ..) (ite _ ((leaveEligibility s p).trans (setBody ..)) (.refl s))
  case h_6 => exact ite _ (hclose ..) (.refl s)
  case h_7 => exact ite _ (hclose ..) (ite _ (hclose ..) (.refl s))
  case h_8 =>
    split
    · exact hset _
    · exact ite _ (hset _) (hset _)
  case h_9 => exact .refl s
  case h_10 => exact .refl s

theorem takeAtSession (s : State) (h : Handed) (before : Before) : s.Steady (s.takeAtSession h before).state := by
  unfold State.takeAtSession
  extract_lets p r s1 body
  have haccount : s.Steady s1 := setBody ..
  split
  · exact haccount
  split
  · exact haccount.trans (latch ..)
  split
  · exact haccount.trans (latch ..)
  split
  · exact haccount.trans (latch ..)
  · exact (haccount.trans (setBody ..)).trans (reportTransition ..)

theorem sessionTakes (s : State) : s.Steady s.sessionTakes := by
  rw [State.sessionTakes]
  split
  · exact .refl s
  · extract_lets before taken t
    have htaken : s.Steady taken.state := takeAtSession ..
    have ht : s.Steady t := ite _ (htaken.trans (latch ..)) htaken
    exact ht.trans (of_same rfl rfl rfl rfl)

theorem clampPad (s : State) (p : Pad) : s.Steady (s.clampPad p) := by
  unfold State.clampPad
  extract_lets a limit t
  have ht : s.Steady t := setAlloc s p ⟨Nat.min_le_left .., Nat.min_le_left ..⟩
  exact ite _ (ht.trans (requestRound t)) ht

theorem pauseBy (s : State) (p : Pad) (current : Bool) (state : ChargerState) :
    s.Steady (s.pauseBy p current state) := by
  have hpaused : s.Steady (s.setAlloc p { s.allocOf p with paused := true, setpoint := 0, target := 0 }) :=
    setAlloc s p (AllocRec.AtZero.lowered ⟨rfl, rfl⟩ _)
  have hunpaused : s.Steady (s.setAlloc p { s.allocOf p with paused := false }) :=
    setAlloc s p ⟨Nat.le_refl _, Nat.le_refl _⟩
  exact ite _ (ite _ (ite _ (.refl s) hpaused) (ite _ (hunpaused.trans (requestRound _)) (.refl s))) (.refl s)

theorem capStep (s : State) (p : Pad) (current : Bool) (oldCap : Nat) : s.Steady (s.capStep p current oldCap) :=
  ite _ (ite _ (ite _ (clampPad s p) (.refl s)) (ite _ (requestRound s) (.refl s))) (.refl s)

theorem takeAtAllocator (s : State) (h : Handed) (before : Before) :
    s.Steady (s.takeAtAllocator h before).state := by
  unfold State.takeAtAllocator
  extract_lets p r current overdraw limit link s4 s4'
  obtain ⟨hset, htarget, -⟩ := (s.allocOf p).take_kept r current overdraw (h.endsHold link && !limit)
    (h.countsHold link && !limit)
  have hs4 : s.Steady s4 := setAlloc s p ⟨hset.le, htarget.le⟩
  have hs4' : s.Steady s4' := ite _ (hs4.trans (latch ..)) hs4
  exact (hs4'.trans (pauseBy ..)).trans (capStep ..)

theorem allocatorTakes (s : State) : s.Steady s.allocatorTakes := by
  rw [State.allocatorTakes]
  split
  · exact .refl s
  · exact (takeAtAllocator s ..).trans (of_same rfl rfl rfl rfl)

theorem pollReport (s : State) (p : Pad) (r : Report) : s.Steady (s.pollReport p r) := by
  unfold State.pollReport
  split <;> exact .of_same rfl rfl rfl rfl

theorem pollMiss (s : State) (p : Pad) : s.Steady (s.pollMiss p) := by
  unfold State.pollMiss
  extract_lets l t u misses
  split
  · have hu : s.Steady (u.setLink p { l with state := .lost, misses := 3 }) := .of_same rfl rfl rfl rfl
    exact ((hu.trans (startHold ..)).trans (loseLink ..)).trans (enterPad ..)
  · have ht : s.Steady (t.setLink p { l with misses := misses }) := .of_same rfl rfl rfl rfl
    obtain ⟨hset, htarget, -⟩ := (s.allocOf p).countHold_kept l.state
    exact ht.trans (setAlloc _ p ⟨hset.le, htarget.le⟩)

/-! ### The requests -/

theorem bindPad (s : State) (p : Pad) (tag : Nat) (terms : Terms) : s.Steady (s.bindPad p tag terms) := by
  rw [State.bindPad]
  dsimp only
  split
  · exact answer ..
  split
  · exact (setSession s p _).trans (answer ..)
  · exact ite _ (((setSession s p _).trans (offer ..)).trans (answer ..)) (answer ..)
  · exact answer ..

theorem requeueAmended (s : State) (p : Pad) (old new : Terms) : s.Steady (s.requeueAmended p old new) :=
  ite _ (.of_same rfl rfl rfl rfl) (.refl s)

theorem amendPad (s : State) (p : Pad) (terms : Terms) : s.Steady (s.amendPad p terms) := by
  rw [State.amendPad]
  split
  · exact (ite _ ((leaveEligibility s p).trans (setBody ..)) ((setBody ..).trans (requeueAmended ..))).trans (answer ..)
  · exact (ite _ (setBody s p _) ((setBody s p _).trans (offer ..))).trans (answer ..)
  · exact answer ..

theorem releasePad (s : State) (p : Pad) : s.Steady (s.releasePad p) := by
  rw [State.releasePad]
  split
  · exact ((leaveEligibility s p).trans (setBody ..)).trans (answer ..)
  · exact (setBody s p _).trans (answer ..)
  · exact (closePad s p _ _).trans (answer ..)
  all_goals exact answer ..

theorem lockPads (s : State) (base mask : Byte) : s.Steady (s.lockPads base mask) := by
  have hlock : ∀ (u : State) (p : Pad), u.Steady (u.lockPad p) := fun u p =>
    ((closePad u p _ _).trans (changeRecord ..)).trans (enterPad ..)
  exact ite _ ((foldl hlock _ s).trans (answerAfter ..)) (answer ..)

theorem unlockPads (s : State) (base mask : Byte) : s.Steady (s.unlockPads base mask) := by
  have hunlock : ∀ (u : State) (p : Pad), u.Steady (u.unlockPad p) := fun u p => by
    have hflag : u.Steady (u.changeRecord p (.lockout false)) := changeRecord ..
    have hcleared := ite ((u.faultOf p).isSome = true) (hflag.trans (changeRecord _ p (.fault none))) hflag
    exact (hcleared.trans (setBody ..)).trans (enterPad ..)
  exact ite _ ((foldl hunlock _ s).trans (answerAfter ..)) (answer ..)

theorem clearFault (s : State) (pad : Byte) : s.Steady (s.clearFault pad) := by
  rw [State.clearFault]
  split
  · exact answer ..
  · rename_i p _
    have hclear : s.Steady (s.clearFaultOf p) := ((changeRecord s p _).trans (setBody ..)).trans (enterPad ..)
    exact ite _ (hclear.trans (answerAfter ..)) (answer ..)

theorem setRating (s : State) (pad : Byte) (rating : Word16) : s.Steady (s.setRating pad rating) := by
  rw [State.setRating]
  split
  · exact answer ..
  · exact ite _ (ite _ (answer ..) ((changeRecord ..).trans (answerAfter ..))) (answer ..)

theorem openService (s : State) (field : Byte) : s.Steady (s.openService field) :=
  ite _ (answer ..) (ite _ (answer ..) ((setService ..).trans (answer ..)))

theorem confirmService (s : State) (field : Byte) : s.Steady (s.confirmService field) :=
  ite _ ((setService ..).trans (answer ..)) ((setService ..).trans (answer ..))

/-! ### Rounds (R34 to R41, R55, R66) -/

theorem toQueue (s : State) (p : Pad) : s.Steady (s.toQueue p) := by
  refine .leaves p rfl rfl rfl ?_ fun q hq => ?_
  · rw [s.allocOf_toQueue, if_pos rfl]; exact AllocRec.idle_atZero _
  · rw [s.allocOf_toQueue, if_neg hq]

theorem enlisted (s : State) (c : Pad) : s.Steady (s.enlisted c) := by
  refine ⟨⟨rfl, fun q => ?_, fun q hq => .inl fun hin => hq (List.mem_append_left _ hin)⟩, rfl⟩
  by_cases hq : q = c
  · subst hq; rw [s.allocOf_enlisted_self]; exact ⟨Nat.le_refl _, Nat.le_refl _⟩
  · rw [s.allocOf_enlisted_ne hq]; exact .refl _

/-- Step A of a round leaves setpoints and targets or sets them to 0. -/
theorem roundMembers (s : State) (boundary : Bool) : s.Steady (s.roundMembers boundary) := by
  have hfrom : s.Steady (s.roundFrom boundary) := by
    refine ⟨.of_alloc ?_ ?_ fun p => ?_, ?_⟩
    case refine_3 => rw [s.allocOf_roundFrom]; split <;> exact ⟨Nat.le_refl _, Nat.le_refl _⟩
    all_goals cases boundary <;> rfl
  exact State.admission_induction s.Steady hfrom fun u c gone hu _ _ _ =>
    (hu.trans (foldl toQueue gone u)).trans (enlisted _ c)

/-- What a boundary round does after its targets (R41, R66). -/
theorem roundReturned (s : State) : (s.roundTargets true).Steady s.roundReturned := by
  have hcounted : (s.roundTargets true).Steady (s.roundTargets true).countStarvation := by
    refine ⟨.of_alloc rfl rfl fun p => ?_, rfl⟩
    rw [State.countStarvation, State.allocOf_setAllocs]
    dsimp only
    split <;> exact ⟨Nat.le_refl _, Nat.le_refl _⟩
  exact hcounted.trans (foldl toQueue _ _)

end State.Steady
end Sys2Proof.Machine
end

section
/-! PROOFS. Every command but those that O17 names is a number of steady changes, raise releases, ceilings formed again and
mid-slot rounds: one walk over the commands, for every relation that these keep. -/

namespace Sys2Proof.Machine

/-- A relation between states that steady changes, raise release attempts (R79), the ceiling formed again inside a slot
(R112) and mid-slot rounds (R49) keep. -/
structure EventRel (R : State → State → Prop) : Prop where
  trans : ∀ {s t u : State}, R s t → R t u → R s u
  steady : ∀ {s t : State}, s.Steady t → R s t
  releases : ∀ s : State, R s s.releaseAttempt
  reforms : ∀ s : State, R s s.reformInSlot
  rounds : ∀ s : State, R s s.midSlotRound

/-- The commands that move the non-volatile cells, the slot number, the plan's cells or the straps (O17). -/
def movesStanding : Instr → Bool
  | .deviceReset .. | .storeWriteComplete | .powerLoss | .slotPhaseRise | .slotBoundary | .shedExpiry | .bindExpiry
  | .starvationReturn | .slotAlignActive | .setSlot | .writeCells => true
  | _ => false

namespace EventRel

variable {R : State → State → Prop} (hR : EventRel R)
include hR

theorem refl (s : State) : R s s := hR.steady (.refl s)

theorem then_steady {s t u : State} (h : R s t) (h' : t.Steady u) : R s u := hR.trans h (hR.steady h')

omit hR in
theorem ite {s t u : State} (c : Prop) [Decidable c] (ht : R s t) (hu : R s u) : R s (if c then t else u) := by
  split
  · exact ht
  · exact hu

/-- The end of an event may release raises and begins a store write (R80, R163). -/
theorem event {s after t : State} (h : R s after) (he : s.event after = .next t) : R s t := by
  cases hp : s.powered with
  | false => rw [State.event_of_unpowered hp] at he; cases he; exact hR.refl s
  | true =>
    rw [State.event_of_powered hp] at he
    cases he
    exact hR.then_steady (ite _ (hR.trans h (hR.releases after)) h) (.beginWrite _)

theorem event_steady {s after t : State} (h : s.Steady after) (he : s.event after = .next t) : R s t :=
  hR.event (hR.steady h) he

/-- Changes that leave the ceiling's terms unformed, and the ceiling then formed again (R106). -/
theorem reformed {s u : State} (h : s.Steady u) : R s u.reformInSlot := hR.trans (hR.steady h) (hR.reforms u)

/-! ### The commands -/

theorem execAtPort {s t : State} {port : Port} {f : PortRec → PortRec} (h : s.event (s.onPort port f) = .next t) :
    R s t :=
  hR.event_steady (.onPort ..) h

theorem execPing {port : Port} {s t : State} (h : execPing port s = .next t) : R s t := by
  refine hR.event_steady ?_ h
  split
  · exact .gatedOn (.answer ..)
  · exact .refl s

theorem execReadChanges {port : Port} {s t : State} (h : execReadChanges port s = .next t) : R s t := by
  refine hR.event_steady ?_ h
  split
  · exact .gatedOn ((State.Steady.answer ..).trans (.of_same rfl rfl rfl rfl))
  · exact .refl s

theorem execQueryPad {port : Port} {s t : State} (h : execQueryPad port s = .next t) : R s t := by
  refine hR.event_steady ?_ h
  split
  · refine .gatedOn ?_
    split <;> exact .answer ..
  · exact .refl s

theorem execQueryField {port : Port} {s t : State} (h : execQueryField port s = .next t) : R s t := by
  refine hR.event_steady ?_ h
  split
  · exact .gatedOn (.answer ..)
  · exact .refl s

theorem execBind {s t : State} (h : execBind s = .next t) : R s t := by
  refine hR.event_steady ?_ h
  split
  · split
    · exact .ite _ (.answer ..) (.bindPad ..)
    · exact .answer ..
  · exact .refl s

theorem execAmend {s t : State} (h : execAmend s = .next t) : R s t := by
  refine hR.event_steady ?_ h
  split
  · split
    · exact .amendPad ..
    · exact .answer ..
  · exact .refl s

theorem execRelease {s t : State} (h : execRelease s = .next t) : R s t := by
  refine hR.event_steady ?_ h
  split
  · split
    · exact .releasePad ..
    · exact .answer ..
  · exact .refl s

theorem execSetWindow {s t : State} (h : execSetWindow s = .next t) : R s t := by
  refine hR.event_steady ?_ h
  split
  · split
    · refine .trans ?_ (.answer ..)
      exact .of_same rfl rfl rfl rfl
    · exact .answer ..
  · exact .refl s

theorem execReadCells {s t : State} (h : execReadCells s = .next t) : R s t := by
  refine hR.event_steady ?_ h
  split
  · refine .ite _ (.trans ?_ (.answer ..)) (.answer ..)
    exact .of_same rfl rfl rfl rfl
  · exact .refl s

theorem takeLimits (s : State) (ramp pmin fallback tie : Nat) : R s (s.takeLimits ramp pmin fallback tie) := by
  unfold State.takeLimits
  extract_lets p feeder s1 s2
  have hs1 : s.Steady s1 := .of_same rfl rfl rfl rfl
  have hclamp : s1.Steady s1.minPowerClamp := by
    refine ⟨.of_alloc rfl rfl fun p => ?_, rfl⟩
    rw [State.minPowerClamp, State.allocOf_setAllocs]
    exact ⟨dropSmall_le .., dropSmall_le ..⟩
  exact hR.then_steady (hR.reformed (hs1.trans (.ite _ hclamp (.refl s1)))) (.requestRound _)

theorem execSetLimits {s t : State} (h : execSetLimits s = .next t) : R s t := by
  refine hR.event ?_ h
  split
  · exact hR.then_steady (hR.takeLimits s ..) (.answer ..)
  · exact hR.refl s

theorem execShed {s t : State} (h : execShed s = .next t) : R s t := by
  refine hR.event ?_ h
  split
  · refine hR.then_steady (hR.reformed ?_) (.answer ..)
    exact .of_same rfl rfl rfl rfl
  · exact hR.refl s

theorem execEndShed {s t : State} (h : execEndShed s = .next t) : R s t := by
  refine hR.event ?_ h
  split
  · refine hR.then_steady ?_ (.answer ..)
    rw [State.endShed]
    split
    · refine hR.reformed ?_
      exact .of_same rfl rfl rfl rfl
    · exact hR.refl s
  · exact hR.refl s

theorem execLockPads {s t : State} (h : execLockPads s = .next t) : R s t := by
  refine hR.event_steady ?_ h
  split
  · exact .gated (.lockPads ..)
  · exact .refl s

theorem execOpenService {s t : State} (h : execOpenService s = .next t) : R s t := by
  refine hR.event_steady ?_ h
  split
  · exact .gated (.openService ..)
  · exact .refl s

theorem execConfirmService {s t : State} (h : execConfirmService s = .next t) : R s t := by
  refine hR.event_steady ?_ h
  split
  · exact .gated (.confirmService ..)
  · exact .refl s

theorem execCloseService {s t : State} (h : execCloseService s = .next t) : R s t := by
  refine hR.event_steady ?_ h
  split
  · exact .gated ((State.Steady.setService ..).trans (.answer ..))
  · exact .refl s

theorem execUnlockPads {s t : State} (h : execUnlockPads s = .next t) : R s t := by
  refine hR.event_steady ?_ h
  split
  · exact .gated (.unlockPads ..)
  · exact .refl s

theorem execClearFault {s t : State} (h : execClearFault s = .next t) : R s t := by
  refine hR.event_steady ?_ h
  split
  · exact .gated (.clearFault ..)
  · exact .refl s

theorem execSetRating {s t : State} (h : execSetRating s = .next t) : R s t := by
  refine hR.event_steady ?_ h
  split
  · exact .gated (.setRating ..)
  · exact .refl s

theorem execReadFault {s t : State} (h : execReadFault s = .next t) : R s t := by
  refine hR.event_steady ?_ h
  split
  · refine .gated ?_
    split <;> exact .answer ..
  · exact .refl s

theorem execPollSlotStart {s t : State} (h : execPollSlotStart s = .next t) : R s t := by
  refine hR.event_steady ?_ h
  split
  · exact .refl s
  · exact .of_same rfl rfl rfl rfl

theorem execBroadcastStop {s t : State} (h : execBroadcastStop s = .next t) : R s t := by
  refine hR.event_steady (.ite _ ?_ (.refl s)) h
  exact .of_same rfl rfl rfl rfl

theorem execPollReport {reply : List Byte} {s t : State} (h : execPollReport reply s = .next t) : R s t := by
  refine hR.event_steady ?_ h
  split
  · exact .refl s
  · dsimp only
    split
    · exact .pollReport ..
    · exact .of_same rfl rfl rfl rfl

theorem execPollMiss {s t : State} (h : execPollMiss s = .next t) : R s t := by
  refine hR.event_steady ?_ h
  split
  · exact .pollMiss ..
  · exact .refl s

theorem execLinkLoss {s t : State} (h : execLinkLoss s = .next t) : R s t := by
  refine hR.event_steady ?_ h
  split
  · exact .ite _ (.pollMiss ..) (.refl s)
  · exact .refl s

theorem execSoftPersistLatch {s t : State} (h : execSoftPersistLatch s = .next t) : R s t := by
  refine hR.event_steady ?_ h
  split
  · exact .ite _ (.sessionTakes s) (.refl s)
  · exact .refl s

theorem execNoncompliantLatch {s t : State} (h : execNoncompliantLatch s = .next t) : R s t :=
  hR.event_steady (.ite _ (.allocatorTakes s) (.ite _ (.sessionTakes s) (.refl s))) h

theorem execDistrustHoldExpiry {s t : State} (h : execDistrustHoldExpiry s = .next t) : R s t := by
  refine hR.event_steady (.ite _ (.allocatorTakes s) (.ite _ ?_ (.refl s))) h
  split
  · exact .pollMiss ..
  · exact .refl s

theorem execSlotAlignRelease {s t : State} (h : execSlotAlignRelease s = .next t) : R s t := by
  refine hR.event_steady (.ite _ (.refl s) (.ite _ ?_ (.takeLevel ..))) h
  exact .of_same rfl rfl rfl rfl

theorem supplyLineSettles {s t : State} {line : Line} (h : s.event (s.supplyLineSettles line) = .next t) : R s t := by
  refine hR.event (ite _ (hR.reformed ?_) (hR.steady (.takeLevel ..))) h
  exact .of_same rfl rfl rfl rfl

theorem execHeadroomGivenChange {s t : State} (h : execHeadroomGivenChange s = .next t) : R s t := by
  have htake : R s (s.takeLevel .headroomGiven) := hR.steady (.takeLevel ..)
  exact hR.event (ite _ (hR.trans htake (hR.releases _)) htake) h

theorem execSvcKeyChange {s t : State} (h : execSvcKeyChange s = .next t) : R s t := by
  have htake : s.Steady (s.takeLevel .svcKey) := .takeLevel ..
  exact hR.event_steady (.ite _ (htake.trans (.setService ..)) htake) h

theorem execPortBreak {port : Port} {s t : State} (h : execPortBreak port s = .next t) : R s t := by
  have hport : s.Steady (s.onPort port PortRec.broken) := .onPort ..
  exact hR.event_steady (.ite _ (.refl s) (.ite _ (hport.trans (.setService ..)) hport)) h

/-- Every command that moves nothing standing keeps the relation. -/
theorem exec {c : Instr} {s t : State} (hc : movesStanding c = false) (h : exec c s = .next t) : R s t := by
  cases c
  case frameReceived => exact hR.execAtPort h
  case frameSilenceDrop => exact hR.execAtPort h
  case frameOverrunDrop => exact hR.execAtPort h
  case answerSent => exact hR.execAtPort h
  case portBreak => exact hR.execPortBreak h
  case ping => exact hR.execPing h
  case readChanges => exact hR.execReadChanges h
  case queryPad => exact hR.execQueryPad h
  case queryField => exact hR.execQueryField h
  case bind => exact hR.execBind h
  case amend => exact hR.execAmend h
  case release => exact hR.execRelease h
  case setWindow => exact hR.execSetWindow h
  case readCells => exact hR.execReadCells h
  case setLimits => exact hR.execSetLimits h
  case shed => exact hR.execShed h
  case endShed => exact hR.execEndShed h
  case lockPads => exact hR.execLockPads h
  case openService => exact hR.execOpenService h
  case confirmService => exact hR.execConfirmService h
  case closeService => exact hR.execCloseService h
  case unlockPads => exact hR.execUnlockPads h
  case clearFault => exact hR.execClearFault h
  case setRating => exact hR.execSetRating h
  case readFault => exact hR.execReadFault h
  case pollSlotStart => exact hR.execPollSlotStart h
  case pollReport => exact hR.execPollReport h
  case pollMiss => exact hR.execPollMiss h
  case linkLoss => exact hR.execLinkLoss h
  case sessionReport => exact hR.event_steady (.sessionTakes s) h
  case softPersistLatch => exact hR.execSoftPersistLatch h
  case allocatorReport => exact hR.event_steady (.allocatorTakes s) h
  case noncompliantLatch => exact hR.execNoncompliantLatch h
  case distrustHoldExpiry => exact hR.execDistrustHoldExpiry h
  case broadcastStop => exact hR.execBroadcastStop h
  case midSlotRound => exact hR.event (ite _ (hR.rounds s) (hR.refl s)) h
  case slotAlignRelease => exact hR.execSlotAlignRelease h
  case fldEnableChange => exact hR.supplyLineSettles h
  case sourceLineChange => exact hR.supplyLineSettles h
  case headroomGivenChange => exact hR.execHeadroomGivenChange h
  case svcKeyChange => exact hR.execSvcKeyChange h
  case openExpiry => exact hR.event_steady (.ite _ (.setService ..) (.refl s)) h
  case rawLevelChange => cases h; exact hR.steady (.of_same rfl rfl rfl rfl)
  case openingMarkerReceived => exact hR.execAtPort h
  case breakLineReturnsHigh => exact hR.execAtPort h
  case busyAnswerSent => exact hR.execAtPort h
  all_goals cases hc

end EventRel

end Sys2Proof.Machine
end

section
/-! PROOFS. The events that move what stands (R81, R89, R129, R162), and the sum of the setpoints under the ceiling (R79). -/

namespace Sys2Proof.Machine

/-! ### What stands -/

theorem State.standing_releaseAttempt (s : State) : s.releaseAttempt.standing = s.standing := by
  rw [s.releaseAttempt_frame]; rfl

theorem State.standing_reformInSlot (s : State) : s.reformInSlot.standing = s.standing := by
  rw [s.reformInSlot_frame]; rfl

/-- Any part of what stands, the same in two states, is a relation for the walk over the commands. -/
theorem standingRel {α : Type} (part : Standing → α) : EventRel fun s t => part t.standing = part s.standing where
  trans h h' := h'.trans h
  steady h := congrArg part h.standing
  releases s := congrArg part s.standing_releaseAttempt
  reforms s := congrArg part s.standing_reformInSlot
  rounds s := by
    rw [State.midSlotRound, State.standing_releaseAttempt, s.roundTargets_frame]; rfl

/-- What stands through a boundary and a SET SLOT too: neither slot number nor plan. -/
def Standing.fixed (x : Standing) : List Instr × FeederMode × Byte × StoreImage :=
  (x.pending, x.feederMode, x.fieldId, x.cells)

theorem State.fixed_takeBoundary (s : State) : s.takeBoundary.standing.fixed = s.standing.fixed := by
  rw [State.takeBoundary, State.boundaryRound_eq_releaseAttempt, State.standing_releaseAttempt, State.roundReturned_frame,
    s.boundaryStages_frame]
  rfl

theorem State.fixed_align (s : State) : s.align.standing.fixed = s.standing.fixed := by
  have hheld : ∀ u : State, ({ u with timer := { u.timer with phase := 0, mode := .held } } : State).standing =
      u.standing := fun _ => rfl
  unfold State.align
  dsimp only
  rw [hheld]
  split
  · exact s.fixed_takeBoundary
  · rfl

theorem State.fixed_takeSlot (s : State) (n : Word16) : (s.takeSlot n).standing.fixed = s.standing.fixed :=
  (congrArg Standing.fixed (State.standing_reformInSlot _)).trans rfl

/-- A WRITE CELLS keeps the slot number too. -/
theorem State.standing_handOnCells (s : State) (c : CapPlan) :
    (State.handOnCells s { s with plan := c }).standing = { s.standing with plan := c.cells } := by
  rw [s.handOnCells_eq]
  split
  · rfl
  · rw [State.standing_reformInSlot]; rfl

/-- The commands that O17 names: rows that end in `fixed` below, and four with a frame of their own. -/
def fixedRows : List Instr :=
  [.slotPhaseRise, .slotBoundary, .shedExpiry, .bindExpiry, .starvationReturn, .slotAlignActive, .setSlot]

theorem mem_of_movesStanding {c : Instr} (hc : movesStanding c = true) :
    c ∈ fixedRows ∨ c = .writeCells ∨ c = .storeWriteComplete ∨ c = .powerLoss ∨
      ∃ strap id, c = .deviceReset strap id := by
  cases c <;> simp_all [movesStanding, fixedRows]

/-- The rows that are a boundary, and SLOT_ALIGN_ACTIVE and SET_SLOT. -/
theorem exec_fixed {c : Instr} {s t : State} (hc : c ∈ fixedRows) (h : exec c s = .next t) :
    t.standing.fixed = s.standing.fixed := by
  have hevent : ∀ {after : State}, after.standing.fixed = s.standing.fixed → s.event after = .next t →
      t.standing.fixed = s.standing.fixed := (standingRel Standing.fixed).event
  have hboundary : ∀ (b : Prop) [Decidable b],
      (if b then s.takeBoundary else s).standing.fixed = s.standing.fixed := fun b _ => by
    split
    · exact s.fixed_takeBoundary
    · rfl
  simp only [fixedRows, List.mem_cons, List.not_mem_nil, or_false] at hc
  obtain rfl | rfl | rfl | rfl | rfl | rfl | rfl := hc
  · refine hevent ?_ h
    split
    · split
      · exact s.fixed_takeBoundary
      · rfl
    · rfl
  · exact hevent (hboundary _) h
  · refine hevent ?_ h
    split
    · exact hboundary _
    · rfl
  · exact hevent (hboundary _) h
  · exact hevent (hboundary _) h
  · refine hevent ?_ h
    split
    · exact (s.takeLevel .slotAlign).fixed_align
    · rfl
  · refine hevent ?_ h
    split
    · rw [(State.Steady.answer ..).standing, State.fixed_takeSlot]
    · rfl

theorem exec_writeCells_standing {s t : State} (h : exec .writeCells s = .next t) :
    { t.standing with plan := s.plan.cells } = s.standing := by
  refine (standingRel fun x => { x with plan := s.plan.cells }).event ?_ h
  split
  · dsimp only
    rw [(State.Steady.answer ..).standing, State.standing_handOnCells]
  · rfl

/-- The two events that change the cells and nothing else that stands. -/
theorem exec_storeWriteComplete_standing {s t : State} (h : exec .storeWriteComplete s = .next t) :
    { t.standing with cells := s.store.cells } = s.standing := by
  refine (standingRel fun x => { x with cells := s.store.cells }).event ?_ h
  split
  · rw [(State.Steady.releaseHeld ..).standing]
    rfl
  · rfl

theorem exec_powerLoss_standing {s t : State} (h : exec .powerLoss s = .next t) :
    { t.standing with cells := s.store.cells } = s.standing := by
  cases h
  split <;> rfl

/-- Settles O17: by the walk over the commands, and for the rows it names by what each of them keeps. -/
theorem onlyNamedEventsMove : Obligations.OnlyNamedEventsMove := by
  unfold Obligations.OnlyNamedEventsMove
  intro c s t h
  cases hc : movesStanding c with
  | false =>
    have hkept : t.standing = s.standing := (standingRel id).exec hc h
    obtain ⟨hpending, hmode, hid, hcells, hslot, hplan⟩ := Standing.mk.inj hkept
    exact ⟨hpending, fun _ => ⟨hmode, hid⟩, fun _ _ _ => hcells, fun _ _ => ⟨hslot, fun _ => hplan⟩⟩
  | true =>
    obtain hfixed | rfl | rfl | rfl | ⟨strap, id, rfl⟩ := mem_of_movesStanding hc
    · have hkept := exec_fixed hfixed h
      simp only [Standing.fixed, Prod.mk.injEq] at hkept
      obtain ⟨hpending, hmode, hid, hcells⟩ := hkept
      exact ⟨hpending, fun _ => ⟨hmode, hid⟩, fun _ _ _ => hcells, fun _ hc => absurd hfixed hc⟩
    · obtain ⟨hpending, hmode, hid, hcells, hslot, -⟩ := Standing.mk.inj (exec_writeCells_standing h)
      exact ⟨hpending, fun _ => ⟨hmode, hid⟩, fun _ _ _ => hcells, fun _ _ => ⟨hslot, fun hc => absurd rfl hc⟩⟩
    · obtain ⟨hpending, hmode, hid, -, hslot, hplan⟩ := Standing.mk.inj (exec_storeWriteComplete_standing h)
      exact ⟨hpending, fun _ => ⟨hmode, hid⟩, fun _ hc => absurd rfl hc, fun _ _ => ⟨hslot, fun _ => hplan⟩⟩
    · obtain ⟨hpending, hmode, hid, -, hslot, hplan⟩ := Standing.mk.inj (exec_powerLoss_standing h)
      exact ⟨hpending, fun _ => ⟨hmode, hid⟩, fun _ _ hc => absurd rfl hc, fun _ _ => ⟨hslot, fun _ => hplan⟩⟩
    · cases h
      exact ⟨rfl, fun hc => absurd rfl (hc strap id), fun hc => absurd rfl (hc strap id),
        fun hc => absurd rfl (hc strap id)⟩

end Sys2Proof.Machine
end

section
/-! PROOFS. The sum of the setpoints stays under the effective ceiling (R79, R84, R65). -/

namespace Sys2Proof.Machine

/-- Pads off the active list are at 0, and the setpoints sum to no more than the ceiling (R33, R79). -/
structure State.Covered (s : State) : Prop where
  off : ∀ p, p ∉ s.active → (s.allocOf p).AtZero
  under : s.SetpointsUnderCeiling

/-- A sum over all pads is one pad's part and that of the other 23. -/
theorem sumOver_padList_eq_add (f : Pad → Nat) (p : Pad) :
    sumOver padList f = f p + sumOver (padList.filter fun q => decide (q ≠ p)) f := by
  have hone : padList.filter (fun q => decide (q = p)) = [p] := by
    rw [show (fun q => decide (q = p)) = (· == p) from rfl, List.filter_beq,
      List.count_eq_one_of_mem padList_nodup (mem_padList p)]
    rfl
  have hsplit := sumOver_filter_add padList (fun q => decide (q = p)) f
  rw [hone] at hsplit
  simpa using hsplit.symm

/-- The exposure of a pad is at least its setpoint, whatever the mode (R70). -/
theorem State.setpoint_le_exposure (s : State) (p : Pad) : (s.allocOf p).setpoint ≤ s.exposure p := by
  rw [State.exposure, AllocRec.exposure]
  split
  · exact Nat.le_max_right ..
  · exact Nat.le_max_left ..
  · exact (Nat.le_max_left ..).trans (Nat.le_max_right ..)

/-- Shares of a budget, each rounded down, come to no more than the budget (R84). -/
theorem sumOver_share_le (l : List Pad) (f : Pad → Nat) (budget : Nat) :
    sumOver l (fun p => f p * budget / sumOver l f) ≤ budget := by
  have hscaled : ∀ (m : List Pad) (total : Nat),
      sumOver m (fun p => f p * budget / total) ≤ sumOver m f * budget / total := fun m total => by
    induction m with
    | nil => simp
    | cons p m ih =>
      rw [sumOver_cons, sumOver_cons, Nat.add_mul]
      exact (Nat.add_le_add_left ih _).trans Nat.div_add_div_le_add_div
  exact (hscaled l (sumOver l f)).trans (Nat.div_le_of_le_mul (Nat.le_refl _))

namespace State.Covered

variable {s t : State}

theorem of_recedes (hs : s.Covered) (h : s.Recedes t) : t.Covered where
  off p hp := (h.off p hp).elim (fun hoff => (hs.off p hoff).of_lowered (h.lowered p)) id
  under := by
    rw [State.SetpointsUnderCeiling, h.ceiling]
    exact (sumOver_le_sumOver fun p _ => (h.lowered p).setpoint).trans hs.under

/-- The setpoints of the active pads are all there is. -/
theorem sumOver_activePads (hoff : ∀ p, p ∉ s.active → (s.allocOf p).AtZero) :
    sumOver padList (fun p => (s.allocOf p).setpoint) = sumOver s.activePads fun p => (s.allocOf p).setpoint := by
  have hsplit := sumOver_filter_add padList (fun p => decide (p ∈ s.active)) fun p => (s.allocOf p).setpoint
  have hzero : sumOver (padList.filter fun p => !decide (p ∈ s.active)) (fun p => (s.allocOf p).setpoint) =
      sumOver (padList.filter fun p => !decide (p ∈ s.active)) fun _ => 0 := sumOver_congr fun p hp => by
    have hp' : p ∉ s.active := by simpa using List.of_mem_filter hp
    exact (hoff p hp').setpoint
  have hnone : sumOver (padList.filter fun p => !decide (p ∈ s.active)) (fun _ => 0) = 0 := by simp [sumOver]
  rw [hzero, hnone] at hsplit
  exact hsplit.symm

/-! ### Raise releases (R79) -/

/-- A raise that fits beside the other pads' exposures fits beside their setpoints. -/
theorem releaseRaise (hs : s.Covered) {p : Pad} (hp : p ∈ s.active)
    (hfits : s.othersExposure p + (s.allocOf p).target ≤ s.feeder.ceiling) : (s.releaseRaise p).Covered where
  off q hq := by
    have hne : q ≠ p := fun h => hq (h ▸ hp)
    rw [State.allocOf_releaseRaise_ne _ _ hne]
    exact hs.off q hq
  under := by
    have hself : ((s.releaseRaise p).allocOf p).setpoint = (s.allocOf p).target := by
      rw [State.releaseRaise, State.allocOf_setAlloc_self]
    have hothers : sumOver (padList.filter fun q => decide (q ≠ p)) (fun q => ((s.releaseRaise p).allocOf q).setpoint) ≤
        s.othersExposure p := sumOver_le_sumOver fun q hq => by
      rw [State.allocOf_releaseRaise_ne _ _ (by simpa using List.of_mem_filter hq)]
      exact s.setpoint_le_exposure q
    rw [State.SetpointsUnderCeiling, sumOver_padList_eq_add _ p, hself]
    change _ ≤ s.feeder.ceiling
    omega

theorem releaseFrom (hs : s.Covered) {pads : List Pad} (hpads : ∀ p ∈ pads, p ∈ s.active) :
    (s.releaseFrom pads).Covered := by
  induction pads generalizing s with
  | nil => exact hs
  | cons p rest ih =>
    rw [State.releaseFrom]
    split
    · rename_i hfits
      exact ih (hs.releaseRaise (hpads p List.mem_cons_self) hfits) fun q hq => hpads q (.tail _ hq)
    · exact hs

theorem releaseAttempt (hs : s.Covered) : s.releaseAttempt.Covered := by
  rw [State.releaseAttempt]
  split
  · refine hs.releaseFrom fun p hp => ?_
    by_contra hoff
    have hraise := State.pendingRaise_of_mem_raiseOrder hp
    rw [(hs.off p hoff).target] at hraise
    exact Nat.not_lt_zero _ hraise
  · exact hs

/-! ### The ceiling formed again inside a slot (R84, R112) -/

/-- A curtailment shares out no more than the budget. -/
theorem reformInSlot (hs : s.Covered) : s.reformInSlot.Covered := by
  obtain ⟨hoff, hunder⟩ := hs
  rw [State.SetpointsUnderCeiling, sumOver_activePads hoff] at hunder
  have hframe := s.reformInSlot_eq
  have hrecord : ∀ p, s.reformInSlot.allocOf p = s.reformedAlloc.get p := fun p => by rw [hframe]; rfl
  have hactive : s.reformInSlot.active = s.active := by rw [hframe]
  have hpads : s.reformInSlot.activePads = s.activePads := by rw [hframe]; rfl
  have hceiling : s.reformInSlot.feeder.ceiling = s.formCeiling.value := by rw [hframe]
  by_cases hcurtails : s.curtailsTo s.formCeiling.value
  · have hget : ∀ p, s.reformInSlot.allocOf p = _ := fun p =>
      (hrecord p).trans (State.get_reformedAlloc_of_curtails hcurtails p)
    have hzero : ∀ p, p ∉ s.reformInSlot.active → (s.reformInSlot.allocOf p).AtZero := fun p hp => by
      rw [hactive] at hp
      rw [hget, if_neg hp]
      exact hoff p hp
    refine ⟨hzero, ?_⟩
    rw [State.SetpointsUnderCeiling, sumOver_activePads hzero, hpads, hceiling]
    refine (sumOver_le_sumOver fun p hp => ?_).trans ((sumOver_share_le s.activePads
      (fun p => (s.allocOf p).setpoint) (s.formCeiling.value - s.offListExposure)).trans (Nat.sub_le ..))
    rw [hget, if_pos (State.mem_activePads.mp hp)]
    exact dropSmall_le ..
  · have hsame : ∀ p, s.reformInSlot.allocOf p = s.allocOf p := fun p => by
      rw [hrecord, State.reformedAlloc_of_not_curtails hcurtails]; rfl
    have hzero : ∀ p, p ∉ s.reformInSlot.active → (s.reformInSlot.allocOf p).AtZero := fun p hp => by
      rw [hsame]; exact hoff p (hactive ▸ hp)
    refine ⟨hzero, ?_⟩
    rw [State.SetpointsUnderCeiling, sumOver_activePads hzero, hpads, hceiling,
      sumOver_congr fun p _ => congrArg AllocRec.setpoint (hsame p)]
    obtain hfall | hrise := Nat.lt_or_ge s.formCeiling.value s.feeder.ceiling
    · exact (Nat.not_lt.mp fun hlt => hcurtails ⟨hfall, hlt⟩).trans (Nat.sub_le ..)
    · exact hunder.trans hrise

/-! ### Rounds (R63, R65) -/

/-- A round brings the setpoints under the ceiling, whatever they were: none is above its target, and the targets share out
the budget. -/
theorem roundTargets (hoff : ∀ p, p ∉ s.active → (s.allocOf p).AtZero) (boundary : Bool) :
    (s.roundTargets boundary).Covered := by
  have hmembers : ∀ p, p ∉ (s.roundMembers boundary).active → ((s.roundMembers boundary).allocOf p).AtZero :=
    fun p hp => (((State.Steady.roundMembers s boundary).off p hp).elim
      (fun h => (hoff p h).of_lowered ((State.Steady.roundMembers s boundary).lowered p)) id)
  have hzero : ∀ p, p ∉ (s.roundTargets boundary).active → ((s.roundTargets boundary).allocOf p).AtZero :=
    fun p hp => by
      rw [s.active_roundTargets] at hp
      rw [s.allocOf_targets, if_neg hp]
      exact ⟨(hmembers p hp).setpoint, rfl⟩
  have hle : ∀ p, ((s.roundTargets boundary).allocOf p).setpoint ≤ ((s.roundTargets boundary).allocOf p).target :=
    fun p => by
      by_cases hp : p ∈ (s.roundTargets boundary).active
      · obtain ⟨-, htarget⟩ := s.setpoint_roundTargets_le boundary p
        exact htarget hp
      · rw [(hzero p hp).setpoint]; exact Nat.zero_le _
  have hceiling : (s.roundTargets boundary).feeder.ceiling = s.feeder.ceiling := by rw [s.roundTargets_frame]
  refine ⟨hzero, ?_⟩
  rw [State.SetpointsUnderCeiling, hceiling]
  exact (sumOver_le_sumOver fun p _ => hle p).trans
    ((s.sumOver_target_roundTargets_le boundary).trans (Nat.sub_le ..))

theorem takeBoundary (hs : s.Covered) : s.takeBoundary.Covered := by
  have hstages : ∀ p, p ∉ s.boundaryStages.active → (s.boundaryStages.allocOf p).AtZero := by
    rw [s.boundaryStages_frame]
    exact hs.off
  rw [State.takeBoundary, State.boundaryRound_eq_releaseAttempt]
  exact ((roundTargets hstages true).of_recedes (State.Steady.roundReturned _).toRecedes).releaseAttempt

/-! ### Every step -/

theorem eventRel : EventRel fun s t => s.Covered → t.Covered where
  trans h h' hs := h' (h hs)
  steady h hs := hs.of_recedes h.toRecedes
  releases _ hs := hs.releaseAttempt
  reforms _ hs := hs.reformInSlot
  rounds _ hs := (roundTargets hs.off false).releaseAttempt

theorem align (hs : s.Covered) : s.align.Covered := by
  have hheld : ∀ u : State, u.Covered →
      ({ u with timer := { u.timer with phase := 0, mode := .held } } : State).Covered := fun _ hu => ⟨hu.off, hu.under⟩
  refine hheld _ ?_
  split
  · exact hs.takeBoundary
  · exact hs

/-- A new cap plan clamps some setpoints and leaves the others (R124). -/
theorem handedOn (hs : s.Covered) (c : CapPlan) (pads : List Pad) : (s.handedOn c pads).Covered := by
  refine hs.of_recedes (.of_alloc rfl rfl fun p => ?_)
  rw [s.allocOf_handedOn]
  split
  · unfold State.recordUnder
    dsimp only
    split
    · exact ⟨Nat.min_le_left .., Nat.min_le_left ..⟩
    · exact .refl _
  · exact .refl _

theorem handOnCells (hs : s.Covered) (c : CapPlan) : (State.handOnCells s { s with plan := c }).Covered := by
  rw [s.handOnCells_eq]
  split
  · exact hs.handedOn ..
  · exact (hs.handedOn ..).reformInSlot

theorem answer (hs : s.Covered) (port : Port) (status : Status) (body : List Byte) :
    (s.answer port status body).Covered :=
  hs.of_recedes (State.Steady.answer ..).toRecedes

/-- The rows that are a boundary, and SLOT_ALIGN_ACTIVE and SET_SLOT. -/
theorem exec_fixedRows (hs : s.Covered) {c : Instr} (hc : c ∈ fixedRows) (h : exec c s = .next t) : t.Covered := by
  have hevent : ∀ {after : State}, after.Covered → s.event after = .next t → t.Covered := fun ha he =>
    eventRel.event (fun _ => ha) he hs
  have hboundary : ∀ (b : Prop) [Decidable b], (if b then s.takeBoundary else s).Covered := fun b _ => by
    split
    · exact hs.takeBoundary
    · exact hs
  simp only [fixedRows, List.mem_cons, List.not_mem_nil, or_false] at hc
  obtain rfl | rfl | rfl | rfl | rfl | rfl | rfl := hc
  · refine hevent ?_ h
    split
    · split
      · exact hs.takeBoundary
      · exact ⟨hs.off, hs.under⟩
    · exact hs
  · exact hevent (hboundary _) h
  · refine hevent ?_ h
    split
    · exact hboundary _
    · exact hs
  · exact hevent (hboundary _) h
  · exact hevent (hboundary _) h
  · refine hevent ?_ h
    split
    · exact (hs.of_recedes (State.Steady.takeLevel ..).toRecedes).align
    · exact hs
  · refine hevent ?_ h
    split
    · refine answer (of_recedes (reformInSlot ?_) (State.Steady.requestRound _).toRecedes) ..
      exact ⟨hs.off, hs.under⟩
    · exact hs

/-- Every command keeps the law. -/
theorem exec (hs : s.Covered) {c : Instr} (h : exec c s = .next t) : t.Covered := by
  cases hc : movesStanding c with
  | false => exact eventRel.exec hc h hs
  | true =>
    obtain hfixed | rfl | rfl | rfl | ⟨strap, id, rfl⟩ := mem_of_movesStanding hc
    · exact hs.exec_fixedRows hfixed h
    · refine eventRel.event (fun _ => ?_) h hs
      split
      · exact (hs.handOnCells _).answer ..
      · exact hs
    · refine eventRel.event (fun _ => ?_) h hs
      split
      · refine of_recedes ?_ (State.Steady.releaseHeld ..).toRecedes
        exact ⟨hs.off, hs.under⟩
      · exact hs
    · cases h
      split
      · exact ⟨hs.off, hs.under⟩
      · exact hs
    · cases h
      have hzero : ∀ p, ((State.afterReset s.pending s.lines (if strap then .shared else .dedicated) id s.cutCells
          s.drawsAfterCut).allocOf p).AtZero := fun p => by
        rw [State.allocOf_afterReset]; exact ⟨rfl, rfl⟩
      refine ⟨fun p _ => hzero p, ?_⟩
      rw [State.SetpointsUnderCeiling, sumOver_congr fun p _ => (hzero p).setpoint]
      simp [sumOver]

end State.Covered

/-- Settles O7: releases fit beside the other exposures, a fall of the ceiling curtails or meets a round, and nothing else
raises a setpoint. -/
theorem setpointsUnderCeilingKept : Obligations.SetpointsUnderCeilingKept := by
  unfold Obligations.SetpointsUnderCeilingKept
  intro s t _ hidle hunder hstep
  have hs : s.Covered := ⟨fun p hp => by
    obtain ⟨hsetpoint, htarget, -⟩ := hidle p hp
    exact ⟨hsetpoint, htarget⟩, hunder⟩
  unfold step at hstep
  split at hstep
  · cases hstep; exact hunder
  · rename_i rest _
    have hrest : ({ s with pending := rest } : State).Covered := ⟨hs.off, hs.under⟩
    exact (hrest.exec hstep).under

end Sys2Proof.Machine
end

section
/-! PROOFS. The order of the pending raises, and which of them an attempt releases (R79, R82, R83). -/

namespace Sys2Proof.Machine

/-! ### The raise order (R79) -/

theorem State.mem_raiseOrder {s : State} {p : Pad} : p ∈ s.raiseOrder ↔ (s.allocOf p).setpoint < (s.allocOf p).target := by
  simp [State.raiseOrder, AllocRec.pendingRaise]

theorem classList_pairwise : classList.Pairwise (· < ·) := by decide

/-- Pads by class: ascending in class, and within a class in the order of the list. -/
theorem State.pairwise_byClass (s : State) {pads : List Pad} (hpads : pads.Pairwise (· < ·)) :
    (s.byClass pads).Pairwise fun a b => s.classOf a < s.classOf b ∨ (s.classOf a = s.classOf b ∧ a < b) := by
  rw [State.byClass, List.pairwise_flatMap]
  refine ⟨fun k _ => ?_, classList_pairwise.imp fun {j k} hjk a ha b hb => .inl ?_⟩
  · refine (hpads.filter _).imp_of_mem fun {a b} ha hb hlt => .inr ⟨?_, hlt⟩
    have ha' : s.classOf a = k := by simpa using List.of_mem_filter ha
    have hb' : s.classOf b = k := by simpa using List.of_mem_filter hb
    rw [ha', hb']
  · have ha' : s.classOf a = j := by simpa using List.of_mem_filter ha
    have hb' : s.classOf b = k := by simpa using List.of_mem_filter hb
    rwa [ha', hb']

theorem State.pairwise_raiseOrder (s : State) :
    s.raiseOrder.Pairwise fun a b => s.classOf a < s.classOf b ∨ (s.classOf a = s.classOf b ∧ a < b) :=
  s.pairwise_byClass ((List.pairwise_lt_finRange 24).filter _)

/-! ### Raises released one by one (R79) -/

theorem State.allocOf_foldl_releaseRaise (s : State) (pads : List Pad) (q : Pad) :
    (pads.foldl State.releaseRaise s).allocOf q =
      if q ∈ pads then { s.allocOf q with setpoint := (s.allocOf q).target } else s.allocOf q := by
  induction pads generalizing s with
  | nil => rfl
  | cons p rest ih =>
    rw [List.foldl_cons, ih]
    by_cases hqp : q = p
    · subst hqp
      simp
    · rw [State.allocOf_releaseRaise_ne _ _ hqp]
      simp [hqp]

/-- A release changes no target. -/
theorem State.target_releaseRaise (s : State) (p q : Pad) :
    ((s.releaseRaise p).allocOf q).target = (s.allocOf q).target := by
  have h := s.allocOf_foldl_releaseRaise [p] q
  rw [List.foldl_cons, List.foldl_nil] at h
  rw [h]
  split <;> rfl

/-- An attempt over a list of raises splits it: the raises released, each of which fitted when its turn came, and those that
wait, of which the first does not fit. -/
structure State.ReleasesUpTo (s : State) (pads released waiting : List Pad) : Prop where
  split : pads = released ++ waiting
  result : s.releaseFrom pads = released.foldl State.releaseRaise s
  fits : ∀ pre p post, released = pre ++ p :: post →
    (pre.foldl State.releaseRaise s).othersExposure p + (s.allocOf p).target ≤ s.feeder.ceiling
  stops : ∀ p ∈ waiting.head?, s.feeder.ceiling < (s.releaseFrom pads).othersExposure p + (s.allocOf p).target

theorem State.releaseFrom_releasesUpTo (s : State) (pads : List Pad) :
    ∃ released waiting, s.ReleasesUpTo pads released waiting := by
  induction pads generalizing s with
  | nil => exact ⟨[], [], rfl, rfl, fun pre p post h => by simp at h, nofun⟩
  | cons p rest ih =>
    by_cases hfits : s.othersExposure p + (s.allocOf p).target ≤ s.feeder.ceiling
    · obtain ⟨released, waiting, hsplit, hresult, hall, hstops⟩ := ih (s.releaseRaise p)
      have hstep : s.releaseFrom (p :: rest) = (s.releaseRaise p).releaseFrom rest := if_pos hfits
      refine ⟨p :: released, waiting, by rw [hsplit]; rfl, hstep.trans hresult, fun pre q post h => ?_, fun q hq => ?_⟩
      · cases pre with
        | nil => cases h; exact hfits
        | cons r pre =>
          cases h
          rw [← s.target_releaseRaise p q]
          exact hall pre q post rfl
      · rw [hstep, ← s.target_releaseRaise p q]
        exact hstops q hq
    · have hstep : s.releaseFrom (p :: rest) = s := if_neg hfits
      refine ⟨[], p :: rest, rfl, hstep, fun pre q post h => by simp at h, ?_⟩
      rintro q ⟨⟩
      rw [hstep]
      exact Nat.not_le.mp hfits

/-- Settles O45: the order is that of the lists it is made of, and the attempt is an induction along it. -/
theorem raiseReleaseOrder : Obligations.RaiseReleaseOrder := by
  unfold Obligations.RaiseReleaseOrder
  refine ⟨fun s p => ⟨s.mem_raiseOrder, s.pairwise_raiseOrder⟩, fun s => ⟨?wanted, ?headroom⟩, fun s h => ?closed,
    fun s h => ?opened⟩
  case wanted => simp [State.raiseWanted, AllocRec.pendingRaise]
  case headroom => cases hmode : s.feederMode <;> simp [State.headroomOk, hmode]
  case closed => rw [State.releaseAttempt, h, if_neg Bool.false_ne_true]
  case opened =>
    have hattempt : s.releaseAttempt = s.releaseFrom s.raiseOrder := if_pos h
    obtain ⟨released, waiting, hsplit, hresult, hfits, hstops⟩ := s.releaseFrom_releasesUpTo s.raiseOrder
    have hrecord := s.allocOf_foldl_releaseRaise released
    rw [← hresult, ← hattempt] at hrecord
    exact ⟨released, waiting, hsplit, hattempt.trans hresult, hfits, fun p hp => by rw [hrecord, if_pos hp],
      fun p hp => by rw [hrecord, if_neg hp], hattempt ▸ hstops, s.releaseAttempt_frame⟩

end Sys2Proof.Machine
end

section
/-! PROOFS. An event inside a slot that forms the ceiling again (R106, R112): what it leaves, whatever the records off the
active list hold. -/

namespace Sys2Proof.Machine

/-! ### What a raise release attempt reads (R79, R83) -/

/-- A raise release attempt reads records, sessions, the store, the ceiling and the headroom condition. -/
theorem State.releaseAttempt_congr {s t : State} (halloc : t.alloc = s.alloc) (hsessions : t.sessions = s.sessions)
    (hstore : t.store = s.store) (hceiling : t.feeder.ceiling = s.feeder.ceiling) (hmode : t.feederMode = s.feederMode)
    (hlevel : t.level .headroomGiven = s.level .headroomGiven) : t.releaseAttempt.alloc = s.releaseAttempt.alloc := by
  have hfrom : ∀ (pads : List Pad) (s t : State), t.alloc = s.alloc → t.store = s.store →
      t.feeder.ceiling = s.feeder.ceiling → (t.releaseFrom pads).alloc = (s.releaseFrom pads).alloc := fun pads => by
    induction pads with
    | nil => exact fun _ _ halloc _ _ => halloc
    | cons p rest ih =>
      intro s t halloc hstore hceiling
      have hrecord : t.allocOf p = s.allocOf p := by rw [State.allocOf, halloc]; rfl
      have hexposure : t.exposure = s.exposure := funext fun q => by
        simp only [State.exposure, State.allocOf, State.rating, halloc, hstore]
      rw [State.releaseFrom, State.releaseFrom, State.othersExposure, State.othersExposure, hexposure, hrecord, hceiling]
      split
      · refine ih _ _ ?_ hstore hceiling
        rw [State.releaseRaise, State.releaseRaise, State.setAlloc, State.setAlloc, halloc, hrecord]
      · exact halloc
  have horder : t.raiseOrder = s.raiseOrder := by
    have hclass : t.classOf = s.classOf := funext fun q => by simp only [State.classOf, State.session, hsessions]
    simp only [State.raiseOrder, State.byClass, State.allocOf, halloc, hclass]
  have hheadroom : t.headroomOk = s.headroomOk := by rw [State.headroomOk, State.headroomOk, hmode, hlevel]
  rw [State.releaseAttempt, State.releaseAttempt, hheadroom, horder]
  split
  · exact hfrom _ s t halloc hstore hceiling
  · exact halloc

/-! ### The end of an event that formed the ceiling again -/

/-- Forming the ceiling again leaves a record, or gives its setpoint and target one value, 0 or at least P_min (R84). -/
theorem State.reformedAlloc_cases (u : State) (p : Pad) :
    u.reformedAlloc.get p = u.allocOf p ∨
      ∃ x, AtLeastPmin u.feeder.pmin x ∧ u.reformedAlloc.get p = { u.allocOf p with setpoint := x, target := x } := by
  by_cases h : u.curtailsTo u.formCeiling.value
  · rw [State.get_reformedAlloc_of_curtails h]
    split
    · exact .inr ⟨_, curtailed_eq_zero_or .., rfl⟩
    · exact .inl rfl
  · rw [State.reformedAlloc_of_not_curtails h]
    exact .inl rfl

/-- An event inside a slot that made its own changes, `u`, and then formed the ceiling again ends as R80, R84 and R112 say,
and each of its records may have been released besides. -/
theorem State.Ready.settles {s u after : State} (hs : s.Ready) (hstore : u.store = s.store)
    (hceiling : u.feeder.ceiling = s.feeder.ceiling)
    (hafter : after = { u.reformInSlot with roundRequest := after.roundRequest, ports := after.ports }) :
    ∃ alloc, s.event after = .next { after with alloc := alloc } ∧ s.SettledTo u { after with alloc := alloc } ∧
      ∀ p, (u.reformedAlloc.get p).Released (alloc.get p) := by
  rw [u.reformInSlot_eq] at hafter
  have halloc : after.alloc = u.reformedAlloc := by rw [hafter]
  have hvalue : after.feeder.ceiling = u.formCeiling.value := by rw [hafter]
  have hpmin : after.feeder.pmin = u.feeder.pmin := by rw [hafter]
  have hattempts : (exposureFell s after || decide (s.feeder.ceiling < after.feeder.ceiling)) = true ↔
      u.feeder.ceiling < u.formCeiling.value ∨ ∃ p, after.exposure p < s.exposure p := by
    rw [Bool.or_eq_true, exposureFell_iff, decide_eq_true_eq, hceiling, hvalue, or_comm]
  have hevent := hs.event_settled (after := after) (by rw [hafter]; exact hstore)
  refine ⟨if exposureFell s after || decide (s.feeder.ceiling < after.feeder.ceiling) then after.releaseAttempt.alloc
    else after.alloc, ?_, ?_⟩
  · rw [hevent]
    split
    · exact congrArg _ after.releaseAttempt_frame
    · rfl
  generalize hfinal : (if exposureFell s after || decide (s.feeder.ceiling < after.feeder.ceiling) then
    after.releaseAttempt.alloc else after.alloc) = alloc
  have hreleased : ∀ p, (u.reformedAlloc.get p).Released (alloc.get p) := fun p => by
    rw [← hfinal, ← halloc]
    split
    · exact after.allocOf_releaseAttempt p
    · exact .inl rfl
  refine ⟨?_, hreleased⟩
  unfold State.SettledTo
  dsimp only
  rw [hvalue, hpmin]
  by_cases hcurtails : u.curtailsTo u.formCeiling.value
  · rw [if_pos hcurtails]
    intro p
    have hp := hreleased p
    rw [State.get_reformedAlloc_of_curtails hcurtails] at hp
    split
    · rename_i hin
      rw [if_pos hin] at hp
      exact hp.eq (Nat.le_refl _)
    · rename_i hoff
      rwa [if_neg hoff] at hp
  · rw [State.reformedAlloc_of_not_curtails hcurtails] at halloc hafter
    have hexposure : ∀ p, after.exposure p = u.exposure p := fun p => by rw [hafter]; rfl
    simp only [hexposure] at hattempts
    rw [if_neg hcurtails, ← hfinal]
    by_cases h : u.feeder.ceiling < u.formCeiling.value ∨ ∃ p, u.exposure p < s.exposure p
    · rw [if_pos h, if_pos (hattempts.mpr h)]
      refine State.releaseAttempt_congr ?_ ?_ ?_ rfl ?_ ?_
      all_goals rw [hafter]
      rfl
    · rw [if_neg h, if_neg fun hc => h (hattempts.mp hc), halloc]

/-- Where an event's own changes leave records, collections and store, what it settles is what a new ceiling does. -/
theorem State.SettledTo.curtailedTo {s u t : State} (h : s.SettledTo u t)
    (hu : u = { s with lines := u.lines, feeder := u.feeder, ports := u.ports })
    (hceiling : u.feeder.ceiling = s.feeder.ceiling) (hlevel : u.level .headroomGiven = s.level .headroomGiven) :
    s.CurtailedTo t := by
  have hrecord : ∀ p, u.allocOf p = s.allocOf p := fun p => by rw [hu]; rfl
  have hexposure : ∀ p, u.exposure p = s.exposure p := fun p => by rw [hu]; rfl
  have hoff : u.offListExposure = s.offListExposure := by rw [hu]; rfl
  have hpads : u.activePads = s.activePads := by rw [hu]; rfl
  have hactive : u.active = s.active := by rw [hu]
  have halloc : u.alloc = s.alloc := by rw [hu]
  have hrelease : ({ u with feeder := t.feeder } : State).releaseAttempt.alloc =
      ({ s with feeder := t.feeder } : State).releaseAttempt.alloc := by
    refine State.releaseAttempt_congr halloc ?_ ?_ rfl ?_ hlevel
    all_goals rw [hu]
  unfold State.SettledTo at h
  unfold State.CurtailedTo
  dsimp only at h ⊢
  rw [hrelease] at h
  simp only [hrecord, hexposure, hoff, hpads, hactive, halloc, hceiling, Nat.lt_irrefl, exists_false, or_false] at h ⊢
  by_cases hrise : s.feeder.ceiling < t.feeder.ceiling
  · rw [if_pos hrise]
    rwa [if_neg fun hfall => Nat.lt_asymm hrise hfall.1, if_pos hrise] at h
  · rw [if_neg hrise]
    rwa [if_neg hrise] at h

/-- What an event inside a slot leaves whose own changes, `u`, are of lines, feeder values and change sets, and which then
formed the ceiling again. -/
theorem State.Ready.reformEvent {s u after : State} (hs : s.Ready)
    (hu : u = { s with lines := u.lines, feeder := u.feeder, ports := u.ports })
    (hceiling : u.feeder.ceiling = s.feeder.ceiling) (hcause : u.feeder.cause = s.feeder.cause)
    (hlevel : u.level .headroomGiven = s.level .headroomGiven)
    (hafter : after = { u.reformInSlot with ports := after.ports }) :
    ∃ t : State, s.event after = .next t ∧
      t.feeder = { u.feeder with ceiling := t.feeder.ceiling, cause := t.feeder.cause } ∧
      t.ports = after.ports ∧
      t.CeilingFormed ∧
      s.CurtailedTo t ∧
      t.roundRequest =
        (s.roundRequest || decide (t.feeder.ceiling ≠ s.feeder.ceiling ∨ t.feeder.cause ≠ s.feeder.cause)) ∧
      t.link = { s.link with
                 stopRequest := s.link.stopRequest ||
                   (decide (0 < s.feeder.ceiling) && decide (t.feeder.ceiling = 0)) } ∧
      t = { s with
            lines := u.lines, feeder := t.feeder, alloc := t.alloc, roundRequest := t.roundRequest, link := t.link,
            ports := t.ports } := by
  have hstore : u.store = s.store := by rw [hu]
  have hround : u.roundRequest = s.roundRequest := by rw [hu]
  have hlink : u.link = s.link := by rw [hu]
  obtain ⟨alloc, hevent, hsettled, -⟩ := hs.settles (after := after) hstore hceiling (by rw [hafter])
  have hframe := hafter
  rw [u.reformInSlot_eq, State.ceilingMoves] at hframe
  refine ⟨_, hevent, by rw [hframe], rfl, ?_, hsettled.curtailedTo hu hceiling hlevel, ?_, ?_, ?_⟩
  · rw [State.CeilingFormed, hframe]; rfl
  · rw [hframe, hround, hceiling, hcause]
  · rw [hframe, hlink, hceiling]
  · rw [hframe, hu]

end Sys2Proof.Machine
end

section
/-! PROOFS. SHED and END SHED (R108, R109), SET LIMITS (R110, R111) and the settled lines (R83, R102 to R106, R156). -/

namespace Sys2Proof.Machine

/-! ### SHED and END SHED (R108, R109) -/

/-- The shed started, replaced or ended, with FIELD in the change sets: what both requests do before the ceiling is formed
again (R114). -/
def State.withShed (s : State) (shed : Option Shed) : State :=
  { s with feeder := { s.feeder with shed := shed } }.enterField

/-- FIELD enters the change sets twice as it enters them once. -/
theorem Ports.enterField_again (ports : Ports) (field : Bool) :
    (ports.enter (fun _ => false) true).enter (fun _ => false) field = ports.enter (fun _ => false) true := by
  rw [Ports.enter_enter]
  rfl

theorem State.ports_reformInSlot_of_enterField {s u : State} (hu : u.ports = s.enterField.ports) :
    u.reformInSlot.ports = s.enterField.ports := by
  have hagain : s.enterField.ports.enter (fun _ => false) u.ceilingMoves = s.enterField.ports :=
    s.ports.enterField_again _
  rw [u.reformInSlot_eq, ← hagain, ← hu]

/-- What the end of a request leaves that changed the shed. -/
theorem State.Ready.shedEvent {s : State} (hs : s.Ready) (shed : Option Shed) (body : List Byte) :
    ∃ t : State, s.event ((s.withShed shed).reformInSlot.answer .f .ok body) = .next t ∧
      t.feeder = { s.feeder with shed := shed, ceiling := t.feeder.ceiling, cause := t.feeder.cause } ∧
      t.ports = (s.enterField.answer .f .ok body).ports ∧
      t.CeilingFormed ∧
      s.CurtailedTo t ∧
      t.roundRequest =
        (s.roundRequest || decide (t.feeder.ceiling ≠ s.feeder.ceiling ∨ t.feeder.cause ≠ s.feeder.cause)) ∧
      t.link = { s.link with
                 stopRequest := s.link.stopRequest ||
                   (decide (0 < s.feeder.ceiling) && decide (t.feeder.ceiling = 0)) } ∧
      t = { s with
            feeder := t.feeder, alloc := t.alloc, roundRequest := t.roundRequest, link := t.link, ports := t.ports } := by
  have hports : ((s.withShed shed).reformInSlot.answer .f .ok body).ports = (s.enterField.answer .f .ok body).ports :=
    State.answer_ports_congr (State.ports_reformInSlot_of_enterField (s := s) (u := s.withShed shed) rfl) ..
  rw [← hports]
  exact hs.reformEvent (u := s.withShed shed) rfl rfl rfl rfl (State.answer_frame ..)

/-- Settles O50: the shed changed, and the ceiling then formed again inside the slot. -/
theorem shedTaken : Obligations.ShedTaken := by
  unfold Obligations.ShedTaken
  refine ⟨fun ceiling duration s hs _ h => ?shed, fun shed s hs _ h hactive => ?ends, fun s hs h hnone => ?none⟩
  case shed =>
    have hexec : exec .shed s = s.event
        ((s.withShed (some ⟨min ceiling.toNat 4095, max duration.toNat 1⟩)).reformInSlot.answer .f .ok (word (min ceiling.toNat 4095) ++ [byte (max duration.toNat 1)])) := by
      change execShed s = _
      rw [execShed, h]
      rfl
    rw [hexec]
    exact hs.shedEvent ..
  case ends =>
    have hexec : exec .endShed s = s.event ((s.withShed none).reformInSlot.answer .f .ok []) := by
      change execEndShed s = _
      rw [execEndShed, h]
      dsimp only
      rw [State.endShed, hactive]
      rfl
    rw [hexec]
    exact hs.shedEvent ..
  case none =>
    change execEndShed s = _
    rw [execEndShed, h]
    dsimp only
    rw [State.endShed, hnone]
    exact hs.event_answer .f .ok [] rfl rfl rfl

/-! ### SET LIMITS (R110, R111) -/

/-- The values of SET LIMITS put into force. -/
def Feeder.withLimits (f : Feeder) (ramp pmin fallback tie : Nat) : Feeder :=
  { f with
    ramp := takenRamp ramp (takenPmin pmin)
    pmin := takenPmin pmin
    fallback := takenCeiling fallback
    tie := takenCeiling tie }

/-- A record after a new P_min: powers below it go to 0 when it rose (R87). -/
def AllocRec.underPmin (a : AllocRec) (old new : Nat) : AllocRec :=
  if old < new then { a with target := dropSmall new a.target, setpoint := dropSmall new a.setpoint } else a

/-- A power that was 0 or at least the old P_min is 0 or at least the new one after the clamp. -/
theorem AllocRec.underPmin_atLeastPmin {a : AllocRec} {old new : Nat} (hs : AtLeastPmin old a.setpoint)
    (ht : AtLeastPmin old a.target) :
    AtLeastPmin new (a.underPmin old new).setpoint ∧ AtLeastPmin new (a.underPmin old new).target := by
  unfold AllocRec.underPmin
  split
  · exact ⟨dropSmall_eq_zero_or .., dropSmall_eq_zero_or ..⟩
  · rename_i hlower
    exact ⟨hs.imp_right (Nat.not_lt.mp hlower).trans, ht.imp_right (Nat.not_lt.mp hlower).trans⟩

theorem AllocRec.underPmin_kept (a : AllocRec) (old new : Nat) :
    (a.underPmin old new).rampBase = a.rampBase ∧ (a.underPmin old new).starvation = a.starvation := by
  unfold AllocRec.underPmin
  split <;> exact ⟨rfl, rfl⟩

/-- The state in which the values of SET LIMITS are in force and the records clamped. -/
def State.withLimits (s : State) (alloc : Table 24 AllocRec) (ramp pmin fallback tie : Nat) : State :=
  { s with feeder := s.feeder.withLimits ramp pmin fallback tie, alloc := alloc }

theorem State.takeLimits_eq {s : State} {alloc : Table 24 AllocRec} {ramp pmin fallback tie : Nat}
    (hrecords : ∀ p, alloc.get p = (s.allocOf p).underPmin s.feeder.pmin (takenPmin pmin)) :
    s.takeLimits ramp pmin fallback tie =
      (s.withLimits alloc ramp pmin fallback tie).reformInSlot.requestRound := by
  have hclamped : (if s.feeder.pmin < takenPmin pmin then
      (s.withLimits s.alloc ramp pmin fallback tie).minPowerClamp
      else s.withLimits s.alloc ramp pmin fallback tie) = s.withLimits alloc ramp pmin fallback tie := by
    split
    · rename_i hrise
      refine congrArg (s.withLimits · ramp pmin fallback tie) (Table.ext_get fun p => ?_)
      rw [hrecords, AllocRec.underPmin, if_pos hrise]
      exact Table.get_tabulate ..
    · rename_i hlower
      refine congrArg (s.withLimits · ramp pmin fallback tie) (Table.ext_get fun p => ?_)
      rw [hrecords, AllocRec.underPmin, if_neg hlower]
      rfl
  rw [← hclamped]
  rfl

/-- The answer to SET LIMITS carries the four values in force. -/
theorem State.execSetLimits_eq {s : State} {alloc : Table 24 AllocRec} {ramp pmin fallback tie : Word16}
    (h : s.handedRequest .f = some (.setLimits ramp pmin fallback tie))
    (hrecords : ∀ p, alloc.get p = (s.allocOf p).underPmin s.feeder.pmin (takenPmin pmin.toNat)) :
    exec .setLimits s = s.event
      ((s.withLimits alloc ramp.toNat pmin.toNat fallback.toNat tie.toNat).reformInSlot.requestRound.answer .f .ok
        (word (takenRamp ramp.toNat (takenPmin pmin.toNat)) ++ word (takenPmin pmin.toNat) ++
          word (takenCeiling fallback.toNat) ++ word (takenCeiling tie.toNat))) := by
  change execSetLimits s = _
  rw [execSetLimits, h]
  dsimp only
  rw [State.takeLimits_eq hrecords]
  congr 1
  rw [State.reformInSlot_eq]
  rfl

section Released

variable {u : State} {p : Pad} {b : AllocRec}

/-- A ceiling formed again, and a release after it, leave ramp base and starvation. -/
theorem State.kept_of_released (h : (u.reformedAlloc.get p).Released b) :
    b.rampBase = (u.allocOf p).rampBase ∧ b.starvation = (u.allocOf p).starvation := by
  have hreformed : (u.reformedAlloc.get p).rampBase = (u.allocOf p).rampBase ∧
      (u.reformedAlloc.get p).starvation = (u.allocOf p).starvation := by
    obtain hreform | ⟨x, -, hreform⟩ := u.reformedAlloc_cases p <;> rw [hreform] <;> exact ⟨rfl, rfl⟩
  obtain rfl | ⟨-, rfl⟩ := h <;> exact hreformed

/-- They leave no power between 0 and P_min (R84, R87). -/
theorem State.atLeastPmin_of_released (h : (u.reformedAlloc.get p).Released b)
    (hfloor : AtLeastPmin u.feeder.pmin (u.allocOf p).setpoint ∧ AtLeastPmin u.feeder.pmin (u.allocOf p).target) :
    AtLeastPmin u.feeder.pmin b.setpoint ∧ AtLeastPmin u.feeder.pmin b.target := by
  have hreformed : AtLeastPmin u.feeder.pmin (u.reformedAlloc.get p).setpoint ∧
      AtLeastPmin u.feeder.pmin (u.reformedAlloc.get p).target := by
    obtain hreform | ⟨x, hx, hreform⟩ := u.reformedAlloc_cases p <;> rw [hreform]
    · exact hfloor
    · exact ⟨hx, hx⟩
  obtain rfl | ⟨-, rfl⟩ := h
  · exact hreformed
  · exact ⟨hreformed.2, hreformed.2⟩

end Released

/-- Settles O51: the four values, the clamp of a P_min that rose, and the ceiling then formed again inside the slot. -/
theorem setLimitsTaken : Obligations.SetLimitsTaken := by
  unfold Obligations.SetLimitsTaken
  intro ramp pmin fallback tie w s hs _ h hw hrecords
  have hclamped : ∀ p, w.alloc.get p = (s.allocOf p).underPmin s.feeder.pmin (takenPmin pmin.toNat) := hrecords
  have hexec := State.execSetLimits_eq h hclamped
  generalize hu : s.withLimits w.alloc ramp.toNat pmin.toNat fallback.toNat tie.toNat = u at hexec
  have hfeeder : u.feeder = s.feeder.withLimits ramp.toNat pmin.toNat fallback.toNat tie.toNat := by rw [← hu]; rfl
  have hrecord : ∀ p, u.allocOf p = w.alloc.get p := fun p => by rw [← hu]; rfl
  have hmoves : u.ceilingMoves =
      decide (u.formCeiling.value ≠ s.feeder.ceiling ∨ u.formCeiling.cause ≠ s.feeder.cause) := by
    rw [State.ceilingMoves, hfeeder]; rfl
  generalize hafter : u.reformInSlot.requestRound.answer .f .ok (word (takenRamp ramp.toNat (takenPmin pmin.toNat)) ++
    word (takenPmin pmin.toNat) ++ word (takenCeiling fallback.toNat) ++ word (takenCeiling tie.toNat)) = after at hexec
  have hframe : after = { u.reformInSlot with roundRequest := true, ports := after.ports } := by
    rw [← hafter, State.answer_frame]; rfl
  obtain ⟨alloc, hevent, hsettled, hreleased⟩ := hs.settles (u := u) (after := after) (by rw [← hu]; rfl)
    (by rw [hfeeder]; rfl) (by rw [hframe])
  have hports : after.ports = ({ s with ports := s.ports.enter (fun _ => false) (decide (u.formCeiling.value ≠
      s.feeder.ceiling ∨ u.formCeiling.cause ≠ s.feeder.cause)) }.answer .f .ok (word (takenRamp ramp.toNat (takenPmin
      pmin.toNat)) ++ word (takenPmin pmin.toNat) ++ word (takenCeiling fallback.toNat) ++
      word (takenCeiling tie.toNat))).ports := by
    rw [← hafter]
    refine State.answer_ports_congr ?_ ..
    rw [u.reformInSlot_eq, ← hmoves, ← hu]
    rfl
  rw [u.reformInSlot_eq, hfeeder] at hframe
  have hkept : ∀ p, (alloc.get p).rampBase = (s.allocOf p).rampBase ∧
      (alloc.get p).starvation = (s.allocOf p).starvation := fun p => by
    have hclamp := (s.allocOf p).underPmin_kept s.feeder.pmin (takenPmin pmin.toNat)
    rw [← hclamped, ← hrecord] at hclamp
    rw [← hclamp.1, ← hclamp.2]
    exact State.kept_of_released (hreleased p)
  have hpmin : ∀ p, AtLeastPmin s.feeder.pmin (s.allocOf p).setpoint ∧ AtLeastPmin s.feeder.pmin (s.allocOf p).target →
      AtLeastPmin (takenPmin pmin.toNat) (alloc.get p).setpoint ∧
        AtLeastPmin (takenPmin pmin.toNat) (alloc.get p).target := fun p ⟨hset, htarget⟩ => by
    have hclamp := AllocRec.underPmin_atLeastPmin (new := takenPmin pmin.toNat) hset htarget
    rw [← hclamped, ← hrecord] at hclamp
    have hreleasedPmin := State.atLeastPmin_of_released (hreleased p)
    rw [hfeeder] at hreleasedPmin
    exact hreleasedPmin hclamp
  have hformed : ({ after with alloc := alloc } : State).CeilingFormed := by
    rw [State.CeilingFormed, hframe, ← hfeeder]; rfl
  have hsettledTo : s.SettledTo w { after with alloc := alloc } := by
    rw [hw]
    rw [← hu] at hsettled
    exact hsettled
  rw [hexec]
  refine ⟨_, hevent, ?pmin, ?ramp, ?fallback, ?tie, ?shed, hformed, hsettledTo, ?round, ?ports, ?atLeast, hkept,
    ?link, ?frame⟩
  case ports =>
    have hfinal : ({ after with alloc := alloc } : State).feeder = { s.feeder.withLimits ramp.toNat pmin.toNat
        fallback.toNat tie.toNat with ceiling := u.formCeiling.value, cause := u.formCeiling.cause } := by rw [hframe]
    rw [hfinal]
    exact hports
  case atLeast =>
    have hfinal : ({ after with alloc := alloc } : State).feeder.pmin = takenPmin pmin.toNat := by rw [hframe]; rfl
    rw [hfinal]
    exact hpmin
  case link => rw [hframe, ← hu]; rfl
  case frame => rw [hframe, ← hu]; rfl
  case round => rw [hframe]
  all_goals rw [hframe]; rfl

/-! ### The settled lines (R83, R102 to R106, R156) -/

theorem LineRec.settling_iff {s : State} {line : Line} :
    (s.lines.get line).settling = true ↔ (s.lines.get line).raw ≠ s.level line := by
  simp [LineRec.settling, State.level]

/-- A line of the ceiling's terms settles at another level than the one it counts as (R104, R105). -/
theorem State.Ready.supplyLineEvent {s : State} (hs : s.Ready) {line : Line} (hline : line ≠ .headroomGiven)
    (hlevel : (s.lines.get line).raw ≠ s.level line) :
    ∃ t : State, s.event (s.supplyLineSettles line) = .next t ∧
      t.lines = (s.takeLevel line).lines ∧
      t.level line = (s.lines.get line).raw ∧
      t.feeder = { s.feeder with ceiling := t.feeder.ceiling, cause := t.feeder.cause } ∧
      t.ports = s.enterField.ports ∧
      t.CeilingFormed ∧
      s.CurtailedTo t ∧
      t.roundRequest =
        (s.roundRequest || decide (t.feeder.ceiling ≠ s.feeder.ceiling ∨ t.feeder.cause ≠ s.feeder.cause)) ∧
      t.link = { s.link with
                 stopRequest := s.link.stopRequest ||
                   (decide (0 < s.feeder.ceiling) && decide (t.feeder.ceiling = 0)) } ∧
      t = { s with
            lines := t.lines, feeder := t.feeder, alloc := t.alloc, roundRequest := t.roundRequest, link := t.link,
            ports := t.ports } := by
  have hsettles : s.supplyLineSettles line = (s.takeLevel line).enterField.reformInSlot :=
    if_pos (LineRec.settling_iff.mpr hlevel)
  obtain ⟨t, hevent, hfeeder, hports, hformed, hcurtailed, hround, hlink, hframe⟩ :=
    hs.reformEvent (u := (s.takeLevel line).enterField) (after := (s.takeLevel line).enterField.reformInSlot)
      rfl rfl rfl (State.level_takeLevel_ne s line hline.symm) rfl
  have hlines : t.lines = (s.takeLevel line).lines := by rw [hframe]; rfl
  refine ⟨t, by rw [hsettles]; exact hevent, hlines, ?_, hfeeder, ?_, hformed, hcurtailed, hround, hlink, ?_⟩
  · rw [State.level, hlines]
    exact State.level_takeLevel_self s line
  · rw [hports]
    exact State.ports_reformInSlot_of_enterField (s := s) rfl
  · rw [hlines]
    exact hframe

/-- At the level it counts as, a line's settling takes its level and no more (R103). -/
theorem State.Ready.supplyLineEvent_same {s : State} (hs : s.Ready) {line : Line}
    (hlevel : (s.lines.get line).raw = s.level line) :
    s.event (s.supplyLineSettles line) = .next (s.takeLevel line) := by
  have hsettles : s.supplyLineSettles line = s.takeLevel line :=
    if_neg fun h => LineRec.settling_iff.mp h hlevel
  rw [hsettles]
  exact hs.event rfl rfl rfl

theorem lineOfSource_ne_headroomGiven (l : SourceLine) : lineOfSource l ≠ .headroomGiven := by
  cases l <;> exact nofun

/-- A higher setpoint lowers no exposure (R70). -/
theorem AllocRec.exposure_le_of_setpoint_le {a : AllocRec} {x : Nat} (h : a.setpoint ≤ x) (rating : Nat) :
    a.exposure rating ≤ ({ a with setpoint := x } : AllocRec).exposure rating := by
  have hmax : max a.setpoint a.measured ≤ max x a.measured := max_le_max_right _ h
  unfold AllocRec.exposure
  cases a.mode with
  | start => exact max_le_max_left _ h
  | normal => exact hmax
  | hold v k => exact max_le_max_left _ hmax

/-- The releases of HEADROOM_GIVEN raise setpoints only, so the end of the event attempts no more (R80, R83). -/
theorem State.Ready.event_releaseAttempt {s u : State} (hs : s.Ready) (halloc : u.alloc = s.alloc)
    (hstore : u.store = s.store) (hceiling : u.feeder.ceiling = s.feeder.ceiling) :
    s.event u.releaseAttempt = .next u.releaseAttempt := by
  have hceiling' : u.releaseAttempt.feeder.ceiling = s.feeder.ceiling := by rw [u.releaseAttempt_frame]; exact hceiling
  have hstore' : u.releaseAttempt.store = s.store := by rw [u.releaseAttempt_frame]; exact hstore
  have hfell : exposureFell s u.releaseAttempt = false := by
    rw [Bool.eq_false_iff, ne_eq, exposureFell_iff]
    rintro ⟨p, hp⟩
    have hrecord : u.allocOf p = s.allocOf p := by rw [State.allocOf, halloc]; rfl
    have hrating : u.releaseAttempt.rating p = s.rating p := by rw [State.rating, hstore']; rfl
    rw [State.exposure, State.exposure, hrating] at hp
    refine Nat.lt_irrefl _ (hp.trans_le ?_)
    obtain he | ⟨hlt, he⟩ := u.allocOf_releaseAttempt p
    · rw [he, hrecord]
    · rw [he, hrecord]
      rw [hrecord] at hlt
      exact AllocRec.exposure_le_of_setpoint_le (x := (s.allocOf p).target) hlt.le _
  rw [hs.event_settled hstore', hfell, hceiling', decide_eq_false (Nat.lt_irrefl _)]
  rfl

/-- Settles O53: each line by whether it settles at another level. -/
theorem linesSettle : Obligations.LinesSettle := by
  unfold Obligations.LinesSettle
  refine ⟨fun line level s => rfl, fun s hs _ h => hs.supplyLineEvent nofun h,
    fun l s hs _ h => hs.supplyLineEvent (lineOfSource_ne_headroomGiven l) h, fun s hs h => hs.supplyLineEvent_same h,
    fun l s hs h => hs.supplyLineEvent_same h, ?given, ?withdrawn, ?keyOff, ?keyOn⟩
  case given =>
    intro s hs hmode hlevel hraw
    have hsettling : (s.lines.get .headroomGiven).settling = true :=
      LineRec.settling_iff.mpr (by rw [hraw, hlevel]; exact nofun)
    have hactive : (s.takeLevel .headroomGiven).level .headroomGiven = true := by
      rw [State.level_takeLevel_self, hraw]
    change execHeadroomGivenChange s = _
    unfold execHeadroomGivenChange
    dsimp only
    rw [if_pos ⟨hmode, hsettling, hactive⟩]
    exact hs.event_releaseAttempt rfl rfl rfl
  case withdrawn =>
    intro s hs h
    have hnot : ¬ (s.feederMode = .shared ∧ (s.lines.get .headroomGiven).settling = true ∧
        (s.takeLevel .headroomGiven).level .headroomGiven = true) := by
      rintro ⟨hmode, hsettling, hactive⟩
      rw [State.level_takeLevel_self] at hactive
      have hne := LineRec.settling_iff.mp hsettling
      obtain h | h | h := h
      · rw [h] at hmode; cases hmode
      · exact hne (by rw [hactive, h])
      · rw [h] at hactive; cases hactive
    change execHeadroomGivenChange s = _
    unfold execHeadroomGivenChange
    dsimp only
    rw [if_neg hnot]
    exact hs.event rfl rfl rfl
  case keyOff =>
    intro s hs hlevel hraw hopen
    have hsettling : (s.lines.get .svcKey).settling = true :=
      LineRec.settling_iff.mpr (by rw [hraw, hlevel]; exact nofun)
    have hoff : ¬ (s.takeLevel .svcKey).level .svcKey = true := by
      rw [State.level_takeLevel_self, hraw]; exact nofun
    have hclose : (s.takeLevel .svcKey).setService .closed = { s.takeLevel .svcKey with service := .closed }.enterField :=
      if_neg hopen
    change execSvcKeyChange s = _
    unfold execSvcKeyChange
    dsimp only
    rw [if_pos ⟨hsettling, hoff⟩, hclose]
    exact hs.event rfl rfl rfl
  case keyOn =>
    intro s hs h
    have hkept : (if (s.lines.get .svcKey).settling = true ∧ ¬ (s.takeLevel .svcKey).level .svcKey = true then
        (s.takeLevel .svcKey).setService .closed else s.takeLevel .svcKey) = s.takeLevel .svcKey := by
      split
      · rename_i hc
        obtain ⟨hsettling, hoff⟩ := hc
        rw [State.level_takeLevel_self] at hoff
        have hne := LineRec.settling_iff.mp hsettling
        obtain h | h | h := h
        · exact absurd (by rw [h]; simpa using hoff) hne
        · exact absurd h hoff
        · exact if_pos h
      · rfl
    change execSvcKeyChange s = _
    unfold execSvcKeyChange
    dsimp only
    rw [hkept]
    exact hs.event rfl rfl rfl

end Sys2Proof.Machine
end

section
/-! PROOFS. What the session controller's taking of a report does to its pad and to the rest of the state, in one expression
for every way R6 goes: the state with a new session record, and a latch when there is one (R6, R22, R23, R31, R33). -/

namespace Sys2Proof.Machine

/-! ### A pad with a new session record -/

/-- The session leaves eligibility with its new record (R33). -/
def SessionRec.leaves (old new : SessionRec) : Bool := old.body.isEligible && !new.body.isEligible

/-- The session becomes eligible with its new record (R31). -/
def SessionRec.joins (old new : SessionRec) : Bool := !old.body.isEligible && new.body.isEligible

/-- What a taking does to its pad: the new session record, and the fault record when a fault was latched. -/
structure PadTaking where
  record : SessionRec
  fault : Option FaultRec

/-- An allocator record as a latch with this hold value and leaving eligibility leave it, where either happens. -/
def AllocRec.moved (a : AllocRec) (latched : Bool) (holdValue : Nat) (leaves : Bool) : AllocRec :=
  let held : AllocRec := { a with mode := if latched then .hold holdValue 8 else a.mode }
  if leaves then held.idle else held

/-- The store with a changed fault record queued. -/
def State.storeTaken (s : State) (p : Pad) (fault : Option FaultRec) : Store :=
  match fault with
  | none => s.store
  | some record => if s.faultOf p = some record then s.store else s.store.change p (.fault (some record))

/-- The queue with the pad's session gone from it or inserted (R31, R33). -/
def State.queueTaken (s : State) (p : Pad) (r : SessionRec) : List Pad :=
  if (s.session p).leaves r then s.queue.erase p
  else if (s.session p).joins r then
    insertBefore (State.standsAfter { s with sessions := s.sessions.set p r } p) p s.queue
  else s.queue

/-- Whether the pad enters the change sets: its fault record or a reported field changed (R4, R153). -/
def State.entersTaken (s : State) (p : Pad) (e : PadTaking) : Bool :=
  e.fault.any (fun record => decide (some record ≠ s.faultOf p)) || decide ((s.session p).reported ≠ e.record.reported)

/-- The state after a taking, `holdValue` being the hold value of its latch, if it latched. -/
def State.padTaken (s : State) (p : Pad) (e : PadTaking) (holdValue : Nat) : State :=
  { s with
    sessions := s.sessions.set p e.record
    alloc := s.alloc.set p ((s.allocOf p).moved e.fault.isSome holdValue ((s.session p).leaves e.record))
    queue := s.queueTaken p e.record
    active := if (s.session p).leaves e.record then s.active.erase p else s.active
    roundRequest := s.roundRequest || (((s.session p).leaves e.record && decide (p ∈ s.active)) ||
      (s.session p).joins e.record)
    store := s.storeTaken p e.fault
    ports := s.ports.enter (fun q => decide (q = p) && s.entersTaken p e) false }

theorem AllocRec.moved_of_stays (a : AllocRec) (holdValue : Nat) : a.moved false holdValue false = a := rfl

theorem State.session_padTaken (s : State) (p : Pad) (e : PadTaking) (v : Nat) :
    (s.padTaken p e v).session p = e.record := Table.get_set_self ..

theorem State.allocOf_padTaken (s : State) (p : Pad) (e : PadTaking) (v : Nat) :
    (s.padTaken p e v).allocOf p = (s.allocOf p).moved e.fault.isSome v ((s.session p).leaves e.record) :=
  Table.get_set_self ..

section Primitives

variable {s : State} {p : Pad} {r : SessionRec} {b : PadBody} (v : Nat)

theorem SessionRec.leaves_of_eq {old new : SessionRec} (h : new.body.isEligible = old.body.isEligible) :
    old.leaves new = false ∧ old.joins new = false := by
  rw [SessionRec.leaves, SessionRec.joins, h]
  cases old.body.isEligible <;> exact ⟨rfl, rfl⟩

/-- A new body with which the pad is as ELIGIBLE as before changes no collection. -/
theorem State.setBody_eq_padTaken (h : b.isEligible = (s.session p).body.isEligible) :
    s.setBody p b = s.padTaken p ⟨{ s.session p with body := b }, none⟩ v := by
  obtain ⟨hleaves, hjoins⟩ := SessionRec.leaves_of_eq (old := s.session p) (new := { s.session p with body := b }) h
  rw [State.setBody_eq]
  simp only [State.padTaken, State.queueTaken, State.storeTaken, State.entersTaken, hleaves, hjoins, Option.isSome_none,
    AllocRec.moved_of_stays, s.alloc_set_allocOf, Bool.false_eq_true, if_false, Bool.false_and, Bool.or_false,
    Option.any_none, Bool.false_or]

theorem State.eq_padTaken : s = s.padTaken p ⟨s.session p, none⟩ v := by
  have hsame : s.setBody p (s.session p).body = s := (State.setBody_of_reported_eq rfl).trans (State.putBody_eq_self rfl)
  exact hsame.symm.trans (State.setBody_eq_padTaken v rfl)

theorem State.leaveEligibility_setBody_eq_padTaken (hb : (s.session p).body.isEligible = true)
    (h : b.isEligible = false) :
    (s.leaveEligibility p).setBody p b = s.padTaken p ⟨{ s.session p with body := b }, none⟩ v := by
  have hleaves : (s.session p).leaves { s.session p with body := b } = true := by simp [SessionRec.leaves, hb, h]
  have hjoins : (s.session p).joins { s.session p with body := b } = false := by simp [SessionRec.joins, hb]
  rw [State.leaveEligibility_setBody]
  simp only [State.padTaken, State.queueTaken, State.storeTaken, State.entersTaken, hleaves, hjoins, if_true,
    Bool.true_and, Bool.or_false, Option.any_none, Bool.false_or]
  rfl

theorem State.closePad_eq_padTaken (ending : Ending) (h : b.isEligible = false) :
    s.closePad p ending b = s.padTaken p ⟨⟨b, (s.session p).tokenSeq,
      (outcomeOf (s.session p).body ending s.timer.slot).or (s.session p).last⟩, none⟩ v := by
  rw [State.closePad_eq]
  generalize hr : (⟨b, (s.session p).tokenSeq, (outcomeOf (s.session p).body ending s.timer.slot).or
    (s.session p).last⟩ : SessionRec) = r
  have hnew : r.body.isEligible = false := by rw [← hr]; exact h
  have hleaves : (s.session p).leaves r = (s.session p).body.isEligible := by simp [SessionRec.leaves, hnew]
  have hjoins : (s.session p).joins r = false := by simp [SessionRec.joins, hnew]
  simp only [State.padTaken, State.queueTaken, State.storeTaken, State.entersTaken, hleaves, hjoins, Bool.or_false,
    Bool.false_eq_true, if_false, Option.any_none, Bool.false_or, Option.isSome_none]
  cases (s.session p).body.isEligible with
  | true => rfl
  | false => simp only [Bool.false_eq_true, if_false, AllocRec.moved_of_stays, s.alloc_set_allocOf]

theorem State.setBody_offer_eq_padTaken (hb : (s.session p).body.isEligible = false) (h : b.isEligible = true) :
    (s.setBody p b).offer p = s.padTaken p ⟨{ s.session p with body := b }, none⟩ v := by
  have hleaves : (s.session p).leaves { s.session p with body := b } = false := by simp [SessionRec.leaves, hb]
  have hjoins : (s.session p).joins { s.session p with body := b } = true := by simp [SessionRec.joins, hb, h]
  rw [State.setBody_eq]
  simp only [State.padTaken, State.queueTaken, State.storeTaken, State.entersTaken, hleaves, hjoins, Option.isSome_none,
    AllocRec.moved_of_stays, s.alloc_set_allocOf, Bool.false_eq_true, if_false, if_true, Bool.false_and, Bool.or_true,
    Option.any_none, Bool.false_or]
  rfl

/-- The session record that a latch leaves (R23). -/
def SessionRec.latched (r : SessionRec) (slot : Word16) : SessionRec :=
  ⟨r.body.latched, r.tokenSeq, (outcomeOf r.body .fault slot).or r.last⟩

theorem PadBody.isEligible_latched (b : PadBody) : b.latched.isEligible = false := by
  cases b <;> rfl

theorem SessionRec.leaves_latched (old r : SessionRec) (slot : Word16) :
    old.leaves (r.latched slot) = old.body.isEligible ∧ old.joins (r.latched slot) = false := by
  simp [SessionRec.leaves, SessionRec.joins, SessionRec.latched, PadBody.isEligible_latched]

theorem State.latch_eq_padTaken (cause : FaultCause) (code tag : Option Nat) :
    s.latch p cause code tag v = s.padTaken p ⟨(s.session p).latched s.timer.slot,
      some (latchedRecord (s.faultOf p) cause code s.timer.slot tag)⟩ v := by
  obtain ⟨hleaves, hjoins⟩ := (s.session p).leaves_latched (s.session p) s.timer.slot
  rw [State.latch_frame]
  simp only [State.padTaken, State.queueTaken, State.storeTaken, State.entersTaken, hleaves, hjoins, Option.isSome_some,
    Bool.or_false, Bool.false_eq_true, if_false, Option.any_some]
  rfl

/-- A body put in place before a taking, with the same reported fields, shows in nothing but what the taking itself made of
it. -/
theorem State.padTaken_putBody (hname : b.name = (s.session p).body.name)
    (hreported : SessionRec.reported { s.session p with body := b } = (s.session p).reported) (e : PadTaking) :
    (s.putBody p b).padTaken p e v = s.padTaken p e v := by
  have helig : b.isEligible = (s.session p).body.isEligible := by
    rw [Bool.eq_iff_iff, PadBody.isEligible_iff, PadBody.isEligible_iff, hname]
  simp only [State.padTaken, State.queueTaken, State.storeTaken, State.entersTaken, State.session_putBody_self,
    SessionRec.leaves, SessionRec.joins, helig, hreported]
  simp only [State.putBody, Table.set_set]
  rfl

end Primitives

/-! ### The taking of a report (R6) -/

/-- What a session record can become when a report of its pad is taken: the token stays or goes, and a pad held by its
records stays as it is. -/
structure SessionRec.Follows (old new : SessionRec) : Prop where
  token : new.body.token = old.body.token ∨ new.body.token = 0
  held : old.body.isHeld = true → new = old
  locked : new.body.name = .locked ↔ old.body.name = .locked

theorem SessionRec.Follows.refl (r : SessionRec) : r.Follows r := ⟨.inl rfl, fun _ => rfl, .rfl⟩

theorem PadBody.locked_iff (b : PadBody) : b.name = .locked ↔ b = .locked := by
  cases b with
  | matched phase => cases phase <;> exact ⟨nofun, nofun⟩
  | locked => exact ⟨fun _ => rfl, fun _ => rfl⟩
  | _ => exact ⟨nofun, nofun⟩

theorem SessionRec.Follows.of_free {old new : SessionRec} (htoken : new.body.token = old.body.token ∨ new.body.token = 0)
    (hold : old.body.isHeld = false) (hnew : new.body.isHeld = false) : old.Follows new := by
  have hnot : ∀ {b : PadBody}, b.isHeld = false → b.name ≠ .locked := fun {b} hb hname => by
    rw [b.locked_iff.mp hname] at hb; cases hb
  exact ⟨htoken, fun h => absurd h (by rw [hold]; exact nofun), iff_of_false (hnot hnew) (hnot hold)⟩

/-- Two states in which a report of the pad is taken alike. -/
structure State.SamePad (s t : State) (p : Pad) : Prop where
  session : t.session p = s.session p
  fault : t.faultOf p = s.faultOf p
  link : t.linkOf p = s.linkOf p
  slot : t.timer.slot = s.timer.slot

theorem PadBody.isHeld_seenOrVacant (tag : Option Nat) :
    (seenOrVacant tag).isHeld = false ∧ (seenOrVacant tag).token = 0 ∧ (seenOrVacant tag).isEligible = false := by
  cases tag <;> exact ⟨rfl, rfl, rfl⟩

/-- What `f` does to a state in which the pad is as it is in `s` is a taking without a latch. -/
structure State.Transits (s : State) (p : Pad) (f : State → State) (new : SessionRec) : Prop where
  follows : (s.session p).Follows new
  taken : ∀ (t : State) (v : Nat), s.SamePad t p → f t = t.padTaken p ⟨new, none⟩ v

namespace State.Transits

variable {s : State} {p : Pad} {f g : State → State} {new : SessionRec} {b : PadBody}

theorem congr (h : s.Transits p g new) (hfg : ∀ t, s.SamePad t p → f t = g t) : s.Transits p f new :=
  ⟨h.follows, fun t v ht => (hfg t ht).trans (h.taken t v ht)⟩

theorem stays (s : State) (p : Pad) : s.Transits p (fun t => t) (s.session p) :=
  ⟨.refl _, fun t v ht => by rw [← ht.session]; exact t.eq_padTaken v⟩

theorem setBody (hfree : (s.session p).body.isHeld = false) (hb : b.isHeld = false)
    (htoken : b.token = (s.session p).body.token ∨ b.token = 0) (helig : b.isEligible = (s.session p).body.isEligible) :
    s.Transits p (fun t => t.setBody p b) { s.session p with body := b } :=
  ⟨.of_free htoken hfree hb, fun t v ht => by
    rw [← ht.session] at helig ⊢
    exact t.setBody_eq_padTaken v helig⟩

theorem closePad (hfree : (s.session p).body.isHeld = false) (hb : b.isHeld = false) (htoken : b.token = 0)
    (helig : b.isEligible = false) (ending : Ending) :
    s.Transits p (fun t => t.closePad p ending b) ⟨b, (s.session p).tokenSeq,
      (outcomeOf (s.session p).body ending s.timer.slot).or (s.session p).last⟩ :=
  ⟨.of_free (.inr htoken) hfree hb, fun t v ht => by
    rw [← ht.session, ← ht.slot]
    exact t.closePad_eq_padTaken v ending helig⟩

theorem leave (hfree : (s.session p).body.isEligible = true) (hb : b.isHeld = false)
    (htoken : b.token = (s.session p).body.token) (helig : b.isEligible = false) :
    s.Transits p (fun t => (t.leaveEligibility p).setBody p b) { s.session p with body := b } := by
  have hheld : (s.session p).body.isHeld = false := by
    by_contra h
    rw [PadBody.isEligible_of_isHeld ((Bool.not_eq_false _).mp h)] at hfree
    cases hfree
  refine ⟨.of_free (.inl htoken) hheld hb, fun t v ht => ?_⟩
  rw [← ht.session] at hfree ⊢
  exact t.leaveEligibility_setBody_eq_padTaken v hfree helig

theorem offer (hfree : (s.session p).body.isHeld = false) (hb : b.isHeld = false)
    (htoken : b.token = (s.session p).body.token) (hold : (s.session p).body.isEligible = false)
    (helig : b.isEligible = true) :
    s.Transits p (fun t => (t.setBody p b).offer p) { s.session p with body := b } :=
  ⟨.of_free (.inl htoken) hfree hb, fun t v ht => by
    rw [← ht.session] at hold ⊢
    exact t.setBody_offer_eq_padTaken v hold helig⟩

/-- Clearing and seen pads follow the report's tag, or are vacant once the pad is empty (R12). -/
theorem taggedBody (hfree : (s.session p).body.isHeld = false) (helig : (s.session p).body.isEligible = false)
    (hb : b.isHeld = false ∧ b.token = 0 ∧ b.isEligible = false) :
    s.Transits p (fun t => t.setBody p b) { s.session p with body := b } :=
  .setBody hfree hb.1 (.inr hb.2.1) (by rw [hb.2.2, helig])

/-- Step 5 of R6, by the pad's state. -/
theorem reportTransition (s : State) (p : Pad) (r : Report) (lostSince : Bool) :
    ∃ new, s.Transits p (fun t => t.reportTransition p r lostSince) new := by
  have hstep : ∀ {g : State → State} {new : SessionRec}, s.Transits p g new →
      (∀ t : State, t.session p = s.session p → t.linkOf p = s.linkOf p → t.reportTransition p r lostSince = g t) →
      ∃ new, s.Transits p (fun t => t.reportTransition p r lostSince) new := fun {g new} h hfg =>
    ⟨new, h.congr fun t ht => hfg t ht.session ht.link⟩
  cases hb : (s.session p).body with
  | vacant =>
    exact hstep (.taggedBody (by rw [hb]; rfl) (by rw [hb]; rfl) (PadBody.isHeld_seenOrVacant r.tag)) fun t hs _ => by
      simp only [State.reportTransition, hs, hb]
  | offline =>
    by_cases hlost : (s.linkOf p).state = .lost ∨ lostSince = true
    · exact hstep (.stays s p) fun t hs hl => by simp only [State.reportTransition, hs, hb, hl, if_pos hlost]
    · exact hstep (.taggedBody (by rw [hb]; rfl) (by rw [hb]; rfl) (PadBody.isHeld_seenOrVacant r.tag))
        fun t hs hl => by simp only [State.reportTransition, hs, hb, hl, if_neg hlost]
  | seen tag =>
    cases htag : r.tag with
    | some other =>
      exact hstep (.taggedBody (b := .seen other) (by rw [hb]; rfl) (by rw [hb]; rfl) ⟨rfl, rfl, rfl⟩) fun t hs _ => by
        simp only [State.reportTransition, hs, hb, htag]
    | none =>
      refine hstep (.taggedBody (b := if r.state = .empty then .vacant else .seen tag) (by rw [hb]; rfl)
        (by rw [hb]; rfl) (by split <;> exact ⟨rfl, rfl, rfl⟩)) fun t hs _ => ?_
      simp only [State.reportTransition, hs, hb, htag]
      split <;> rfl
  | clearing tag =>
    cases htag : r.tag with
    | some other =>
      exact hstep (.taggedBody (b := .clearing other) (by rw [hb]; rfl) (by rw [hb]; rfl) ⟨rfl, rfl, rfl⟩)
        fun t hs _ => by simp only [State.reportTransition, hs, hb, htag]
    | none =>
      refine hstep (.taggedBody (b := if r.state = .empty then .vacant else .clearing tag) (by rw [hb]; rfl)
        (by rw [hb]; rfl) (by split <;> exact ⟨rfl, rfl, rfl⟩)) fun t hs _ => ?_
      simp only [State.reportTransition, hs, hb, htag]
      split <;> rfl
  | binding token bound terms elapsed =>
    by_cases hsettles : r.state = .coupling ∨ r.state = .ready
    · cases htag : r.tag with
      | none =>
        exact hstep (.stays s p) fun t hs _ => by simp only [State.reportTransition, hs, hb, htag, if_pos hsettles]
      | some tag =>
        by_cases hmatch : tag = bound
        · exact hstep (.offer (b := .matched .eligible token bound terms (.fresh r.meter)) (by rw [hb]; rfl) rfl
            (by rw [hb]; rfl) (by rw [hb]; rfl) rfl) fun t hs _ => by
              simp only [State.reportTransition, hs, hb, htag, if_pos hsettles, if_pos hmatch]
        · exact hstep (.closePad (b := .seen tag) (by rw [hb]; rfl) rfl rfl rfl .bindMismatch) fun t hs _ => by
            simp only [State.reportTransition, hs, hb, htag, if_pos hsettles, if_neg hmatch]
    · exact hstep (.stays s p) fun t hs _ => by simp only [State.reportTransition, hs, hb, if_neg hsettles]
  | matched phase token tag terms m =>
    have hvacant : ∀ ending : Ending, s.Transits p (fun t => t.closePad p ending .vacant) _ := fun ending =>
      .closePad (by rw [hb]; rfl) rfl rfl rfl ending
    by_cases hempty : r.state = .empty
    · cases phase with
      | releasing =>
        exact hstep (hvacant .released) fun t hs _ => by simp only [State.reportTransition, hs, hb, if_pos hempty]
      | eligible =>
        exact hstep (hvacant (if m.delivered < terms.target then .departed else .toppedDeparted)) fun t hs _ => by
          simp only [State.reportTransition, hs, hb, if_pos hempty]
      | topped =>
        exact hstep (hvacant (if m.delivered < terms.target then .departed else .toppedDeparted)) fun t hs _ => by
          simp only [State.reportTransition, hs, hb, if_pos hempty]
    · cases phase with
      | eligible =>
        by_cases hreached : terms.target ≤ m.delivered
        · exact hstep (.leave (b := .matched .topped token tag terms m) (by rw [hb]; rfl) rfl (by rw [hb]; rfl) rfl)
            fun t hs _ => by simp only [State.reportTransition, hs, hb, if_neg hempty, if_pos hreached]
        · exact hstep (.stays s p) fun t hs _ => by
            simp only [State.reportTransition, hs, hb, if_neg hempty, if_neg hreached]
      | topped =>
        exact hstep (.stays s p) fun t hs _ => by simp only [State.reportTransition, hs, hb, if_neg hempty]
      | releasing =>
        by_cases hends : r.state ≠ .delivering ∧ r.state ≠ .hardFault ∧ r.measured ≤ 3
        · exact hstep (.closePad (b := .clearing (r.tag.getD tag)) (by rw [hb]; rfl) rfl rfl rfl .released)
            fun t hs _ => by simp only [State.reportTransition, hs, hb, if_neg hempty, if_pos hends]
        · exact hstep (.stays s p) fun t hs _ => by
            simp only [State.reportTransition, hs, hb, if_neg hempty, if_neg hends]
  | faulted => exact hstep (.stays s p) fun t hs _ => by simp only [State.reportTransition, hs, hb]
  | locked => exact hstep (.stays s p) fun t hs _ => by simp only [State.reportTransition, hs, hb]

end State.Transits

theorem SessionRec.Follows.trans {a b c : SessionRec} (h : a.Follows b) (h' : b.Follows c) : a.Follows c where
  token := by
    obtain hb | hb := h.token
    · rw [← hb]; exact h'.token
    · obtain hc | hc := h'.token
      · exact .inr (hc.trans hb)
      · exact .inr hc
  held hheld := by
    obtain rfl := h.held hheld
    exact h'.held hheld
  locked := h'.locked.trans h.locked

theorem SessionRec.Follows.latched (r : SessionRec) (slot : Word16) : r.Follows (r.latched slot) where
  token := .inr r.body.latched_token
  held hheld := by
    obtain ⟨b, seq, last⟩ := r
    cases b with
    | faulted => rfl
    | locked => rfl
    | _ => cases hheld
  locked := by
    rw [SessionRec.latched, PadBody.latched_name]
    split
    · rename_i h; simp [h]
    · rename_i h; simp [h]

/-- Accounting and the soft-fault run change the meter fields alone (R14, R21). -/
theorem SessionRec.Follows.of_meter {r : SessionRec} {b : PadBody} (hname : b.name = r.body.name)
    (htoken : b.token = r.body.token) (hheld : r.body.isHeld = true → b = r.body) :
    r.Follows { r with body := b } :=
  ⟨.inl htoken, fun h => by rw [hheld h], by rw [hname]⟩

/-- A stale report leaves the token, and a current one may end the session: the allocator takes the report the same before
and after (R5, R75). -/
theorem SessionRec.Follows.takesAsCurrent {a b : SessionRec} (h : a.Follows b) {echo : Nat}
    (hcurrent : a.body.takesAsCurrent echo = true) : b.body.takesAsCurrent echo = true := by
  rw [PadBody.takesAsCurrent] at hcurrent ⊢
  obtain htoken | htoken := h.token
  · rw [htoken]; exact hcurrent
  · rw [htoken]; rfl

/-- The same report of the same pad, taken by the one block or the other before or not. -/
structure Handed.SameReport (h g : Handed) : Prop where
  pad : g.pad = h.pad
  report : g.report = h.report
  lostSince : g.lostSince = h.lostSince

/-- What the taking of the report `h` by the session controller does, the same in every state where the pad is as in `s`. -/
structure State.SessionTaking (s : State) (h : Handed) (e : PadTaking) : Prop where
  follows : (s.session h.pad).Follows e.record
  current : e.record.body.takesAsCurrent h.report.echo = (s.session h.pad).body.takesAsCurrent h.report.echo
  latched : ∀ record, e.fault = some record → e.record.body.isEligible = false ∧
    ∃ cause code tag, record = latchedRecord (s.faultOf h.pad) cause code s.timer.slot tag
  taken : ∀ (t : State) (g : Handed) (before : Before), s.SamePad t h.pad → h.SameReport g →
    t.takeAtSession g before = ⟨t.padTaken h.pad e (t.latchHoldValue g before), e.fault.isSome⟩

theorem State.SamePad.putBody {s t : State} {p : Pad} (h : s.SamePad t p) (b : PadBody) :
    (s.putBody p b).SamePad (t.putBody p b) p :=
  ⟨by rw [State.session_putBody_self, State.session_putBody_self, h.session], h.fault, h.link, h.slot⟩

theorem State.padTaken_accounted (t : State) (h : Handed) (e : PadTaking) (v : Nat) :
    (t.accounted h).padTaken h.pad e v = t.padTaken h.pad e v :=
  State.padTaken_putBody v (PadBody.account_name ..) (SessionRec.reported_congr (PadBody.account_name ..)
    (PadBody.account_token ..) (PadBody.account_tag ..) (PadBody.account_terms ..)) e

theorem State.padTaken_counted (t : State) (h : Handed) (e : PadTaking) (v : Nat) :
    (t.counted h).padTaken h.pad e v = t.padTaken h.pad e v := by
  have hname : (((t.session h.pad).body.account h.report.meter).countSoft h.report.state).name =
      (t.session h.pad).body.name := by rw [PadBody.countSoft_name, PadBody.account_name]
  refine State.padTaken_putBody v hname (SessionRec.reported_congr hname ?_ ?_ ?_) e
  · rw [PadBody.countSoft_token, PadBody.account_token]
  · rw [PadBody.countSoft_tag, PadBody.account_tag]
  · rw [PadBody.countSoft_terms, PadBody.account_terms]

section Takings

variable {s : State} {h : Handed}

/-- The session record with the report accounted (step 1 of R6). -/
def SessionRec.accounted (r : SessionRec) (meter : Option Word16) : SessionRec := { r with body := r.body.account meter }

theorem PadBody.meter_eq_none_of_isHeld {b : PadBody} (h : b.isHeld = true) : b.meter = none := by
  cases b with
  | faulted => rfl
  | locked => rfl
  | _ => cases h

theorem SessionRec.Follows.accounted (r : SessionRec) (meter : Option Word16) : r.Follows (r.accounted meter) :=
  .of_meter (PadBody.account_name ..) (PadBody.account_token ..) fun hheld =>
    PadBody.account_of_no_meter (PadBody.meter_eq_none_of_isHeld hheld) _

theorem State.accounted_congr {t : State} {g : Handed} (hg : h.SameReport g) : t.accounted g = t.accounted h := by
  rw [State.accounted, State.accounted, hg.pad, hg.report]

/-- A taking that latches, whichever step of R6 makes the latch. -/
theorem State.SessionTaking.of_latch (hcurrent : (s.session h.pad).body.takesAsCurrent h.report.echo = true)
    {cause : FaultCause} {code tag : Option Nat}
    (hstep : ∀ (t : State) (g : Handed) (before : Before), h.SameReport g → t.session h.pad = s.session h.pad →
      t.takeAtSession g before = ⟨(t.accounted g).latch g.pad cause code tag (t.latchHoldValue g before), true⟩) :
    s.SessionTaking h ⟨((s.session h.pad).accounted h.report.meter).latched s.timer.slot,
      some (latchedRecord (s.faultOf h.pad) cause code s.timer.slot tag)⟩ := by
  have hfollows := (SessionRec.Follows.accounted (s.session h.pad) h.report.meter).trans (.latched _ s.timer.slot)
  refine ⟨hfollows, (hfollows.takesAsCurrent hcurrent).trans hcurrent.symm, ?_, fun t g before ht hg => ?_⟩
  · rintro record ⟨⟩
    exact ⟨PadBody.isEligible_latched _, _, _, _, rfl⟩
  · rw [hstep t g before hg ht.session, State.accounted_congr hg, hg.pad, State.latch_eq_padTaken,
      State.padTaken_accounted, State.accounted, State.session_putBody_self, ← ht.session, ← ht.fault, ← ht.slot]
    rfl

end Takings

/-- The taking of a report by the session controller, whichever way R6 goes. -/
theorem State.sessionTaking (s : State) (h : Handed) : ∃ e, s.SessionTaking h e := by
  have hsession : ∀ {t : State} {g : Handed}, h.SameReport g → t.session h.pad = s.session h.pad →
      t.session g.pad = s.session h.pad := fun hg ht => by rw [hg.pad, ht]
  cases hcurrent : (s.session h.pad).body.takesAsCurrent h.report.echo with
  | false =>
    have hfollows := SessionRec.Follows.accounted (s.session h.pad) h.report.meter
    refine ⟨⟨_, none⟩, hfollows, PadBody.takesAsCurrent_account .., nofun, fun t g before ht hg => ?_⟩
    rw [State.takeAtSession_of_stale (by rw [hsession hg ht.session, hg.report]; exact hcurrent),
      State.accounted_congr hg, State.accounted, ← State.setBody_account,
      State.setBody_eq_padTaken (t.latchHoldValue g before) (PadBody.isEligible_account ..), ht.session]
    rfl
  | true =>
    by_cases hstate : h.report.state = .hardFault
    · refine ⟨_, .of_latch hcurrent (cause := .chargerHard) (code := h.report.code) (tag := (s.session h.pad).body.tag)
        fun t g before hg ht => ?_⟩
      rw [State.takeAtSession_of_hardFault (by rw [hsession hg ht, hg.report]; exact hcurrent) (by rw [hg.report]; exact hstate),
        hsession hg ht, hg.report]
    cases htag : (s.session h.pad).body.tagDiffers h.report.tag with
    | true =>
      refine ⟨_, .of_latch hcurrent (cause := .tagChange) (code := none) (tag := h.report.tag)
          fun t g before hg ht => ?_⟩
      rw [State.takeAtSession_of_tagDiffers (by rw [hsession hg ht, hg.report]; exact hcurrent)
        (by rw [hg.report]; exact hstate) (by rw [hsession hg ht, hg.report]; exact htag), hg.report]
    | false =>
      cases hsoft : (s.session h.pad).body.softLimit h.report.state with
      | true =>
        refine ⟨_, .of_latch hcurrent (cause := .softPersist) (code := h.report.code) (tag := (s.session h.pad).body.tag)
            fun t g before hg ht => ?_⟩
        rw [State.takeAtSession_of_softLimit (by rw [hsession hg ht, hg.report]; exact hcurrent)
          (by rw [hg.report]; exact hstate) (by rw [hsession hg ht, hg.report]; exact htag)
          (by rw [hsession hg ht, hg.report]; exact hsoft), hsession hg ht, hg.report]
      | false =>
        obtain ⟨new, htransits⟩ := State.Transits.reportTransition (s.counted h) h.pad h.report h.lostSince
        have hfollows : (s.session h.pad).Follows new := by
          refine .trans (.of_meter ?_ ?_ fun hheld => ?_)
            ((State.session_putBody_self ..) ▸ htransits.follows)
          · rw [PadBody.countSoft_name, PadBody.account_name]
          · rw [PadBody.countSoft_token, PadBody.account_token]
          · have hmeter := PadBody.meter_eq_none_of_isHeld hheld
            rw [PadBody.account_of_no_meter hmeter, PadBody.countSoft_of_no_meter hmeter]
        refine ⟨⟨new, none⟩, hfollows, (hfollows.takesAsCurrent hcurrent).trans hcurrent.symm, nofun,
          fun t g before ht hg => ?_⟩
        have hcounted : t.counted g = t.counted h := by rw [State.counted, State.counted, hg.pad, hg.report]
        have hsame : (s.counted h).SamePad (t.counted h) h.pad := by
          rw [State.counted, State.counted, ht.session]
          exact ht.putBody _
        rw [State.takeAtSession_of_transition (by rw [hsession hg ht.session, hg.report]; exact hcurrent)
          (by rw [hg.report]; exact hstate) (by rw [hsession hg ht.session, hg.report]; exact htag)
          (by rw [hsession hg ht.session, hg.report]; exact hsoft), hcounted, hg.pad, hg.report, hg.lostSince,
          htransits.taken _ (t.latchHoldValue g before) hsame, State.padTaken_counted]
        rfl

end Sys2Proof.Machine
end

section
/-! PROOFS. A latch made after a report was taken at its pad, and what the two leave together (R23, R77, R152, R153). -/

namespace Sys2Proof.Machine

/-! ### Two changes of one fault record (R152, R153, R163) -/

/-- A second latch brings back the record that stood before both only where the first kept it, at 15 repeats. -/
theorem latchedRecord_returns {old : Option FaultRec} {first second : FaultRec} {cause cause' : FaultCause}
    {code code' tag tag' : Option Nat} {slot slot' : Word16} (hfirst : first = latchedRecord old cause code slot tag)
    (hsecond : second = latchedRecord (some first) cause' code' slot' tag') (h : old = some second) : old = some first := by
  subst hfirst hsecond
  cases old with
  | none => cases h
  | some r =>
    simp only [latchedRecord, Option.some.injEq] at h ⊢
    obtain ⟨c, d, sl, tg, n⟩ := r
    simp only [FaultRec.mk.injEq, true_and] at h ⊢
    omega

/-- Two changes of one record make one entry and leave the second content. -/
theorem Store.change_change_fault (st : Store) (p : Pad) (a b : Option FaultRec) :
    (st.change p (.fault a)).change p (.fault b) = st.change p (.fault b) := by
  have himage : (st.image.put p (.fault a)).put p (.fault b) = st.image.put p (.fault b) := by
    simp [StoreImage.put]
  rw [Store.change_frame, Store.change_frame st p (.fault b), Store.change_image, himage, Store.change_writes,
    Store.change_writes, Store.change_writes, Store.change_frame st p (.fault a)]
  congr 1
  simp only [Content.kind, queueIds, List.foldl_cons, List.foldl_nil]
  split <;> simp_all

/-- A pad inserted into the queue and taken out again leaves it. -/
theorem erase_insertBefore {after : Pad → Bool} {p : Pad} {l : List Pad} (hp : p ∉ l) :
    (insertBefore after p l).erase p = l := by
  rw [insertBefore_eq, List.erase_append_right _ fun h => hp (List.takeWhile_subset _ h), List.erase_cons_head,
    List.takeWhile_append_dropWhile]

/-! ### A latch after a taking (R77) -/

section Compose

variable {s : State} {p : Pad} {e : PadTaking} {v : Nat}

theorem State.faultOf_padTaken (s : State) (p : Pad) (e : PadTaking) (v : Nat) :
    (s.padTaken p e v).faultOf p = e.fault.or (s.faultOf p) := by
  change (s.storeTaken p e.fault).image.fault.get p = _
  cases hf : e.fault with
  | none => rfl
  | some record =>
    simp only [State.storeTaken, Option.some_or]
    split
    · rename_i h; exact h
    · rw [Store.change_image]; exact Table.get_set_self ..

theorem State.rating_padTaken (s : State) (p : Pad) (e : PadTaking) (v : Nat) (q : Pad) :
    (s.padTaken p e v).rating q = s.rating q := by
  change (s.storeTaken p e.fault).image.rating.get q = _
  cases hf : e.fault with
  | none => rfl
  | some record =>
    simp only [State.storeTaken]
    split
    · rfl
    · rw [Store.change_image]; rfl

/-- A pad off the active list that a taking moves has a record already idle (R33). -/
theorem AllocRec.moved_moved {a : AllocRec} {latched : Bool} {v v' : Nat} {elig elig' : Bool}
    (hidle : elig = false → a.idle = a) :
    (a.moved latched v (elig && !elig')).moved true v' elig' = a.moved true v' elig := by
  cases elig with
  | true => cases elig' <;> rfl
  | false =>
    have hfields := hidle rfl
    rw [← hfields]
    cases elig' <;> rfl

variable (hlaw : s.MembershipLaw) (hidle : s.IdleOffList)

include hlaw in
/-- A taking that ends with the pad not ELIGIBLE leaves it off both collections. -/
theorem State.queueTaken_of_not_eligible {r : SessionRec} (hr : r.body.isEligible = false) :
    s.queueTaken p r = s.queue.erase p ∧
      (if (s.session p).leaves r then s.active.erase p else s.active) = s.active.erase p := by
  rw [State.queueTaken, SessionRec.leaves, SessionRec.joins, hr]
  cases he : (s.session p).body.isEligible with
  | true => exact ⟨rfl, rfl⟩
  | false =>
    obtain ⟨hqueue, hactive⟩ := hlaw.not_mem he
    exact ⟨(List.erase_of_not_mem hqueue).symm, (List.erase_of_not_mem hactive).symm⟩

include hlaw in
theorem State.erase_queueTaken (r : SessionRec) :
    (s.queueTaken p r).erase p = s.queue.erase p ∧
      (if (s.session p).leaves r then s.active.erase p else s.active).erase p = s.active.erase p := by
  cases hr : r.body.isEligible with
  | false =>
    obtain ⟨hqueue, hactive⟩ := s.queueTaken_of_not_eligible (p := p) hlaw hr
    obtain ⟨hnq, hna⟩ := hlaw.not_mem_erase p
    rw [hqueue, hactive]
    exact ⟨List.erase_of_not_mem hnq, List.erase_of_not_mem hna⟩
  | true =>
    have hleaves : (s.session p).leaves r = false := by simp [SessionRec.leaves, hr]
    rw [State.queueTaken, hleaves, SessionRec.joins, hr]
    cases he : (s.session p).body.isEligible with
    | true => exact ⟨rfl, rfl⟩
    | false =>
      obtain ⟨hqueue, -⟩ := hlaw.not_mem he
      exact ⟨(erase_insertBefore hqueue).trans (List.erase_of_not_mem hqueue).symm, rfl⟩

/-- Of two changes, the second of which does not bring the first back, one shows when the whole shows. -/
theorem ne_or_ne_iff {α : Type} {x y z : α} (h : x = z → y = x) : (x ≠ y ∨ y ≠ z) ↔ x ≠ z := by
  constructor
  · rintro (hne | hne) rfl
    · exact hne (h rfl).symm
    · exact hne (h rfl)
  · intro hne
    by_cases hxy : x = y
    · exact .inr (hxy ▸ hne)
    · exact .inl hxy

/-- The change sets take the pad once when the fault record or a reported field changed at all. -/
theorem State.entersTaken_or {cause : FaultCause} {code tag : Option Nat} {new : SessionRec} {record : FaultRec}
    (hrecord : record = latchedRecord (e.fault.or (s.faultOf p)) cause code s.timer.slot tag)
    (hreported : (s.session p).reported = new.reported → e.record.reported = (s.session p).reported)
    (hfault : ∀ record, e.fault = some record →
      ∃ cause code tag, record = latchedRecord (s.faultOf p) cause code s.timer.slot tag) :
    (s.entersTaken p e || (s.padTaken p e v).entersTaken p ⟨new, some record⟩) = s.entersTaken p ⟨new, some record⟩ := by
  have hfaults : (e.fault.any (fun r => decide (some r ≠ s.faultOf p)) ||
      decide (some record ≠ e.fault.or (s.faultOf p))) = decide (some record ≠ s.faultOf p) := by
    cases hf : e.fault with
    | none => rfl
    | some first =>
      obtain ⟨_, _, _, hfirst⟩ := hfault first hf
      rw [hf, Option.some_or] at hrecord
      rw [Option.any_some, Option.some_or, ← Bool.decide_or, decide_eq_decide]
      exact (or_congr ne_comm ne_comm).trans ((ne_or_ne_iff fun h =>
        (latchedRecord_returns hfirst hrecord h).symm).trans ne_comm)
  have hfields : (decide ((s.session p).reported ≠ e.record.reported) ||
      decide (e.record.reported ≠ new.reported)) = decide ((s.session p).reported ≠ new.reported) := by
    rw [Bool.eq_iff_iff, Bool.or_eq_true, decide_eq_true_iff, decide_eq_true_iff, decide_eq_true_iff]
    exact ne_or_ne_iff hreported
  simp only [State.entersTaken, State.faultOf_padTaken, State.session_padTaken, Option.any_some, ← hfaults, ← hfields]
  ac_rfl

theorem State.storeTaken_some (s : State) (p : Pad) (record : FaultRec) :
    s.storeTaken p (some record) =
      if s.faultOf p = some record then s.store else s.store.change p (.fault (some record)) := rfl

theorem State.storeTaken_storeTaken {cause : FaultCause} {code tag : Option Nat} {record : FaultRec}
    (hrecord : record = latchedRecord (e.fault.or (s.faultOf p)) cause code s.timer.slot tag)
    (hfault : ∀ record, e.fault = some record →
      ∃ cause code tag, record = latchedRecord (s.faultOf p) cause code s.timer.slot tag) :
    (s.padTaken p e v).storeTaken p (some record) = s.storeTaken p (some record) := by
  have hstore : (s.padTaken p e v).store = s.storeTaken p e.fault := rfl
  have hfound := s.faultOf_padTaken p e v
  rw [State.storeTaken_some, State.storeTaken_some, hstore]
  cases hf : e.fault with
  | none =>
    rw [hf, Option.none_or] at hfound
    rw [hfound]
    rfl
  | some first =>
    obtain ⟨_, _, _, hfirst⟩ := hfault first hf
    rw [hf, Option.some_or] at hfound hrecord
    rw [hfound, State.storeTaken_some]
    by_cases hsame : s.faultOf p = some first
    · rw [if_pos hsame, hsame]
    · have hne : s.faultOf p ≠ some record := fun h => hsame (latchedRecord_returns hfirst hrecord h)
      rw [if_neg hsame, if_neg hne, Store.change_change_fault]
      split
      · rename_i h; rw [h]
      · rfl

include hlaw hidle in
/-- A latch after the taking of a report leaves what the latch alone leaves, but for the round request. -/
theorem State.padTaken_padTaken {cause : FaultCause} {code tag : Option Nat} {v' : Nat} {new : SessionRec}
    {record : FaultRec} (hnew : new.body.isEligible = false)
    (hrecord : record = latchedRecord (e.fault.or (s.faultOf p)) cause code s.timer.slot tag)
    (hreported : (s.session p).reported = new.reported → e.record.reported = (s.session p).reported)
    (hfault : ∀ record, e.fault = some record →
      ∃ cause code tag, record = latchedRecord (s.faultOf p) cause code s.timer.slot tag) :
    (s.padTaken p e v).padTaken p ⟨new, some record⟩ v' =
      { s.padTaken p ⟨new, some record⟩ v' with
        roundRequest := (s.padTaken p e v).roundRequest || decide (p ∈ (s.padTaken p e v).active) } := by
  have hstore := State.storeTaken_storeTaken (v := v) hrecord hfault
  have henters := State.entersTaken_or (v := v) hrecord hreported hfault
  have hsession := s.session_padTaken p e v
  have hrecordOf := s.allocOf_padTaken p e v
  have hleaves : ∀ old : SessionRec, old.leaves new = old.body.isEligible := fun old => by simp [SessionRec.leaves, hnew]
  have hjoins : ∀ old : SessionRec, old.joins new = false := fun old => by simp [SessionRec.joins, hnew]
  obtain ⟨hqueue, hactive⟩ := State.queueTaken_of_not_eligible (p := p) hlaw hnew
  obtain ⟨heraseq, herasea⟩ := s.erase_queueTaken (p := p) hlaw e.record
  have hTqueue : (s.padTaken p e v).queue = s.queueTaken p e.record := rfl
  have hTactive : (s.padTaken p e v).active =
    if (s.session p).leaves e.record then s.active.erase p else s.active := rfl
  generalize hT : s.padTaken p e v = T at *
  have hports : (T.ports.enter (fun q => decide (q = p) && T.entersTaken p ⟨new, some record⟩) false) =
      s.ports.enter (fun q => decide (q = p) && s.entersTaken p ⟨new, some record⟩) false := by
    rw [← henters, ← hT, State.padTaken, Ports.enter_enter]
    congr 1
    funext q
    rw [Bool.and_or_distrib_left]
  have hround : (T.roundRequest || (((T.session p).leaves new && decide (p ∈ T.active)) || (T.session p).joins new)) =
      (T.roundRequest || decide (p ∈ T.active)) := by
    have hoff : e.record.body.isEligible = false → p ∉ T.active := fun hr => by
      obtain ⟨-, hleft⟩ := s.queueTaken_of_not_eligible (p := p) hlaw hr
      obtain ⟨-, hna⟩ := hlaw.not_mem_erase p
      rw [hTactive, hleft]
      exact hna
    rw [hleaves, hjoins, Bool.or_false, hsession]
    cases hr : e.record.body.isEligible with
    | true => rw [Bool.true_and]
    | false => rw [Bool.false_and, decide_eq_false (hoff hr)]
  have hqueue' : T.queueTaken p new = s.queueTaken p new := by
    rw [hqueue, State.queueTaken, hleaves, hjoins, hsession, hTqueue]
    cases hr : e.record.body.isEligible with
    | true => exact heraseq
    | false => exact (s.queueTaken_of_not_eligible hlaw hr).1
  have hactive' : (if (T.session p).leaves new then T.active.erase p else T.active) =
      if (s.session p).leaves new then s.active.erase p else s.active := by
    rw [hactive, hleaves, hsession, hTactive]
    cases hr : e.record.body.isEligible with
    | true => exact herasea
    | false => exact (s.queueTaken_of_not_eligible hlaw hr).2
  have halloc : T.alloc.set p ((T.allocOf p).moved true v' ((T.session p).leaves new)) =
      s.alloc.set p ((s.allocOf p).moved true v' ((s.session p).leaves new)) := by
    have hidleOf : (s.session p).body.isEligible = false → (s.allocOf p).idle = s.allocOf p := fun he =>
      hidle.idle_eq (hlaw.not_mem he).2
    rw [hrecordOf, hleaves, hleaves, hsession, SessionRec.leaves, AllocRec.moved_moved hidleOf, ← hT]
    exact Table.set_set ..
  rw [State.padTaken]
  dsimp only [Option.isSome_some]
  rw [hports, hround, hqueue', hactive', halloc, hstore]
  rw [← hT]
  simp only [State.padTaken, Table.set_set]
  rfl

end Compose

end Sys2Proof.Machine
end

section
/-! PROOFS. The sixth overdraw in a row, and the latch that it makes at once or when the session controller takes the report
(R75 to R77). -/

namespace Sys2Proof.Machine

/-! ### Pause and cap step after the noted report (R75, R86, R145, R147) -/

/-- A pad's record with the pause of a report started or ended. -/
def State.pauseNoted (u : State) (p : Pad) (current : Bool) (state : ChargerState) : AllocRec :=
  (u.allocOf p).pausedBy (u.pausesOn p current state) (u.unpausesOn p current state)

/-- The pause and step 5 of R75, in one expression. -/
theorem State.pauseBy_capStep (u : State) (p : Pad) (current : Bool) (state : ChargerState) (old : Nat) :
    (u.pauseBy p current state).capStep p current old =
      { u with
        alloc := u.alloc.set p ((u.pauseNoted p current state).limited (u.capLimit p current old))
        roundRequest := ((u.roundRequest || u.unpausesOn p current state) || (current && decide (old < u.capOf p))) ||
          (u.capLimit p current old).any fun x => decide (x < (u.pauseNoted p current state).setpoint) } := by
  rw [State.capStep_eq, State.pauseBy_eq]
  generalize hw : ({ u with
    alloc := u.alloc.set p ((u.allocOf p).pausedBy (u.pausesOn p current state) (u.unpausesOn p current state))
    roundRequest := u.roundRequest || u.unpausesOn p current state } : State) = w
  have hrecord : w.allocOf p = u.pauseNoted p current state := by rw [← hw]; exact Table.get_set_self ..
  have hcap : w.capOf p = u.capOf p := by
    refine State.capOf_congr ?_ ?_ ?_ (by rw [hrecord]; rfl) <;> rw [← hw]
  have hlimit : w.capLimit p current old = u.capLimit p current old := by
    rw [State.capLimit, State.capLimit, hcap, ← hw]
  rw [hrecord, hcap, hlimit, ← hw]
  simp only [Table.set_set]

/-- Off the active list only a rise of the cap shows, as a round request (R86). -/
theorem State.pauseBy_capStep_of_off {u : State} {p : Pad} (hoff : p ∉ u.active) (current : Bool) (state : ChargerState)
    (old : Nat) :
    (u.pauseBy p current state).capStep p current old =
      { u with roundRequest := u.roundRequest || (current && decide (old < u.capOf p)) } := by
  have hpauses : u.pausesOn p current state = false := by simp [State.pausesOn, hoff]
  have hunpauses : u.unpausesOn p current state = false := by simp [State.unpausesOn, hoff]
  have hlimit : u.capLimit p current old = none := by simp [State.capLimit, hoff]
  have hrecord : (u.pauseNoted p current state).limited none = u.allocOf p := by
    rw [State.pauseNoted, hpauses, hunpauses]
    simp [AllocRec.pausedBy, AllocRec.limited, limitBy]
  rw [State.pauseBy_capStep, hlimit, hunpauses, hrecord, u.alloc_set_allocOf, Option.any_none, Bool.or_false,
    Bool.or_false]

/-! ### The sixth overdraw at the allocator (R77) -/

/-- The record of a pad whose report reached the compliance limit: a hold neither ends nor counts. -/
def AllocRec.atSixth (a : AllocRec) (r : Report) : AllocRec := a.take r true true false false

theorem AllocRec.atSixth_eq {a : AllocRec} (r : Report) (h : 5 ≤ a.compliance) :
    a.atSixth r =
      { a with measured := r.measured, accept := r.accept, compliance := 0, mode := (a.atSixth r).mode } := by
  have hlimit : a.atLimit true = true := by rw [AllocRec.atLimit, Bool.true_and, decide_eq_true_eq]; omega
  rw [AllocRec.atSixth, AllocRec.take, hlimit, AllocRec.takeMode_frame]
  rfl

theorem AllocRec.atSixth_mode (a : AllocRec) (r : Report) :
    (a.atSixth r).mode = match a.mode with | .start => .normal | .normal => .normal | .hold v k => .hold v k := by
  rw [AllocRec.atSixth, AllocRec.take, AllocRec.takeMode_mode]
  cases a.mode <;> rfl

section Sixth

variable {s : State} {h : Handed} {rest : List Handed}

theorem State.limitDue_current (hlimit : s.limitDue h = true) : s.currentAt h = true ∧
    (s.beforeOf h).setpoint + 3 < h.report.measured ∧ 5 ≤ (s.allocOf h.pad).compliance := by
  rw [s.limitDue_eq] at hlimit
  simpa [and_assoc] using hlimit

/-- The allocator's taking of a report that reaches the limit. -/
theorem State.takeAtAllocator_of_limit (hlimit : s.limitDue h = true) :
    s.takeAtAllocator h (s.beforeOf h) =
      ⟨((if h.bySession then (s.setAlloc h.pad ((s.allocOf h.pad).atSixth h.report)).latchNoncompliant h (s.beforeOf h)
        else s.setAlloc h.pad ((s.allocOf h.pad).atSixth h.report)).pauseBy h.pad true h.report.state).capStep h.pad true
          (s.capOf h.pad), true⟩ := by
  obtain ⟨hcurrent, hover, -⟩ := State.limitDue_current hlimit
  have hoverdraws : overdraws (s.currentAt h) (s.beforeOf h) h.report = true := by
    rw [overdraws, hcurrent, Bool.true_and]; exact decide_eq_true hover
  have hatLimit : (s.allocOf h.pad).atLimit (overdraws (s.currentAt h) (s.beforeOf h) h.report) = true := hlimit
  have hrecord : (s.allocOf h.pad).take h.report (s.currentAt h) (overdraws (s.currentAt h) (s.beforeOf h) h.report)
      (h.endsHold (s.linkOf h.pad).state && !true) (h.countsHold (s.linkOf h.pad).state && !true) =
        (s.allocOf h.pad).atSixth h.report := by
    rw [hoverdraws, hcurrent, Bool.not_true, Bool.and_false, Bool.and_false, AllocRec.atSixth]
  unfold State.takeAtAllocator
  extract_lets p r current overdraw limit link s4 s4'
  have hlimit' : limit = true := hlimit
  have hcurrent' : current = true := hcurrent
  have hs4 : s4 = s.setAlloc h.pad ((s.allocOf h.pad).atSixth h.report) := by
    simp only [s4, hlimit']
    exact congrArg _ hrecord
  have hs4' : s4' = if h.bySession then s4.latchNoncompliant h (s.beforeOf h) else s4 := by
    simp only [s4', hlimit', Bool.true_and]
  rw [hs4', hs4, hlimit', hcurrent']

theorem State.allocatorTakes_of_limit (hhanded : s.handed = h :: rest) (hby : h.byAllocator = false)
    (hlimit : s.limitDue h = true) :
    s.allocatorTakes = { (s.takeAtAllocator h (s.beforeOf h)).state with
      handed := keepUntaken { h with byAllocator := true, before := some (s.beforeOf h), noncompliant := true } ++ rest } := by
  have hfirst : firstUntaken (·.byAllocator) s.handed = some ([], h, rest) := by simp [hhanded, firstUntaken, hby]
  have hatLimit : (s.takeAtAllocator h (s.beforeOf h)).atLimit = true := hlimit
  unfold State.allocatorTakes
  rw [hfirst]
  dsimp only
  rw [hatLimit, List.nil_append]

/-- NONCOMPLIANT_LATCH is the allocator's taking of the report that reaches the limit (R77). -/
theorem exec_noncompliantLatch_of_limit (hhanded : s.handed = h :: rest) (hby : h.byAllocator = false)
    (hlimit : s.limitDue h = true) : exec .noncompliantLatch s = exec .allocatorReport s := by
  have hfirst : firstUntaken (·.byAllocator) s.handed = some ([], h, rest) := by simp [hhanded, firstUntaken, hby]
  change execNoncompliantLatch s = execAllocatorReport s
  rw [execNoncompliantLatch, execAllocatorReport, hfirst]
  dsimp only
  rw [if_pos hlimit]

end Sixth

/-! ### What the latch leaves -/

/-- What NoncompliantLatched says of the latch besides the allocator record and the round request: `v` is the state that the
report itself leaves. -/
def State.NoncompliantLeaves (s v : State) (h : Handed) (rest : List Handed) (t : State) : Prop :=
  t.faultOf h.pad = some
    (latchedRecord (v.faultOf h.pad) .noncompliant none s.timer.slot (v.session h.pad).body.tag) ∧
  t.padState h.pad = (if s.padState h.pad = .locked then .locked else .faulted) ∧
  (t.session h.pad).body.token = 0 ∧
  ((v.session h.pad).body.terms.isSome = true → (t.session h.pad).last.map (·.ending) = some .fault) ∧
  ((v.session h.pad).body.terms = none → (t.session h.pad).last = (v.session h.pad).last) ∧
  (∀ q, q ≠ h.pad → t.session q = s.session q ∧ (s.allocOf q).Released (t.allocOf q)) ∧
  t.queue = s.queue.erase h.pad ∧
  t.active = s.active.erase h.pad ∧
  t.store.image = { s.store.image with fault := s.store.image.fault.set h.pad (t.faultOf h.pad) } ∧
  (if (t.faultOf h.pad) = s.faultOf h.pad then t.store = s.store else s.store.Queued t.store [⟨.fault, h.pad⟩]) ∧
  t.ports = (s.enterPads fun q => decide (q = h.pad) &&
    (decide (t.faultOf h.pad ≠ s.faultOf h.pad) || decide
    ((s.session h.pad).reported ≠ (t.session h.pad).reported))).ports ∧
  t.handed = rest ∧
  t = { s with
        sessions := t.sessions, alloc := t.alloc, queue := t.queue, active := t.active,
        roundRequest := t.roundRequest, handed := t.handed, ports := t.ports, store := t.store }

/-- The outcome that an open session's ending writes, and none where no session was open (R22). -/
theorem SessionRec.latched_last (r : SessionRec) (slot : Word16) :
    (r.body.terms.isSome = true → (r.latched slot).last.map (·.ending) = some .fault) ∧
      (r.body.terms = none → (r.latched slot).last = r.last) := by
  obtain ⟨b, seq, last⟩ := r
  cases b with
  | binding | matched => exact ⟨fun _ => rfl, nofun⟩
  | _ => exact ⟨nofun, fun _ => rfl⟩

/-- A pad without a session held by its records stays as it is, and any other is FAULTED (R23). -/
theorem SessionRec.Follows.latched_name {old r : SessionRec} (h : old.Follows r) (slot : Word16) :
    (r.latched slot).body.name = if old.body.name = .locked then .locked else .faulted := by
  rw [SessionRec.latched, PadBody.latched_name]
  simp only [h.locked]

/-- The store at the end of the event of a latch. -/
theorem State.Ready.storeTaken_beginWrite {s : State} (hs : s.Ready) (p : Pad) (record : FaultRec) :
    (s.storeTaken p (some record)).beginWrite = s.storeAfterLatch p record := by
  obtain ⟨-, -, hidle⟩ := hs
  rw [State.storeTaken_some, State.storeAfterLatch]
  split
  · exact Store.beginWrite_eq_self hidle
  · rfl

/-- A latch leaves the pad's record idle and in the hold, on the list or not. -/
theorem AllocRec.moved_latched {a : AllocRec} {elig : Bool} (hidle : elig = false → a.idle = a) (v : Nat) :
    a.moved true v elig =
      { a with target := 0, setpoint := 0, rampBase := 0, starvation := 0, paused := false, mode := .hold v 8 } := by
  cases elig with
  | true => rfl
  | false =>
    rw [← hidle rfl]
    rfl

/-- A latch that follows the taking of a report, at the end of its event. -/
theorem State.padTaken_noncompliantLeaves {s v : State} {h : Handed} {rest : List Handed} {alloc : Table 24 AllocRec}
    {request : Bool} {holdValue : Nat} {record : FaultRec} (hs : s.Ready) (hlaw : s.MembershipLaw)
    (hfollows : (s.session h.pad).Follows (v.session h.pad))
    (hrecord : record = latchedRecord (v.faultOf h.pad) .noncompliant none s.timer.slot (v.session h.pad).body.tag)
    (hne : ∀ q, q ≠ h.pad → (s.allocOf q).Released (alloc.get q)) :
    s.NoncompliantLeaves v h rest
      { s.padTaken h.pad ⟨(v.session h.pad).latched s.timer.slot, some record⟩ holdValue with
        alloc := alloc
        roundRequest := request
        handed := rest
        store := (s.storeTaken h.pad (some record)).beginWrite } := by
  obtain ⟨hqueue, hactive⟩ := s.queueTaken_of_not_eligible (p := h.pad)
    (r := (v.session h.pad).latched s.timer.slot) hlaw (PadBody.isEligible_latched _)
  obtain ⟨hending, hkept⟩ := (v.session h.pad).latched_last s.timer.slot
  rw [hs.storeTaken_beginWrite]
  generalize ht : ({ s.padTaken h.pad ⟨(v.session h.pad).latched s.timer.slot, some record⟩ holdValue with
    alloc := alloc
    roundRequest := request
    handed := rest
    store := s.storeAfterLatch h.pad record } : State) = t
  have hfault : t.faultOf h.pad = some record := by
    rw [State.faultOf, ← ht]
    change (s.storeAfterLatch h.pad record).image.fault.get h.pad = _
    rw [State.storeAfterLatch_image]
    exact Table.get_set_self ..
  have hsession : t.session h.pad = (v.session h.pad).latched s.timer.slot := by
    rw [← ht]; exact Table.get_set_self ..
  unfold State.NoncompliantLeaves
  rw [hfault, State.padState, hsession, ← hrecord, ← ht]
  exact ⟨rfl, hfollows.latched_name s.timer.slot, PadBody.latched_token _, hending, hkept,
    fun q hq => ⟨Table.get_set_ne _ _ hq, hne q hq⟩, hqueue, hactive, s.storeAfterLatch_image .., s.storeAfterLatch_queued ..,
    rfl, rfl, rfl⟩

end Sys2Proof.Machine
end

section
/-! PROOFS. NONCOMPLIANT_LATCH, in both orders of the two blocks (R75 to R77). -/

namespace Sys2Proof.Machine

section Clauses

variable {s : State} {h : Handed} {rest : List Handed}

/-- The NONCOMPLIANT latch, as a taking (R77). -/
theorem State.latchNoncompliant_eq (u : State) (h : Handed) (before : Before) :
    u.latchNoncompliant h before =
      u.padTaken h.pad ⟨(u.session h.pad).latched u.timer.slot, some (latchedRecord (u.faultOf h.pad) .noncompliant none
        u.timer.slot (u.session h.pad).body.tag)⟩
        (max (if before.wasStart then u.rating h.pad else u.exposure h.pad) h.report.measured) :=
  State.latch_eq_padTaken ..

theorem State.limitDue_of (hcurrent : s.currentAt h = true) (hover : (s.beforeOf h).setpoint + 3 < h.report.measured)
    (hcount : 5 ≤ (s.allocOf h.pad).compliance) : s.limitDue h = true := by
  rw [s.limitDue_eq, hcurrent, decide_eq_true hover, decide_eq_true hcount]; rfl

/-- The exposure of the pad when the latch is made, with the report's power (R70, R77). -/
theorem AllocRec.exposure_atSixth {a : AllocRec} {r : Report} (hcount : 5 ≤ a.compliance) (rating : Nat) :
    (a.atSixth r).exposure rating =
      max (max a.setpoint (match a.mode with | .hold v _ => v | _ => 0)) r.measured := by
  have hmode := a.atSixth_mode r
  rw [AllocRec.atSixth_eq r hcount, hmode, AllocRec.exposure]
  cases a.mode with
  | start => simp
  | normal => simp
  | hold v k => simp [max_comm, max_left_comm]

/-- The record stays idle with the sixth overdraw noted. -/
theorem AllocRec.idle_atSixth {a : AllocRec} (r : Report) (h : 5 ≤ a.compliance) (hidle : a.idle = a) :
    (a.atSixth r).idle = a.atSixth r := by
  rw [AllocRec.atSixth_eq r h]
  generalize (a.atSixth r).mode = mode
  rw [← hidle]
  rfl

/-- The cap in force after the end of an event follows from the rating, the accepted limit and the plan cell (R52). -/
theorem State.capOf_eq_of {u t : State} {p : Pad} (hrating : t.rating p = u.rating p)
    (haccept : (t.allocOf p).accept = (u.allocOf p).accept) (hcell : t.padCell p = u.padCell p) :
    t.capOf p = u.capOf p := by
  rw [State.capOf, State.capOf, hrating, haccept, hcell]

/-- The state after a taking, its pad's allocator record being `a`. -/
def State.padTakenWith (s : State) (p : Pad) (e : PadTaking) (a : AllocRec) : State :=
  { s.padTaken p e 0 with alloc := s.alloc.set p a }

/-- The latch on a record that the allocator has put in place. -/
theorem State.latchNoncompliant_setAlloc (s : State) (h : Handed) (before : Before) (a : AllocRec) :
    (s.setAlloc h.pad a).latchNoncompliant h before =
      s.padTakenWith h.pad ⟨(s.session h.pad).latched s.timer.slot, some (latchedRecord (s.faultOf h.pad) .noncompliant
          none s.timer.slot (s.session h.pad).body.tag)⟩
        (a.moved true (max (if before.wasStart then s.rating h.pad else a.exposure (s.rating h.pad)) h.report.measured)
          (s.session h.pad).body.isEligible) := by
  have hexposure : (s.setAlloc h.pad a).exposure h.pad = a.exposure (s.rating h.pad) := by
    rw [State.exposure, State.allocOf_setAlloc_self]; rfl
  obtain ⟨hleaves, -⟩ := (s.session h.pad).leaves_latched (s.session h.pad) s.timer.slot
  have hleaves' : ((s.setAlloc h.pad a).session h.pad).leaves (((s.setAlloc h.pad a).session h.pad).latched
    (s.setAlloc h.pad a).timer.slot) = (s.session h.pad).body.isEligible := hleaves
  rw [State.latchNoncompliant_eq, hexposure, State.padTaken, State.allocOf_setAlloc_self, hleaves']
  simp only [State.setAlloc, Table.set_set]
  rw [State.padTakenWith, State.padTaken, hleaves]
  rfl

/-- The allocator's event when the session controller took the report before (R77). -/
theorem State.Ready.sixthTogether (hs : s.Ready) (hlaw : s.MembershipLaw) (hidle : s.IdleOffList)
    (hhanded : s.handed = h :: rest) (hby : h.byAllocator = false) (hbySession : h.bySession = true)
    (hlimit : s.limitDue h = true) :
    ∃ t : State, exec .allocatorReport s = .next t ∧
      t.allocOf h.pad = { s.allocOf h.pad with
        target := 0, setpoint := 0, rampBase := 0, starvation := 0, paused := false, compliance := 0
        measured := h.report.measured, accept := h.report.accept
        mode := .hold (max (if (s.beforeOf h).wasStart then s.rating h.pad else
          ((s.allocOf h.pad).atSixth h.report).exposure (s.rating h.pad)) h.report.measured) 8 } ∧
      t.roundRequest = (s.roundRequest || decide (h.pad ∈ s.active) || decide (s.capOf h.pad < t.capOf h.pad)) ∧
      s.NoncompliantLeaves s h rest t := by
  obtain ⟨hcurrent, hover, hcount⟩ := State.limitDue_current hlimit
  obtain ⟨hpowered, -⟩ := id hs
  have htaken := State.latchNoncompliant_setAlloc s h (s.beforeOf h) ((s.allocOf h.pad).atSixth h.report)
  generalize max (if (s.beforeOf h).wasStart then s.rating h.pad else
    ((s.allocOf h.pad).atSixth h.report).exposure (s.rating h.pad)) h.report.measured = holdValue at htaken ⊢
  generalize hnew : (⟨(s.session h.pad).latched s.timer.slot, some (latchedRecord (s.faultOf h.pad) .noncompliant none
    s.timer.slot (s.session h.pad).body.tag)⟩ : PadTaking) = e at htaken
  obtain ⟨hqueue, hactive⟩ := s.queueTaken_of_not_eligible (p := h.pad) (r := e.record) hlaw
    (by rw [← hnew]; exact PadBody.isEligible_latched _)
  have hround : (s.padTaken h.pad e 0).roundRequest = (s.roundRequest || decide (h.pad ∈ s.active)) := by
    obtain ⟨hleaves, hjoins⟩ := (s.session h.pad).leaves_latched (s.session h.pad) s.timer.slot
    rw [State.padTaken, ← hnew]
    dsimp only
    rw [hleaves, hjoins, Bool.or_false, hlaw.isEligible_and_mem_active]
  generalize hlatched : s.padTakenWith h.pad e
    (((s.allocOf h.pad).atSixth h.report).moved true holdValue (s.session h.pad).body.isEligible) = u at htaken
  have hround' : u.roundRequest = (s.roundRequest || decide (h.pad ∈ s.active)) := by rw [← hlatched]; exact hround
  have hoff : h.pad ∉ u.active := by
    rw [← hlatched]
    change h.pad ∉ if (s.session h.pad).leaves e.record then s.active.erase h.pad else s.active
    rw [hactive]
    exact (hlaw.not_mem_erase h.pad).2
  have hrecord : u.allocOf h.pad = { s.allocOf h.pad with
      target := 0, setpoint := 0, rampBase := 0, starvation := 0, paused := false, compliance := 0
      measured := h.report.measured, accept := h.report.accept, mode := .hold holdValue 8 } := by
    rw [← hlatched]
    refine (Table.get_set_self ..).trans ?_
    rw [AllocRec.moved_latched fun he => AllocRec.idle_atSixth _ hcount (hidle.idle_eq (hlaw.not_mem he).2),
      AllocRec.atSixth_eq _ hcount]
  have htakes : s.allocatorTakes = { u with
      roundRequest := (s.roundRequest || decide (h.pad ∈ s.active)) || decide (s.capOf h.pad < u.capOf h.pad)
      handed := rest } := by
    rw [State.allocatorTakes_of_limit hhanded hby hlimit, State.takeAtAllocator_of_limit hlimit, if_pos hbySession, htaken,
      State.pauseBy_capStep_of_off hoff, ← hround']
    simp only [keepUntaken, hbySession, Bool.and_true, if_true, List.nil_append, Bool.true_and]
  obtain ⟨alloc, hevent, hreleased⟩ := State.event_released hpowered s.allocatorTakes
  have hkept : alloc.get h.pad = u.allocOf h.pad := by
    have hself := hreleased h.pad
    rw [htakes] at hself
    exact AllocRec.Released.eq hself (by rw [hrecord])
  have hne : ∀ q, q ≠ h.pad → (s.allocOf q).Released (alloc.get q) := fun q hq => by
    have hother := hreleased q
    rw [htakes] at hother
    change (u.allocOf q).Released (alloc.get q) at hother
    rwa [← hlatched, State.allocOf, State.padTakenWith, Table.get_set_ne _ _ hq] at hother
  have hevent' : exec .allocatorReport s = .next { u with
      alloc := alloc
      roundRequest := (s.roundRequest || decide (h.pad ∈ s.active)) || decide (s.capOf h.pad < u.capOf h.pad)
      handed := rest
      store := u.store.beginWrite } := hevent.trans (by rw [htakes])
  refine ⟨_, hevent', hkept.trans hrecord, ?request, ?leaves⟩
  case request =>
    obtain ⟨himage, -, -⟩ := u.store.beginWrite_frame
    have hcap := State.capOf_eq_of (u := u) (t := { u with alloc := alloc, store := u.store.beginWrite }) (p := h.pad)
      (congrArg (fun image => image.rating.get h.pad) himage) (congrArg AllocRec.accept hkept) rfl
    exact congrArg (fun cap => s.roundRequest || decide (h.pad ∈ s.active) || decide (s.capOf h.pad < cap)) hcap.symm
  case leaves =>
    rw [← hlatched, ← hnew]
    exact State.padTaken_noncompliantLeaves (holdValue := 0) hs hlaw (.refl _) rfl hne

/-- The allocator's event when the session controller has still to take the report: nothing is latched yet (R77,
notes/assumptions/13.md). -/
theorem State.Ready.sixthWaits (hs : s.Ready) (hhanded : s.handed = h :: rest) (hby : h.byAllocator = false)
    (hbySession : h.bySession = false) (hlimit : s.limitDue h = true) :
    ∃ alloc, exec .allocatorReport s = .next { s with
        alloc := alloc
        roundRequest := ((s.roundRequest || s.unpausesOn h.pad true h.report.state) ||
          decide (s.capOf h.pad < s.capNoted h)) || (s.limitNoted h).any fun x =>
            decide (x < if s.pausesOn h.pad true h.report.state then 0 else (s.allocOf h.pad).setpoint)
        handed := { h with byAllocator := true, before := some (s.beforeOf h), noncompliant := true } :: rest } ∧
      ((((s.allocOf h.pad).atSixth h.report).pausedBy (s.pausesOn h.pad true h.report.state)
        (s.unpausesOn h.pad true h.report.state)).limited (s.limitNoted h)).Released (alloc.get h.pad) ∧
      ∀ q, q ≠ h.pad → (s.allocOf q).Released (alloc.get q) := by
  obtain ⟨hcurrent, -, hcount⟩ := State.limitDue_current hlimit
  have hsixth := AllocRec.atSixth_eq h.report hcount
  have htaken := State.takeAtAllocator_of_limit hlimit
  rw [if_neg (by rw [hbySession]; exact nofun)] at htaken
  generalize (s.allocOf h.pad).atSixth h.report = a at hsixth htaken ⊢
  generalize hu : s.setAlloc h.pad a = u at htaken
  have hrecord : u.allocOf h.pad = a := by rw [← hu]; exact State.allocOf_setAlloc_self ..
  have hpaused : a.paused = (s.allocOf h.pad).paused := by rw [hsixth]
  have hpauses : u.pausesOn h.pad true h.report.state = s.pausesOn h.pad true h.report.state := by
    rw [State.pausesOn, hrecord, hpaused, ← hu]; rfl
  have hunpauses : u.unpausesOn h.pad true h.report.state = s.unpausesOn h.pad true h.report.state := by
    rw [State.unpausesOn, hrecord, hpaused, ← hu]; rfl
  have hcap : u.capOf h.pad = s.capNoted h := by
    rw [State.capOf, hrecord, hsixth, State.capNoted, hcurrent, ← hu]; rfl
  have hlimitNoted : u.capLimit h.pad true (s.capOf h.pad) = s.limitNoted h := by
    rw [State.capLimit, hcap, State.limitNoted, hcurrent, ← hu]; rfl
  have hnoted : u.pauseNoted h.pad true h.report.state =
      a.pausedBy (s.pausesOn h.pad true h.report.state) (s.unpausesOn h.pad true h.report.state) := by
    rw [State.pauseNoted, hrecord, hpauses, hunpauses]
  rw [State.pauseBy_capStep, hunpauses, hcap, hlimitNoted, hnoted, Bool.true_and] at htaken
  have htakes := State.allocatorTakes_of_limit hhanded hby hlimit
  rw [htaken] at htakes
  have hround : u.roundRequest = s.roundRequest := by rw [← hu]; rfl
  obtain ⟨alloc, hevent, hreleased⟩ := hs.event_released (after := s.allocatorTakes) (by rw [htakes, ← hu]; rfl)
  refine ⟨alloc, hevent.trans ?_, ?_, fun q hq => ?_⟩
  · have hset : (a.pausedBy (s.pausesOn h.pad true h.report.state) (s.unpausesOn h.pad true h.report.state)).setpoint =
        if s.pausesOn h.pad true h.report.state then 0 else (s.allocOf h.pad).setpoint := by
      rw [AllocRec.pausedBy, hsixth]
    rw [htakes, hround, hset, ← hu]
    simp only [keepUntaken, hbySession, Bool.false_and, Bool.false_eq_true, if_false]
    rfl
  · have hself := hreleased h.pad
    rw [htakes, State.allocOf] at hself
    rwa [Table.get_set_self] at hself
  · have hother := hreleased q
    rw [htakes, State.allocOf, Table.get_set_ne _ _ hq, ← hu, State.setAlloc, Table.get_set_ne _ _ hq] at hother
    exact hother

/-- Whether the session controller's taking keeps every allocator record, or leaves that of the pad without a raise. -/
theorem State.SessionTaking.alloc_cases (hlaw : s.MembershipLaw) (hidle : s.IdleOffList) {e : PadTaking}
    (he : s.SessionTaking h e) (v : Nat) :
    ((s.padTaken h.pad e v).alloc = s.alloc ∧ (s.padTaken h.pad e v).store = s.store) ∨
      ((s.padTaken h.pad e v).allocOf h.pad).target = 0 := by
  rw [State.allocOf_padTaken]
  cases hleaves : (s.session h.pad).leaves e.record with
  | true => exact .inr rfl
  | false =>
    cases hf : e.fault with
    | none =>
      refine .inl ⟨?_, by rw [State.padTaken, hf]; rfl⟩
      rw [State.padTaken, hf, hleaves]
      exact s.alloc_set_allocOf h.pad
    | some record =>
      obtain ⟨hrecord, -⟩ := he.latched record hf
      have helig : (s.session h.pad).body.isEligible = false := by simpa [SessionRec.leaves, hrecord] using hleaves
      obtain ⟨-, htarget, -⟩ := hidle h.pad (hlaw.not_mem helig).2
      exact .inr htarget

/-- The end of the event of a session controller's taking releases no raise of its own pad (R79, R80). -/
theorem State.Ready.event_sessionTaking (hs : s.Ready) (hlaw : s.MembershipLaw) (hidle : s.IdleOffList) {e : PadTaking}
    (he : s.SessionTaking h e) (v : Nat) (handed : List Handed) :
    ∃ alloc, s.event { s.padTaken h.pad e v with handed := handed } = .next { s.padTaken h.pad e v with
        handed := handed, alloc := alloc, store := (s.padTaken h.pad e v).store.beginWrite } ∧
      alloc.get h.pad = (s.padTaken h.pad e v).allocOf h.pad ∧
      ∀ q, q ≠ h.pad → (s.allocOf q).Released (alloc.get q) := by
  obtain ⟨hpowered, -, hwrites⟩ := id hs
  obtain ⟨halloc, hstore⟩ | htarget := he.alloc_cases hlaw hidle v
  · refine ⟨s.alloc, ?_, by rw [State.allocOf, halloc], fun q _ => .inl rfl⟩
    rw [hs.event (after := { s.padTaken h.pad e v with handed := handed }) halloc hstore rfl, hstore,
      Store.beginWrite_eq_self hwrites, ← halloc, ← hstore]
  · obtain ⟨alloc, hevent, hreleased⟩ := State.event_released hpowered { s.padTaken h.pad e v with handed := handed }
    refine ⟨alloc, hevent, AllocRec.Released.eq (hreleased h.pad) ?_, fun q hq => ?_⟩
    · exact htarget.le.trans (Nat.zero_le _)
    · have hother := hreleased q
      rwa [State.allocOf, State.padTaken, Table.get_set_ne _ _ hq] at hother

/-- A taking that leaves the reported fields of a latch left them all (R4, R23). -/
theorem SessionRec.Follows.reported_eq {old r : SessionRec} (h : old.Follows r) (slot : Word16)
    (hlatched : old.reported = (r.latched slot).reported) : r.reported = old.reported := by
  have hname := congrArg Prod.fst hlatched
  have hlatchedName := h.latched_name slot
  change old.body.name = (r.latched slot).body.name at hname
  cases hheld : old.body.isHeld with
  | true => rw [h.held hheld]
  | false =>
    rw [hlatchedName] at hname
    cases hb : old.body with
    | matched phase => rw [hb] at hname; cases phase <;> exact absurd hname nofun
    | faulted => rw [hb] at hheld; exact absurd hheld nofun
    | locked => rw [hb] at hheld; exact absurd hheld nofun
    | _ => rw [hb] at hname; exact absurd hname nofun

/-- The session controller's taking of a report whose NONCOMPLIANT latch waits for it (R77). -/
theorem State.sessionTakes_of_noncompliant (hhanded : s.handed = h :: rest) (hbyAllocator : h.byAllocator = true)
    (hbySession : h.bySession = false) (hnon : h.noncompliant = true) :
    s.sessionTakes =
      { (s.takeAtSession h (s.beforeOf h)).state.latchNoncompliant h (s.beforeOf h) with handed := rest } := by
  simp only [State.sessionTakes, hhanded, firstUntaken, hbySession, hbyAllocator, hnon, Bool.and_true,
    Bool.false_eq_true, if_false, if_true, keepUntaken, List.map_nil, ite_self, List.nil_append]

/-- What the session controller's event leaves when no latch waits for it. -/
theorem State.Ready.sessionReport_alone {v : State} {e : PadTaking} (hs : s.Ready) (hlaw : s.MembershipLaw)
    (hidle : s.IdleOffList) (hbySession : h.bySession = false) (he : s.SessionTaking h e)
    (hv : exec .sessionReport { s with handed := { h with noncompliant := false } :: rest } = .next v) :
    ∃ handed alloc, v = { s.padTaken h.pad e (s.latchHoldValue h (s.beforeOf h)) with
        handed := handed, alloc := alloc
        store := (s.padTaken h.pad e (s.latchHoldValue h (s.beforeOf h))).store.beginWrite } ∧
      alloc.get h.pad = (s.padTaken h.pad e (s.latchHoldValue h (s.beforeOf h))).allocOf h.pad := by
  generalize hg : ({ h with noncompliant := false } : Handed) = g at hv
  generalize hu : ({ s with handed := g :: rest } : State) = u at hv
  have hnext : u.SessionNext g rest := by rw [← hu, ← hg]; exact ⟨rfl, hbySession, rfl⟩
  have hsame : s.SamePad u h.pad := by rw [← hu]; exact ⟨rfl, rfl, rfl, rfl⟩
  have hstep := he.taken u g (u.beforeOf g) hsame (by rw [← hg]; exact ⟨rfl, rfl, rfl⟩)
  have hvalue : u.latchHoldValue g (u.beforeOf g) = s.latchHoldValue h (s.beforeOf h) := by rw [← hu, ← hg]; rfl
  have he' : u.SessionTaking h e := by
    rw [← hu]
    exact ⟨he.follows, he.current, he.latched, fun t g before ht hg =>
      he.taken t g before ⟨ht.session, ht.fault, ht.link, ht.slot⟩ hg⟩
  change u.event u.sessionTakes = _ at hv
  rw [hnext.takes, hstep, hvalue] at hv
  obtain ⟨alloc, hevent, hself, -⟩ := State.Ready.event_sessionTaking (s := u) (by rw [← hu]; exact hs)
    (by rw [← hu]; exact hlaw) (by rw [← hu]; exact hidle) he' (s.latchHoldValue h (s.beforeOf h))
    (u.handedAfterSession g rest e.fault.isSome)
  refine ⟨u.handedAfterSession g rest e.fault.isSome, alloc, (Host.Outcome.next.inj (hv.symm.trans hevent)).trans ?_,
    hself.trans ?_⟩
  · rw [← hu]; rfl
  · rw [← hu]; rfl

theorem firstUntaken_eq_none {taken : Handed → Bool} {l : List Handed} (h : ∀ x ∈ l, taken x = true) :
    firstUntaken taken l = none := by
  induction l with
  | nil => rfl
  | cons x rest ih =>
    rw [firstUntaken, if_pos (h x List.mem_cons_self), ih fun y hy => h y (List.mem_cons_of_mem _ hy)]

/-- NONCOMPLIANT_LATCH is the session controller's taking of the report whose latch waits, when the allocator has taken every
report (R77). -/
theorem exec_noncompliantLatch_of_waiting (hhanded : s.handed = h :: rest) (hbyAllocator : h.byAllocator = true)
    (hbySession : h.bySession = false) (hnon : h.noncompliant = true) (hrest : ∀ x ∈ rest, x.byAllocator = true) :
    exec .noncompliantLatch s = exec .sessionReport s := by
  have hnone : firstUntaken (·.byAllocator) s.handed = none := by
    rw [hhanded]
    refine firstUntaken_eq_none fun x hx => ?_
    obtain rfl | hx := List.mem_cons.mp hx
    · exact hbyAllocator
    · exact hrest x hx
  have hfirst : firstUntaken (·.bySession) s.handed = some ([], h, rest) := by
    simp [hhanded, firstUntaken, hbySession]
  change execNoncompliantLatch s = execSessionReport s
  rw [execNoncompliantLatch, execSessionReport, hnone, hfirst]
  dsimp only
  rw [if_neg Bool.false_ne_true, if_pos (by rw [hbyAllocator, hnon]; rfl)]

/-- The session controller's event when the latch waits for it: the latch is made on what the report itself leaves, `v`
being that at the end of an event of its own (R77, notes/assumptions/13.md). -/
theorem State.Ready.sixthAfter {v : State} (hs : s.Ready) (hlaw : s.MembershipLaw) (hidle : s.IdleOffList)
    (hhanded : s.handed = h :: rest) (hbyAllocator : h.byAllocator = true) (hbySession : h.bySession = false)
    (hnon : h.noncompliant = true)
    (hv : exec .sessionReport { s with handed := { h with noncompliant := false } :: rest } = .next v) :
    ∃ t : State, exec .sessionReport s = .next t ∧
      t.allocOf h.pad = { s.allocOf h.pad with
        target := 0, setpoint := 0, rampBase := 0, starvation := 0, paused := false
        mode := .hold (max (if (s.beforeOf h).wasStart then s.rating h.pad else v.exposure h.pad) h.report.measured) 8 } ∧
      t.roundRequest = (v.roundRequest || decide (h.pad ∈ v.active)) ∧
      s.NoncompliantLeaves v h rest t := by
  obtain ⟨e, he⟩ := s.sessionTaking h
  have hstep := he.taken s h (s.beforeOf h) ⟨rfl, rfl, rfl, rfl⟩ ⟨rfl, rfl, rfl⟩
  obtain ⟨handed, alloc, hv, hself⟩ := hs.sessionReport_alone hlaw hidle hbySession he hv
  generalize s.latchHoldValue h (s.beforeOf h) = x at hstep hself hv
  have hsession : v.session h.pad = e.record := by rw [hv]; exact Table.get_set_self ..
  have himage : v.store.image = (s.padTaken h.pad e x).store.image := by
    rw [hv]
    exact (s.padTaken h.pad e x).store.beginWrite_frame.1
  have hfault : v.faultOf h.pad = e.fault.or (s.faultOf h.pad) := by
    rw [State.faultOf, himage]
    exact s.faultOf_padTaken h.pad e x
  have hexposure : v.exposure h.pad = (s.padTaken h.pad e x).exposure h.pad := by
    have hrecord : v.allocOf h.pad = (s.padTaken h.pad e x).allocOf h.pad := by rw [← hself, hv]; rfl
    rw [State.exposure, hrecord, State.rating, himage]
    rfl
  have hround : v.roundRequest = (s.padTaken h.pad e x).roundRequest := by rw [hv]
  have hactive : v.active = (s.padTaken h.pad e x).active := by rw [hv]
  generalize hrecord : latchedRecord (v.faultOf h.pad) .noncompliant none s.timer.slot (v.session h.pad).body.tag = record
  generalize hvalue : max (if (s.beforeOf h).wasStart then s.rating h.pad else v.exposure h.pad) h.report.measured = value
  have hlatch : (s.padTaken h.pad e x).latchNoncompliant h (s.beforeOf h) =
      { s.padTaken h.pad ⟨(v.session h.pad).latched s.timer.slot, some record⟩ value with
        roundRequest := v.roundRequest || decide (h.pad ∈ v.active) } := by
    rw [State.latchNoncompliant_eq, State.session_padTaken, State.faultOf_padTaken, State.rating_padTaken, ← hexposure,
      hvalue, hround, hactive, hsession]
    rw [hfault, hsession] at hrecord
    rw [← State.padTaken_padTaken hlaw hidle (PadBody.isEligible_latched _) hrecord.symm
      (he.follows.reported_eq s.timer.slot) fun r hr => (he.latched r hr).2, ← hrecord]
    rfl
  obtain ⟨hpowered, -⟩ := id hs
  obtain ⟨alloc', hevent, hreleased⟩ := State.event_released hpowered s.sessionTakes
  have htakes := State.sessionTakes_of_noncompliant hhanded hbyAllocator hbySession hnon
  rw [hstep, hlatch] at htakes
  obtain ⟨hleaves, -⟩ := (s.session h.pad).leaves_latched (v.session h.pad) s.timer.slot
  have hkept : alloc'.get h.pad = { s.allocOf h.pad with
      target := 0, setpoint := 0, rampBase := 0, starvation := 0, paused := false, mode := .hold value 8 } := by
    have hself := hreleased h.pad
    have hmoved := s.allocOf_padTaken h.pad ⟨(v.session h.pad).latched s.timer.slot, some record⟩ value
    rw [hleaves, Option.isSome_some, AllocRec.moved_latched fun he => hidle.idle_eq (hlaw.not_mem he).2] at hmoved
    rw [htakes] at hself
    change AllocRec.Released (State.allocOf (State.padTaken ..) _) _ at hself
    rw [hmoved] at hself
    exact AllocRec.Released.eq hself (Nat.le_refl _)
  have hne : ∀ q, q ≠ h.pad → (s.allocOf q).Released (alloc'.get q) := fun q hq => by
    have hother := hreleased q
    rw [htakes] at hother
    rwa [State.allocOf, State.padTaken, Table.get_set_ne _ _ hq] at hother
  have hevent' : exec .sessionReport s = .next
      { s.padTaken h.pad ⟨(v.session h.pad).latched s.timer.slot, some record⟩ value with
        alloc := alloc'
        roundRequest := v.roundRequest || decide (h.pad ∈ v.active)
        handed := rest
        store := (s.storeTaken h.pad (some record)).beginWrite } := hevent.trans (by rw [htakes]; rfl)
  refine ⟨_, hevent', hkept, rfl, ?_⟩
  exact State.padTaken_noncompliantLeaves (holdValue := value) hs hlaw (hsession ▸ he.follows) hrecord.symm hne

end Clauses

/-- Settles O37: the latch inside the allocator's event, the latch that waits, and its making by the session controller. -/
theorem noncompliantLatched : Obligations.NoncompliantLatched := by
  unfold Obligations.NoncompliantLatched
  refine ⟨?together, ?waits, ?after⟩
  case together =>
    intro h rest s hs hlaw hidle hhanded hbyAllocator hbySession hcurrent hover hcount
    have hlimit := State.limitDue_of hcurrent hover hcount
    have hmake := exec_noncompliantLatch_of_limit hhanded hbyAllocator hlimit
    obtain ⟨t, hevent, hrecord, hround, hleaves⟩ := hs.sixthTogether hlaw hidle hhanded hbyAllocator hbySession hlimit
    have hexposure := AllocRec.exposure_atSixth (r := h.report) hcount (s.rating h.pad)
    have hvalue : max (if (s.beforeOf h).wasStart then s.rating h.pad else
        ((s.allocOf h.pad).atSixth h.report).exposure (s.rating h.pad)) h.report.measured =
        max (if (s.beforeOf h).wasStart then s.rating h.pad else max (s.allocOf h.pad).setpoint
          (match (s.allocOf h.pad).mode with | .hold v _ => v | _ => 0)) h.report.measured := by
      rw [hexposure]
      split
      · rfl
      · rw [max_assoc, max_self]
    rw [hvalue] at hrecord
    exact ⟨t, hmake.trans hevent, hevent, hrecord, hround, hleaves⟩
  case waits =>
    rintro h rest current s pauses unpauses clamps cap limit setpoint target hs hhanded hby rfl hbySession hcurrent hover
      hcount rfl rfl rfl rfl rfl rfl rfl
    have hcurrentAt : s.currentAt h = true := hcurrent
    have hlimit := State.limitDue_of hcurrentAt hover hcount
    obtain ⟨alloc, hevent, hself, hne⟩ := hs.sixthWaits hhanded hby hbySession hlimit
    have hsixth := AllocRec.atSixth_eq h.report hcount
    have hmode := (s.allocOf h.pad).atSixth_mode h.report
    obtain ⟨hrecord, hsetpoint⟩ := hself.eq_setpoint
    have hnoted : s.limitNoted h = if true && decide (h.pad ∈ s.active ∧ s.capNoted h < s.capOf h.pad) then
        some (if s.capNoted h < s.feeder.pmin then 0 else s.capNoted h) else none := by
      rw [State.limitNoted, hcurrentAt]
    have hcap : s.capNoted h = limitBy (limitBy (s.rating h.pad) h.report.accept) (s.padCell h.pad) := by
      rw [State.capNoted, hcurrentAt, if_pos rfl]
    rw [hcurrent, if_pos rfl, ← hcap, ← hnoted]
    rw [AllocRec.limited, AllocRec.pausedBy, hsixth] at hrecord hsetpoint
    refine ⟨_, (exec_noncompliantLatch_of_limit hhanded hby hlimit).trans hevent, hevent, ?compliance, ?measured, ?accept,
      ?cap, ?mode, ?paused, ?target, hsetpoint, rfl, ?ramp, ?starvation, rfl, rfl, rfl, rfl, rfl, hne, rfl, rfl⟩
    case cap =>
      rw [hcap]
      exact congrArg (fun a => limitBy (limitBy (s.rating h.pad) a.accept) (s.padCell h.pad)) hrecord
    case mode => exact (congrArg AllocRec.mode hrecord).trans hmode
    case compliance => exact congrArg AllocRec.compliance hrecord
    case measured => exact congrArg AllocRec.measured hrecord
    case accept => exact congrArg AllocRec.accept hrecord
    case paused => exact congrArg AllocRec.paused hrecord
    case target => exact congrArg AllocRec.target hrecord
    case ramp => exact (congrArg AllocRec.rampBase hrecord).trans rfl
    case starvation => exact (congrArg AllocRec.starvation hrecord).trans rfl
  case after =>
    intro h rest v s hs hlaw hidle hhanded hbyAllocator hbySession hnon hv
    obtain ⟨t, hevent, hrecord, hround, hleaves⟩ :=
      hs.sixthAfter hlaw hidle hhanded hbyAllocator hbySession hnon hv
    refine ⟨t, hevent, fun hrest => ?_, hrecord, hround, hleaves⟩
    exact (exec_noncompliantLatch_of_waiting hhanded hbyAllocator hbySession hnon hrest).trans hevent

end Sys2Proof.Machine
end

section
/-! PROOFS. One report taken by the two blocks in either order: the records, and what the session controller reads (R75, R77,
R147, R148). -/

namespace Sys2Proof.Machine

/-! ### Records and exposures (R70, R75) -/

/-- What a mode holds an exposure up to (R70). -/
def ExposureMode.floor : ExposureMode → Nat
  | .hold v _ => v
  | _ => 0

theorem AllocRec.exposure_of_ne_start {a : AllocRec} (h : a.mode ≠ .start) (rating : Nat) :
    a.exposure rating = max a.mode.floor (max a.setpoint a.measured) := by
  rw [AllocRec.exposure]
  cases hm : a.mode with
  | start => exact absurd hm h
  | normal => exact (Nat.zero_max _).symm
  | hold v k => rfl

/-- A report ends START, and raises no hold value (R71, R74). -/
theorem AllocRec.takeMode_ne_start (a : AllocRec) (r : Report) (ends counts : Bool) :
    (a.takeMode r ends counts).mode ≠ .start ∧ (a.takeMode r ends counts).mode.floor ≤ a.mode.floor := by
  rw [AllocRec.takeMode_mode]
  cases a.mode with
  | start => exact ⟨nofun, Nat.le_refl _⟩
  | normal => exact ⟨nofun, Nat.le_refl _⟩
  | hold v k =>
    dsimp only
    repeat' split
    all_goals exact ⟨nofun, by simp [ExposureMode.floor]⟩

/-- The report changes nothing of a record but measured power, accepted limit, compliance count and mode (R75). -/
theorem AllocRec.take_frame (a : AllocRec) (r : Report) (current overdraw ends counts : Bool) :
    a.take r current overdraw ends counts =
      { a with
        measured := r.measured
        accept := if current then r.accept else a.accept
        compliance := if overdraw then (if a.atLimit overdraw then 0 else a.compliance + 1) else 0
        mode := (a.takeMode r ends counts).mode } := by
  rw [AllocRec.take, AllocRec.takeMode_frame, AllocRec.takeMode_mode, AllocRec.takeMode_mode]

/-- No raise is pending on the record. -/
def AllocRec.Settled (a : AllocRec) : Prop := a.target ≤ a.setpoint

theorem AllocRec.Settled.moved {a : AllocRec} (h : a.Settled) (latched : Bool) (v : Nat) (leaves : Bool) :
    (a.moved latched v leaves).Settled := by
  cases leaves with
  | true => exact Nat.le_refl _
  | false => exact h

theorem AllocRec.Settled.take {a : AllocRec} (h : a.Settled) (r : Report) (current overdraw ends counts : Bool) :
    (a.take r current overdraw ends counts).Settled := by
  rw [AllocRec.take_frame]; exact h

/-- A pause and a clamp bring target and setpoint down together. -/
theorem AllocRec.Settled.clamped {a : AllocRec} (h : a.Settled) (pauses unpauses : Bool) (limit : Option Nat) :
    ((a.pausedBy pauses unpauses).limited limit).Settled := by
  have hpaused : (a.pausedBy pauses unpauses).Settled := by
    cases pauses with
    | true => exact Nat.le_refl _
    | false => exact h
  cases limit with
  | none => exact hpaused
  | some x => exact min_le_min_right x hpaused

/-- A pause and a clamp, as far as exposure, setpoint and target go. -/
theorem AllocRec.clamped_le (a : AllocRec) (pauses unpauses : Bool) (limit : Option Nat) :
    ((a.pausedBy pauses unpauses).limited limit).setpoint ≤ a.setpoint ∧
      ((a.pausedBy pauses unpauses).limited limit).target ≤ a.target := by
  have hpaused : (a.pausedBy pauses unpauses).setpoint ≤ a.setpoint ∧
      (a.pausedBy pauses unpauses).target ≤ a.target := by
    cases pauses with
    | true => exact ⟨Nat.zero_le _, Nat.zero_le _⟩
    | false => exact ⟨Nat.le_refl _, Nat.le_refl _⟩
  cases limit with
  | none => exact hpaused
  | some x => exact ⟨(Nat.min_le_left ..).trans hpaused.1, (Nat.min_le_left ..).trans hpaused.2⟩

/-- The fields that ReportOrderAgrees compares are the same, for a pad of this rating. -/
structure AllocRec.Agrees (rating : Nat) (a b : AllocRec) : Prop where
  exposure : a.exposure rating = b.exposure rating
  setpoint : a.setpoint = b.setpoint
  target : a.target = b.target
  measured : a.measured = b.measured
  compliance : a.compliance = b.compliance

theorem AllocRec.Agrees.refl (rating : Nat) (a : AllocRec) : a.Agrees rating a := ⟨rfl, rfl, rfl, rfl, rfl⟩

/-- Records off the active list agree when their holds do, above the measured power. -/
theorem AllocRec.Agrees.of_atZero {rating : Nat} {a b : AllocRec} (ha : a.AtZero) (hb : b.AtZero)
    (hmeasured : a.measured = b.measured) (hcompliance : a.compliance = b.compliance) (hstart : a.mode ≠ .start)
    (hstart' : b.mode ≠ .start) (hfloor : max a.mode.floor a.measured = max b.mode.floor a.measured) :
    a.Agrees rating b := by
  refine ⟨?_, ha.setpoint.trans hb.setpoint.symm, ha.target.trans hb.target.symm, hmeasured, hcompliance⟩
  rw [AllocRec.exposure_of_ne_start hstart, AllocRec.exposure_of_ne_start hstart', ha.setpoint, hb.setpoint, ← hmeasured,
    Nat.zero_max, hfloor]

/-! ### The pad's record in the two orders -/

/-- The pad's record once the allocator has taken the report, with the pause and the clamp that it may bring. -/
def AllocRec.reported (a : AllocRec) (r : Report) (current overdraw counts pauses unpauses : Bool) (limit : Option Nat) :
    AllocRec :=
  ((a.take r current overdraw counts counts).pausedBy pauses unpauses).limited limit

section Orders

variable {a : AllocRec} {r : Report} {current overdraw latched leaves : Bool} {x x' rating : Nat}
  (pauses unpauses : Bool) (limit : Option Nat)

theorem AllocRec.reported_frame (counts : Bool) :
    (a.reported r current overdraw counts pauses unpauses limit).mode = (a.takeMode r counts counts).mode ∧
      (a.reported r current overdraw counts pauses unpauses limit).measured = r.measured ∧
      (a.reported r current overdraw counts pauses unpauses limit).compliance =
        (if overdraw then (if a.atLimit overdraw then 0 else a.compliance + 1) else 0) := by
  rw [AllocRec.reported, AllocRec.take_frame]
  exact ⟨rfl, rfl, rfl⟩

theorem AllocRec.reported_le (counts : Bool) :
    (a.reported r current overdraw counts pauses unpauses limit).setpoint ≤ a.setpoint ∧
      (a.reported r current overdraw counts pauses unpauses limit).target ≤ a.target := by
  have h := (a.take r current overdraw counts counts).clamped_le pauses unpauses limit
  have hkept := a.take_kept r current overdraw counts counts
  rw [hkept.1, hkept.2.1] at h
  exact h

theorem AllocRec.moved_atZero (hzero : leaves = false → a.AtZero) (v : Nat) : (a.moved latched v leaves).AtZero := by
  cases leaves with
  | true => exact ⟨rfl, rfl⟩
  | false => exact ⟨(hzero rfl).setpoint, (hzero rfl).target⟩

theorem AllocRec.moved_frame (v : Nat) :
    (a.moved latched v leaves).mode = (if latched then .hold v 8 else a.mode) ∧
      (a.moved latched v leaves).measured = a.measured ∧ (a.moved latched v leaves).compliance = a.compliance ∧
      (a.moved latched v leaves).setpoint ≤ a.setpoint := by
  cases leaves with
  | true => exact ⟨rfl, rfl, rfl, Nat.zero_le _⟩
  | false => exact ⟨rfl, rfl, rfl, Nat.le_refl _⟩

theorem AllocRec.moved_accept (v : Nat) : (a.moved latched v leaves).accept = a.accept := by
  cases leaves <;> rfl

/-- The mode that a report leaves follows from the mode it finds. -/
theorem AllocRec.takeMode_mode_congr {a b : AllocRec} (h : a.mode = b.mode) (r : Report) (ends counts : Bool) :
    (a.takeMode r ends counts).mode = (b.takeMode r ends counts).mode := by
  rw [AllocRec.takeMode_mode, AllocRec.takeMode_mode, h]

/-- A hold that the report itself started is as it was once the allocator took the report. -/
theorem AllocRec.takeMode_moved (counts : Bool) (v : Nat) (hcounts : latched = true → counts = false) :
    ((a.moved latched v leaves).takeMode r counts counts).mode =
      if latched then .hold v 8 else (a.takeMode r counts counts).mode := by
  obtain ⟨hmode, -⟩ := a.moved_frame (latched := latched) (leaves := leaves) v
  cases latched with
  | false => exact AllocRec.takeMode_mode_congr hmode r counts counts
  | true =>
    rw [hcounts rfl, AllocRec.takeMode_mode, hmode]
    rfl

/-- The record when the report took its pad off the list, whichever block was first. -/
theorem AllocRec.agrees_of_moved (hzero : leaves = false → a.AtZero)
    (hx : max x r.measured = max x' r.measured) :
    ((a.moved latched x leaves).take r current overdraw (!latched) (!latched)).Agrees rating
      ((a.reported r current overdraw true pauses unpauses limit).moved latched x' leaves) := by
  obtain ⟨hmode, hmeasured, hcompliance⟩ := a.reported_frame (r := r) (current := current) (overdraw := overdraw)
    pauses unpauses limit true
  obtain ⟨hset, htarget⟩ := a.reported_le (r := r) (current := current) (overdraw := overdraw) pauses unpauses limit true
  generalize a.reported r current overdraw true pauses unpauses limit = b at *
  have hzero' : leaves = false → b.AtZero := fun h =>
    ⟨Nat.le_zero.mp (hset.trans (hzero h).setpoint.le), Nat.le_zero.mp (htarget.trans (hzero h).target.le)⟩
  obtain ⟨-, -, hcount, -⟩ := a.moved_frame (latched := latched) (leaves := leaves) x
  obtain ⟨hmode', hmeasured', hcount', -⟩ := b.moved_frame (latched := latched) (leaves := leaves) x'
  have htaken := a.takeMode_moved (r := r) (latched := latched) (leaves := leaves) (!latched) x (fun h => by rw [h]; rfl)
  have hatZero := AllocRec.moved_atZero (latched := latched) hzero x
  rw [AllocRec.take_frame]
  refine .of_atZero ⟨hatZero.setpoint, hatZero.target⟩ (AllocRec.moved_atZero hzero' x') ?_ ?_
    ((a.moved latched x leaves).takeMode_ne_start r _ _).1 ?_ ?_
  · rw [hmeasured', hmeasured]
  · rw [hcount', hcompliance, AllocRec.atLimit, AllocRec.atLimit, hcount]
  · rw [hmode', hmode]
    split
    · exact nofun
    · exact (a.takeMode_ne_start r true true).1
  · dsimp only
    rw [htaken, hmode', hmode]
    cases latched with
    | true => exact hx
    | false => rfl

/-- The exposures from which the NONCOMPLIANT latch starts its hold, above the measured power: a record with a setpoint below
the report's power. -/
theorem AllocRec.exposure_max_of_overdraw (hset : a.setpoint ≤ r.measured)
    (hx : latched = true → max x r.measured = max x' r.measured) :
    max (((a.moved latched x leaves).take r current overdraw false false).exposure rating) r.measured =
      max (((a.reported r current overdraw false pauses unpauses limit).moved latched x' leaves).exposure rating)
        r.measured := by
  obtain ⟨hmode, hmeasured, -⟩ := a.reported_frame (r := r) (current := current) (overdraw := overdraw)
    pauses unpauses limit false
  obtain ⟨hle, -⟩ := a.reported_le (r := r) (current := current) (overdraw := overdraw) pauses unpauses limit false
  generalize a.reported r current overdraw false pauses unpauses limit = b at *
  obtain ⟨-, -, -, hmovedSet⟩ := a.moved_frame (latched := latched) (leaves := leaves) x
  obtain ⟨hmode', hmeasured', -, hmovedSet'⟩ := b.moved_frame (latched := latched) (leaves := leaves) x'
  have htaken := a.takeMode_moved (r := r) (latched := latched) (leaves := leaves) false x (fun _ => rfl)
  have hstart' : (b.moved latched x' leaves).mode ≠ .start := by
    rw [hmode', hmode]
    split
    · exact nofun
    · exact (a.takeMode_ne_start r false false).1
  have hfloor : max ((a.moved latched x leaves).takeMode r false false).mode.floor r.measured =
      max (b.moved latched x' leaves).mode.floor r.measured := by
    rw [htaken, hmode', hmode]
    cases latched with
    | true => exact hx rfl
    | false => rfl
  have htake := (a.moved latched x leaves).take_frame r current overdraw false false
  generalize (a.moved latched x leaves).take r current overdraw false false = c at *
  have hmodec : c.mode = ((a.moved latched x leaves).takeMode r false false).mode := by rw [htake]
  have hstart : c.mode ≠ .start := by rw [hmodec]; exact (AllocRec.takeMode_ne_start ..).1
  have hsetc : c.setpoint ≤ r.measured := by rw [htake]; exact hmovedSet.trans hset
  have hmeasuredc : c.measured = r.measured := by rw [htake]
  rw [AllocRec.exposure_of_ne_start hstart', AllocRec.exposure_of_ne_start hstart, hmeasured', hmeasured, hmeasuredc,
    max_eq_right hsetc, max_eq_right (hmovedSet'.trans (hle.trans hset)), max_assoc, max_self, max_assoc, max_self, hmodec]
  exact hfloor

/-- The record that the NONCOMPLIANT latch leaves in the two orders (R77). -/
theorem AllocRec.agrees_of_latched {elig : Bool} {y y' : Nat}
    (hzero : elig = false → leaves = true ∨ a.AtZero) (hy : max y r.measured = max y' r.measured) :
    (((a.moved latched x leaves).take r current overdraw false false).moved true y elig).Agrees rating
      (((a.reported r current overdraw false pauses unpauses limit).moved latched x' leaves).moved true y' elig) := by
  obtain ⟨-, hmeasured, hcompliance⟩ := a.reported_frame (r := r) (current := current) (overdraw := overdraw)
    pauses unpauses limit false
  obtain ⟨hset, htarget⟩ := a.reported_le (r := r) (current := current) (overdraw := overdraw) pauses unpauses limit false
  generalize a.reported r current overdraw false pauses unpauses limit = b at *
  obtain ⟨-, -, hcount, -⟩ := a.moved_frame (latched := latched) (leaves := leaves) x
  obtain ⟨-, hmeasured', hcount', -⟩ := b.moved_frame (latched := latched) (leaves := leaves) x'
  have hmoved : elig = false → (a.moved latched x leaves).AtZero := fun h =>
    AllocRec.moved_atZero (fun hl => (hzero h).resolve_left (by rw [hl]; exact nofun)) x
  have hmoved' : elig = false → (b.moved latched x' leaves).AtZero := fun h =>
    AllocRec.moved_atZero (fun hl =>
      have hoff := (hzero h).resolve_left (by rw [hl]; exact nofun)
      ⟨Nat.le_zero.mp (hset.trans hoff.setpoint.le), Nat.le_zero.mp (htarget.trans hoff.target.le)⟩) x'
  have htake := (a.moved latched x leaves).take_frame r current overdraw false false
  generalize (a.moved latched x leaves).take r current overdraw false false = c at *
  obtain ⟨hmodec, hmeasuredc, hcountc, -⟩ := c.moved_frame (latched := true) (leaves := elig) y
  generalize b.moved latched x' leaves = d at *
  obtain ⟨hmoded, hmeasuredd, hcountd, -⟩ := d.moved_frame (latched := true) (leaves := elig) y'
  have hmeasuredc' : (c.moved true y elig).measured = r.measured := by rw [hmeasuredc, htake]
  refine .of_atZero (AllocRec.moved_atZero (fun h => ?_) y) (AllocRec.moved_atZero hmoved' y') ?_ ?_ ?_ ?_ ?_
  · rw [htake]; exact ⟨(hmoved h).setpoint, (hmoved h).target⟩
  · rw [hmeasuredc', hmeasuredd, hmeasured', hmeasured]
  · rw [hcountc, hcountd, hcount', hcompliance, htake]
    dsimp only
    rw [AllocRec.atLimit, AllocRec.atLimit, hcount]
  · rw [hmodec]; exact nofun
  · rw [hmoded]; exact nofun
  · rw [hmodec, hmoded, hmeasuredc']
    exact hy

/-- The hold value of the session controller's latch, above the measured power: before and after the allocator took the
report (R73, notes/assumptions/11.md). -/
theorem AllocRec.latchHoldValue_agrees (counts : Bool) :
    max (if decide (a.mode = .start) then max rating r.measured else max (max (a.exposure rating) (a.exposure rating)) 0)
        r.measured =
      max (if decide (a.mode = .start) then max rating r.measured else
        max (max (a.exposure rating)
          ((a.reported r current overdraw counts pauses unpauses limit).exposure rating)) r.measured) r.measured := by
  by_cases hstart : a.mode = .start
  · simp only [hstart, decide_true, if_true]
  · obtain ⟨hmode, hmeasured, -⟩ := a.reported_frame (r := r) (current := current) (overdraw := overdraw)
      pauses unpauses limit counts
    obtain ⟨hle, -⟩ := a.reported_le (r := r) (current := current) (overdraw := overdraw) pauses unpauses limit counts
    obtain ⟨hne, hfloor⟩ := a.takeMode_ne_start r counts counts
    rw [← hmode] at hne hfloor
    simp only [decide_eq_false hstart, Bool.false_eq_true, if_false]
    rw [AllocRec.exposure_of_ne_start hstart, AllocRec.exposure_of_ne_start hne, hmeasured]
    omega

end Orders

end Sys2Proof.Machine
end

section
/-! PROOFS. One report taken by the two blocks in either order: the states, and that they agree (R75, R77, R147, R148). -/

namespace Sys2Proof.Machine

/-! ### What a taking at the session controller reads -/

/-- Sessions, collections, retained records, links, plan, slot timer and feeder values are the same in two states. -/
structure State.SameView (s t : State) : Prop where
  sessions : t.sessions = s.sessions
  queue : t.queue = s.queue
  active : t.active = s.active
  image : t.store.image = s.store.image
  links : t.links = s.links
  plan : t.plan = s.plan
  timer : t.timer = s.timer
  feeder : t.feeder = s.feeder

/-- The order of the queue follows from sessions and slot number (R29). -/
theorem State.standsAfter_congr {s t : State} (hsessions : t.sessions = s.sessions) (htimer : t.timer = s.timer) :
    t.standsAfter = s.standsAfter := by
  have hsession : ∀ q, t.session q = s.session q := fun q => by rw [State.session, State.session, hsessions]
  have hclass : ∀ q, t.classOf q = s.classOf q := fun q => by rw [State.classOf, State.classOf, hsession]
  have hdistance : ∀ q, t.distanceOf q = s.distanceOf q := fun q => by
    rw [State.distanceOf, State.distanceOf, hsession, htimer]
  funext p q
  simp only [State.standsAfter, hclass, hdistance]

namespace State.SameView

variable {s t u : State}

theorem refl (s : State) : s.SameView s := ⟨rfl, rfl, rfl, rfl, rfl, rfl, rfl, rfl⟩

theorem symm (h : s.SameView t) : t.SameView s :=
  ⟨h.sessions.symm, h.queue.symm, h.active.symm, h.image.symm, h.links.symm, h.plan.symm, h.timer.symm, h.feeder.symm⟩

theorem trans (h : s.SameView t) (h' : t.SameView u) : s.SameView u :=
  ⟨h'.sessions.trans h.sessions, h'.queue.trans h.queue, h'.active.trans h.active, h'.image.trans h.image,
    h'.links.trans h.links, h'.plan.trans h.plan, h'.timer.trans h.timer, h'.feeder.trans h.feeder⟩

theorem session (h : s.SameView t) (p : Pad) : t.session p = s.session p := by
  rw [State.session, State.session, h.sessions]

theorem faultOf (h : s.SameView t) (p : Pad) : t.faultOf p = s.faultOf p := by rw [State.faultOf, State.faultOf, h.image]

theorem rating (h : s.SameView t) (p : Pad) : t.rating p = s.rating p := by rw [State.rating, State.rating, h.image]

theorem samePad (h : s.SameView t) (p : Pad) : s.SamePad t p :=
  ⟨h.session p, h.faultOf p, by rw [State.linkOf, State.linkOf, h.links], by rw [h.timer]⟩

/-- A taking reads no more, and leaves the rest alike. -/
theorem padTaken (h : s.SameView t) (p : Pad) (e : PadTaking) (v v' : Nat) :
    (s.padTaken p e v).SameView (t.padTaken p e v') where
  sessions := by rw [State.padTaken, State.padTaken, h.sessions]
  queue := by
    have hafter := State.standsAfter_congr (s := { s with sessions := s.sessions.set p e.record })
      (t := { t with sessions := t.sessions.set p e.record }) (congrArg (·.set p e.record) h.sessions) h.timer
    change t.queueTaken p e.record = s.queueTaken p e.record
    rw [State.queueTaken, State.queueTaken, hafter, h.session, h.queue]
  active := by rw [State.padTaken, State.padTaken, h.session, h.active]
  image := by
    change (t.storeTaken p e.fault).image = (s.storeTaken p e.fault).image
    cases hf : e.fault with
    | none => exact h.image
    | some record =>
      rw [State.storeTaken_some, State.storeTaken_some, h.faultOf]
      split
      · exact h.image
      · rw [Store.change_image, Store.change_image, h.image]
  links := h.links
  plan := h.plan
  timer := h.timer
  feeder := h.feeder

/-- A change of allocator records, round request, reports in transit and change sets, with the store's writes begun. -/
theorem of_rest {alloc : Table 24 AllocRec} {request : Bool} {handed : List Handed} {store : Store}
    (hstore : store.image = s.store.image) :
    s.SameView { s with alloc := alloc, roundRequest := request, handed := handed, store := store } :=
  ⟨rfl, rfl, rfl, hstore, rfl, rfl, rfl, rfl⟩

end State.SameView

/-- Whether a taking asks for a round (R31, R33). -/
def State.takingAsks (s : State) (p : Pad) (r : SessionRec) : Bool :=
  ((s.session p).leaves r && decide (p ∈ s.active)) || (s.session p).joins r

theorem State.SameView.takingAsks {s t : State} (h : s.SameView t) (p : Pad) (r : SessionRec) :
    t.takingAsks p r = s.takingAsks p r := by
  rw [State.takingAsks, State.takingAsks, h.session, h.active]

/-! ### The allocator's taking -/

/-- Whether the pause and the cap step ask for a round, the cap having been `old` (R86, R147). -/
def State.capStepAsks (u : State) (p : Pad) (current : Bool) (state : ChargerState) (old : Nat) : Bool :=
  (u.unpausesOn p current state || (current && decide (old < u.capOf p))) ||
    (u.capLimit p current old).any fun x => decide (x < (u.pauseNoted p current state).setpoint)

/-- What the allocator's taking leaves when it makes no latch, `record` being what steps 1 to 4 of R75 leave. -/
def State.capStepped (s : State) (p : Pad) (record : AllocRec) (current : Bool) (state : ChargerState) (old : Nat) : State :=
  { s with
    alloc := s.alloc.set p (((s.setAlloc p record).pauseNoted p current state).limited
      ((s.setAlloc p record).capLimit p current old))
    roundRequest := s.roundRequest || (s.setAlloc p record).capStepAsks p current state old }

theorem State.pauseBy_capStep_setAlloc (s : State) (p : Pad) (record : AllocRec) (current : Bool) (state : ChargerState)
    (old : Nat) : ((s.setAlloc p record).pauseBy p current state).capStep p current old =
      s.capStepped p record current state old := by
  rw [State.pauseBy_capStep, State.capStepped, State.capStepAsks]
  simp only [State.setAlloc, Table.set_set, Bool.or_assoc]

/-- The record of steps 1 to 4 of R75 put in place, with the pause and the clamp. -/
theorem State.allocOf_capStepped (s : State) (p : Pad) (record : AllocRec) (current : Bool) (state : ChargerState)
    (old : Nat) : ∃ pauses unpauses limit,
      (s.capStepped p record current state old).allocOf p = (record.pausedBy pauses unpauses).limited limit := by
  refine ⟨(s.setAlloc p record).pausesOn p current state, (s.setAlloc p record).unpausesOn p current state,
    (s.setAlloc p record).capLimit p current old, (Table.get_set_self ..).trans ?_⟩
  rw [State.pauseNoted, State.allocOf_setAlloc_self]

/-- Pause and cap step go alike in two states in which they find the same. -/
theorem State.capStepped_congr {s t : State} (hactive : t.active = s.active) (himage : t.store.image = s.store.image)
    (hplan : t.plan = s.plan) (htimer : t.timer = s.timer) (hfeeder : t.feeder = s.feeder) (p : Pad) (record : AllocRec)
    (current : Bool) (state : ChargerState) (old : Nat) :
    (t.capStepped p record current state old).allocOf p = (s.capStepped p record current state old).allocOf p ∧
      (t.setAlloc p record).capStepAsks p current state old = (s.setAlloc p record).capStepAsks p current state old := by
  have hrecord : ∀ u : State, (u.setAlloc p record).allocOf p = record := fun u => State.allocOf_setAlloc_self ..
  have hactive' : (t.setAlloc p record).active = (s.setAlloc p record).active := hactive
  have hfeeder' : (t.setAlloc p record).feeder = (s.setAlloc p record).feeder := hfeeder
  have hcap : (t.setAlloc p record).capOf p = (s.setAlloc p record).capOf p := by
    refine State.capOf_eq_of (congrArg (·.rating.get p) himage) (by rw [hrecord, hrecord]) ?_
    change t.plan.cell (padLine p) (columnOf t.timer.slot) = s.plan.cell (padLine p) (columnOf s.timer.slot)
    rw [hplan, htimer]
  have hpauses : (t.setAlloc p record).pausesOn p current state = (s.setAlloc p record).pausesOn p current state := by
    rw [State.pausesOn, State.pausesOn, hrecord, hrecord, hactive']
  have hunpauses : (t.setAlloc p record).unpausesOn p current state = (s.setAlloc p record).unpausesOn p current state := by
    rw [State.unpausesOn, State.unpausesOn, hrecord, hrecord, hactive']
  have hlimit : (t.setAlloc p record).capLimit p current old = (s.setAlloc p record).capLimit p current old := by
    rw [State.capLimit, State.capLimit, hcap, hactive', hfeeder']
  have hnoted : (t.setAlloc p record).pauseNoted p current state = (s.setAlloc p record).pauseNoted p current state := by
    rw [State.pauseNoted, State.pauseNoted, hrecord, hrecord, hpauses, hunpauses]
  refine ⟨(Table.get_set_self ..).trans (.trans ?_ (Table.get_set_self ..).symm), ?_⟩
  · rw [hnoted, hlimit]
  · rw [State.capStepAsks, State.capStepAsks, hunpauses, hcap, hlimit, hnoted]

/-- Off the active list only a rise of the cap asks for a round (R86). -/
theorem State.capStepAsks_of_off {u : State} {p : Pad} (hoff : p ∉ u.active) (current : Bool) (state : ChargerState)
    (old : Nat) : u.capStepAsks p current state old = (current && decide (old < u.capOf p)) := by
  have hunpauses : u.unpausesOn p current state = false := by simp [State.unpausesOn, hoff]
  have hlimit : u.capLimit p current old = none := by simp [State.capLimit, hoff]
  rw [State.capStepAsks, hunpauses, hlimit, Option.any_none, Bool.or_false, Bool.false_or]

/-- Off the active list the record is that of steps 1 to 4 of R75. -/
theorem State.allocOf_capStepped_of_off {s : State} {p : Pad} (hoff : p ∉ s.active) (record : AllocRec) (current : Bool)
    (state : ChargerState) (old : Nat) : (s.capStepped p record current state old).allocOf p = record := by
  rw [← State.pauseBy_capStep_setAlloc, State.pauseBy_capStep_of_off (u := s.setAlloc p record) hoff]
  exact State.allocOf_setAlloc_self ..

end Sys2Proof.Machine
end

section
/-! PROOFS. ReportOrderAgrees: the two orders, event by event. -/

namespace Sys2Proof.Machine

/-! ### Events without a raise pending (R79, R80) -/

/-- Where no raise is pending, an event ends with its own changes and the head of the write queue taken. -/
theorem State.event_of_settled {s after : State} (hpowered : s.powered = true) (h : ∀ q, (after.allocOf q).Settled) :
    s.event after = .next { after with store := after.store.beginWrite } := by
  obtain ⟨alloc, hevent, hreleased⟩ := State.event_released hpowered after
  have halloc : alloc = after.alloc := Table.ext_get fun q => AllocRec.Released.eq (hreleased q) (h q)
  rw [hevent, halloc]

section Takings

variable {s t : State} {g : Handed} {e : PadTaking}

theorem State.settled_padTaken (h : ∀ q, (t.allocOf q).Settled) (p : Pad) (e : PadTaking) (v : Nat) (q : Pad) :
    ((t.padTaken p e v).allocOf q).Settled := by
  by_cases hq : q = p
  · subst hq
    rw [State.allocOf_padTaken]
    exact (h q).moved ..
  · rw [State.allocOf, State.padTaken, Table.get_set_ne _ _ hq]
    exact h q

theorem State.settled_setAlloc (h : ∀ q, (t.allocOf q).Settled) {p : Pad} {a : AllocRec} (ha : a.Settled) (q : Pad) :
    ((t.setAlloc p a).allocOf q).Settled := by
  by_cases hq : q = p
  · subst hq
    rw [State.allocOf_setAlloc_self]
    exact ha
  · rw [State.allocOf_setAlloc_ne _ _ _ hq]
    exact h q

theorem State.settled_capStepped (h : ∀ q, (t.allocOf q).Settled) {p : Pad} {a : AllocRec} (ha : a.Settled) (current : Bool)
    (state : ChargerState) (old : Nat) (q : Pad) : ((t.capStepped p a current state old).allocOf q).Settled := by
  by_cases hq : q = p
  · subst hq
    obtain ⟨pauses, unpauses, limit, hrecord⟩ := t.allocOf_capStepped q a current state old
    rw [hrecord]
    exact ha.clamped ..
  · rw [State.allocOf, State.capStepped, Table.get_set_ne _ _ hq]
    exact h q

/-- The session controller takes the only report in transit. -/
theorem State.sessionTakes_single (hhanded : t.handed = [g]) (hby : g.bySession = false) :
    t.sessionTakes =
      { (if g.byAllocator && g.noncompliant then (t.takeAtSession g (t.beforeOf g)).state.latchNoncompliant g (t.beforeOf g)
        else (t.takeAtSession g (t.beforeOf g)).state) with
        handed := keepUntaken { g with
          bySession := true, before := some (t.beforeOf g), latched := (t.takeAtSession g (t.beforeOf g)).latched } } := by
  simp only [State.sessionTakes, hhanded, firstUntaken, hby, Bool.false_eq_true, if_false, List.map_nil, ite_self,
    List.nil_append, List.append_nil]

/-- The allocator takes the only report in transit. -/
theorem State.allocatorTakes_single (hhanded : t.handed = [g]) (hby : g.byAllocator = false) :
    t.allocatorTakes =
      { (t.takeAtAllocator g (t.beforeOf g)).state with
        handed := keepUntaken { g with byAllocator := true, before := some (t.beforeOf g)
                                       noncompliant := (t.takeAtAllocator g (t.beforeOf g)).atLimit } } := by
  simp only [State.allocatorTakes, hhanded, firstUntaken, hby, Bool.false_eq_true, if_false, List.nil_append,
    List.append_nil]

/-- Steps 1 to 4 of R75 on the pad's record. -/
def State.reportRecord (t : State) (g : Handed) (before : Before) : AllocRec :=
  let overdraw := overdraws (t.currentAt g) before g.report
  let limit := (t.allocOf g.pad).atLimit overdraw
  (t.allocOf g.pad).take g.report (t.currentAt g) overdraw (g.endsHold (t.linkOf g.pad).state && !limit)
    (g.countsHold (t.linkOf g.pad).state && !limit)

/-- Whether the report reaches the compliance limit (R77). -/
def State.reachesLimit (t : State) (g : Handed) (before : Before) : Bool :=
  (t.allocOf g.pad).atLimit (overdraws (t.currentAt g) before g.report)

/-- The allocator's taking without a latch. -/
theorem State.takeAtAllocator_of_no_latch {before : Before} (h : (t.reachesLimit g before && g.bySession) = false) :
    t.takeAtAllocator g before = ⟨t.capStepped g.pad (t.reportRecord g before) (t.currentAt g) g.report.state
      (t.capOf g.pad), t.reachesLimit g before⟩ := by
  rw [← State.pauseBy_capStep_setAlloc]
  unfold State.takeAtAllocator
  extract_lets p r current overdraw limit link s4 s4'
  have hs4' : s4' = s4 := if_neg (by rw [show (limit && g.bySession) = false from h]; exact nofun)
  rw [hs4']
  rfl

/-- The allocator's taking: the latch where it is due, then pause and cap step. -/
theorem State.takeAtAllocator_state (t : State) (g : Handed) (before : Before) :
    (t.takeAtAllocator g before).state =
      ((if t.reachesLimit g before && g.bySession then (t.setAlloc g.pad (t.reportRecord g before)).latchNoncompliant g before
        else t.setAlloc g.pad (t.reportRecord g before)).pauseBy g.pad (t.currentAt g) g.report.state).capStep g.pad
          (t.currentAt g) (t.capOf g.pad) := rfl

end Takings

/-! ### The first event of each order -/

/-- The report once one block has taken it, of which `latched` and `noncompliant` say what it latched and what waits. -/
def Handed.takenOnce (s : State) (p : Pad) (r : Report) (bySession latched noncompliant : Bool) : Handed :=
  { Handed.fresh p r with
    bySession := bySession, byAllocator := !bySession, before := some (s.beforeOf (.fresh p r)), latched := latched
    noncompliant := noncompliant }

/-- What the session controller's taking leaves when it is the first. -/
def State.sessionFirst (s : State) (p : Pad) (r : Report) (e : PadTaking) : State :=
  let u := s.padTaken p e (s.latchHoldValue (.fresh p r) (s.beforeOf (.fresh p r)))
  { u with handed := [.takenOnce s p r true e.fault.isSome false], store := u.store.beginWrite }

/-- What the allocator's taking leaves when it is the first: a latch waits. -/
def State.allocatorFirst (s : State) (p : Pad) (r : Report) : State :=
  { s.capStepped p (s.reportRecord (.fresh p r) (s.beforeOf (.fresh p r))) (s.currentAt (.fresh p r)) r.state (s.capOf p) with
    handed := [.takenOnce s p r false false (s.reachesLimit (.fresh p r) (s.beforeOf (.fresh p r)))]
    store := s.store.beginWrite }

section Firsts

variable {s : State} {p : Pad} {r : Report} {e : PadTaking}

theorem State.sessionFirst_view (s : State) (p : Pad) (r : Report) (e : PadTaking) :
    (s.padTaken p e 0).SameView (s.sessionFirst p r e) :=
  ((State.SameView.refl s).padTaken p e 0 _).trans (.of_rest (State.storeTaken s p e.fault).beginWrite_frame.1)

theorem State.allocatorFirst_view (s : State) (p : Pad) (r : Report) : s.SameView (s.allocatorFirst p r) :=
  .of_rest s.store.beginWrite_frame.1

theorem State.exec_sessionReport_first (hpowered : s.powered = true) (hsettled : ∀ q, (s.allocOf q).Settled)
    (hhanded : s.handed = [.fresh p r]) (he : s.SessionTaking (.fresh p r) e) :
    exec .sessionReport s = .next (s.sessionFirst p r e) := by
  have hstep := he.taken s (.fresh p r) (s.beforeOf (.fresh p r)) ⟨rfl, rfl, rfl, rfl⟩ ⟨rfl, rfl, rfl⟩
  have htakes := State.sessionTakes_single hhanded rfl
  rw [hstep, if_neg (by exact nofun)] at htakes
  exact (congrArg s.event htakes).trans (State.event_of_settled hpowered (State.settled_padTaken hsettled p e _))

theorem State.exec_allocatorReport_first (hpowered : s.powered = true) (hsettled : ∀ q, (s.allocOf q).Settled)
    (hhanded : s.handed = [.fresh p r]) :
    exec .allocatorReport s = .next (s.allocatorFirst p r) := by
  have hstep := State.takeAtAllocator_of_no_latch (t := s) (g := .fresh p r) (before := s.beforeOf (.fresh p r))
    (Bool.and_false _)
  have htakes := State.allocatorTakes_single hhanded rfl
  rw [hstep] at htakes
  change s.event s.allocatorTakes = _
  rw [htakes, State.event_of_settled hpowered]
  · rfl
  · exact State.settled_capStepped hsettled ((hsettled p).take ..) _ _ _

end Firsts

/-! ### The second event -/

/-- What a state `t` holds after both events: `u` has its sessions, collections and retained records, `s` the records of the
other pads. -/
structure State.EndsAs (s u t : State) (p : Pad) (request : Bool) (record : AllocRec) : Prop where
  view : u.SameView t
  request : t.roundRequest = request
  self : t.allocOf p = record
  others : ∀ q, q ≠ p → t.allocOf q = s.allocOf q
  handed : t.handed = []

/-- The NONCOMPLIANT latch after the report's own taking (R77). -/
def State.latchTaking (s : State) (p : Pad) (e : PadTaking) : PadTaking :=
  ⟨e.record.latched s.timer.slot, some (latchedRecord (e.fault.or (s.faultOf p)) .noncompliant none s.timer.slot
    e.record.body.tag)⟩

/-- The hold value of the NONCOMPLIANT latch on a record (R77). -/
def State.noncompliantValue (s : State) (p : Pad) (r : Report) (a : AllocRec) : Nat :=
  max (if (s.beforeOf (.fresh p r)).wasStart then s.rating p else a.exposure (s.rating p)) r.measured

section Seconds

variable {s : State} {p : Pad} {r : Report} {e : PadTaking}

/-- The latch on a state that shows the session controller's taking, wherever the allocator stands. -/
theorem State.latchNoncompliant_after {t : State} {g : Handed} (hview : (s.padTaken p e 0).SameView t) (hpad : g.pad = p)
    (hreport : g.report = r) :
    t.latchNoncompliant g (s.beforeOf (.fresh p r)) =
      t.padTaken p (s.latchTaking p e) (s.noncompliantValue p r (t.allocOf p)) := by
  have hrating : t.rating p = s.rating p := (hview.rating p).trans (s.rating_padTaken p e 0 p)
  rw [State.latchNoncompliant_eq, hpad, hreport, hview.session, State.session_padTaken, hview.faultOf,
    State.faultOf_padTaken, State.noncompliantValue, hrating, State.exposure, hrating, hview.timer]
  rfl

/-- The record of the pad once the session controller has taken the report first. -/
def State.recordFirst (s : State) (p : Pad) (r : Report) (e : PadTaking) : AllocRec :=
  (s.allocOf p).moved e.fault.isSome (s.latchHoldValue (.fresh p r) (s.beforeOf (.fresh p r)))
    ((s.session p).leaves e.record)

/-- Whether the report overdraws (R76). -/
def State.freshOverdraws (s : State) (p : Pad) (r : Report) : Bool :=
  overdraws (s.currentAt (.fresh p r)) (s.beforeOf (.fresh p r)) r

/-- Whether it is the sixth overdraw in a row (R77). -/
def State.freshLimit (s : State) (p : Pad) (r : Report) : Bool := (s.allocOf p).atLimit (s.freshOverdraws p r)

theorem State.reportRecord_fresh (hlink : (s.linkOf p).state = .up) :
    s.reportRecord (.fresh p r) (s.beforeOf (.fresh p r)) = (s.allocOf p).take r (s.currentAt (.fresh p r))
      (s.freshOverdraws p r) (!s.freshLimit p r) (!s.freshLimit p r) := by
  have hends : (Handed.fresh p r).endsHold (s.linkOf p).state = true := by rw [hlink]; rfl
  have hcounts : (Handed.fresh p r).countsHold (s.linkOf p).state = true := by rw [hlink]; rfl
  change (s.allocOf p).take r _ _ ((Handed.fresh p r).endsHold (s.linkOf p).state && _)
    ((Handed.fresh p r).countsHold (s.linkOf p).state && _) = _
  rw [hends, hcounts, Bool.true_and]
  rfl

/-- The pad's record after steps 1 to 4 of R75, the session controller having taken the report first. -/
def State.recordSecond (s : State) (p : Pad) (r : Report) (e : PadTaking) : AllocRec :=
  (s.recordFirst p r e).take r (s.currentAt (.fresh p r)) (s.freshOverdraws p r) (!e.fault.isSome && !s.freshLimit p r)
    (!e.fault.isSome && !s.freshLimit p r)

theorem State.allocOf_sessionFirst (s : State) (p : Pad) (r : Report) (e : PadTaking) :
    (s.sessionFirst p r e).allocOf p = s.recordFirst p r e := State.allocOf_padTaken ..

section Second

variable {g : Handed} (hg : g = .takenOnce s p r true e.fault.isSome false) (hlink : (s.linkOf p).state = .up)
  (he : s.SessionTaking (.fresh p r) e)

include hg he in
/-- The report is as current after the session controller's taking as before (R5). -/
theorem State.currentAt_second : (s.sessionFirst p r e).currentAt g = s.currentAt (.fresh p r) := by
  have hsession : (s.sessionFirst p r e).session p = e.record := Table.get_set_self ..
  rw [State.currentAt, hg]
  change ((s.sessionFirst p r e).session p).body.takesAsCurrent r.echo = _
  rw [hsession]
  exact he.current

include hg he in
theorem State.reachesLimit_second :
    (s.sessionFirst p r e).reachesLimit g (s.beforeOf (.fresh p r)) = s.freshLimit p r := by
  obtain ⟨-, -, hcount, -⟩ := (s.allocOf p).moved_frame (latched := e.fault.isSome)
    (leaves := (s.session p).leaves e.record) (s.latchHoldValue (.fresh p r) (s.beforeOf (.fresh p r)))
  rw [State.reachesLimit, State.currentAt_second hg he, hg]
  change ((s.sessionFirst p r e).allocOf p).atLimit _ = _
  rw [State.allocOf_sessionFirst, AllocRec.atLimit, State.recordFirst, hcount]
  rfl

include hg he hlink in
theorem State.reportRecord_second :
    (s.sessionFirst p r e).reportRecord g (s.beforeOf (.fresh p r)) = s.recordSecond p r e := by
  have hlimit := State.reachesLimit_second hg he
  have hends : g.endsHold ((s.sessionFirst p r e).linkOf g.pad).state = !e.fault.isSome := by
    have hlinkt : ((s.sessionFirst p r e).linkOf g.pad).state = .up := by rw [hg]; exact hlink
    rw [hlinkt, hg]
    exact Bool.true_and _
  have hcounts : g.countsHold ((s.sessionFirst p r e).linkOf g.pad).state = !e.fault.isSome := by
    rw [Handed.countsHold, hends, hg]
    exact Bool.and_true _
  rw [State.reachesLimit] at hlimit
  rw [State.reportRecord, hends, hcounts]
  rw [hlimit, State.currentAt_second hg he, hg]
  change ((s.sessionFirst p r e).allocOf p).take r _ _ _ _ = _
  rw [State.allocOf_sessionFirst]
  rfl

end Second

theorem State.SameView.membershipLaw {t u : State} (h : t.SameView u) (hlaw : t.MembershipLaw) : u.MembershipLaw := by
  have hstate : ∀ q, u.padState q = t.padState q := fun q => State.padState_congr (h.session q)
  unfold State.MembershipLaw at hlaw ⊢
  rw [h.queue, h.active]
  simpa only [hstate] using hlaw

/-- The session controller's taking keeps the membership law (R28). -/
theorem State.SessionTaking.membershipLaw {h : Handed} (he : s.SessionTaking h e) (hlaw : s.MembershipLaw) :
    (s.padTaken h.pad e 0).MembershipLaw := by
  have hstep := he.taken s h (s.beforeOf h) ⟨rfl, rfl, rfl, rfl⟩ ⟨rfl, rfl, rfl⟩
  have hacts := s.takeAtSession_acts h (s.beforeOf h)
  rw [hstep] at hacts
  have hview : (s.padTaken h.pad e (s.latchHoldValue h (s.beforeOf h))).SameView (s.padTaken h.pad e 0) :=
    (State.SameView.refl s).padTaken ..
  exact hview.membershipLaw (hacts.keeps (fun hact => hact.membershipLaw) hlaw)

/-- What the NONCOMPLIANT latch does to the pad's record and the round request. -/
theorem State.padTaken_latchTaking {t : State} (hview : (s.padTaken p e 0).SameView t) (v : Nat) :
    (t.padTaken p (s.latchTaking p e) v).allocOf p = (t.allocOf p).moved true v e.record.body.isEligible ∧
      (t.padTaken p (s.latchTaking p e) v).roundRequest =
        (t.roundRequest || (s.padTaken p e 0).takingAsks p (s.latchTaking p e).record) := by
  have hsession : t.session p = e.record := (hview.session p).trans (s.session_padTaken p e 0)
  obtain ⟨hleaves, -⟩ := e.record.leaves_latched e.record s.timer.slot
  refine ⟨?_, ?_⟩
  · rw [State.allocOf_padTaken, hsession, State.latchTaking, hleaves]
    rfl
  · rw [← hview.takingAsks]
    rfl

theorem State.sessionFirst_noted (s : State) (p : Pad) (r : Report) (e : PadTaking) (a : AllocRec) :
    (s.padTaken p e 0).SameView ((s.sessionFirst p r e).setAlloc p a) :=
  (s.sessionFirst_view p r e).trans ⟨rfl, rfl, rfl, rfl, rfl, rfl, rfl, rfl⟩

/-- The allocator's taking after the session controller's: the latch, where it is the sixth overdraw, then pause and cap
step. -/
theorem State.allocatorTakes_second (hlink : (s.linkOf p).state = .up) (he : s.SessionTaking (.fresh p r) e) :
    (s.sessionFirst p r e).allocatorTakes =
      { ((if s.freshLimit p r then ((s.sessionFirst p r e).setAlloc p (s.recordSecond p r e)).padTaken p (s.latchTaking p e)
          (s.noncompliantValue p r (s.recordSecond p r e)) else
          (s.sessionFirst p r e).setAlloc p (s.recordSecond p r e)).pauseBy p (s.currentAt (.fresh p r)) r.state).capStep p
          (s.currentAt (.fresh p r)) ((s.sessionFirst p r e).capOf p) with
        handed := [] } := by
  generalize hg : Handed.takenOnce s p r true e.fault.isSome false = g
  have hpad : g.pad = p := by rw [← hg]; rfl
  have hreport : g.report = r := by rw [← hg]; rfl
  have hbySession : g.bySession = true := by rw [← hg]; rfl
  have hhanded : (s.sessionFirst p r e).handed = [g] := by rw [← hg]; rfl
  have hbefore : (s.sessionFirst p r e).beforeOf g = s.beforeOf (.fresh p r) := by rw [← hg]; rfl
  have hlatch := State.latchNoncompliant_after (s.sessionFirst_noted p r e (s.recordSecond p r e)) hpad hreport
  rw [State.allocOf_setAlloc_self] at hlatch
  rw [State.allocatorTakes_single hhanded (by rw [← hg]; rfl), hbefore, State.takeAtAllocator_state,
    State.reachesLimit_second hg.symm he, State.reportRecord_second hg.symm hlink he, State.currentAt_second hg.symm he,
    hpad, hreport, hlatch, hbySession, Bool.and_true]
  simp only [keepUntaken, Bool.and_true, if_true]

/-- The event of that taking, short of the limit. -/
theorem State.exec_allocatorReport_second (hpowered : s.powered = true) (hsettled : ∀ q, (s.allocOf q).Settled)
    (hlink : (s.linkOf p).state = .up) (he : s.SessionTaking (.fresh p r) e) (hlimit : s.freshLimit p r = false) :
    ∃ t, exec .allocatorReport (s.sessionFirst p r e) = .next t ∧ s.EndsAs (s.padTaken p e 0) t p
      ((s.sessionFirst p r e).roundRequest || ((s.sessionFirst p r e).setAlloc p (s.recordSecond p r e)).capStepAsks p
        (s.currentAt (.fresh p r)) r.state ((s.sessionFirst p r e).capOf p))
      (((s.sessionFirst p r e).capStepped p (s.recordSecond p r e) (s.currentAt (.fresh p r)) r.state
        ((s.sessionFirst p r e).capOf p)).allocOf p) := by
  have htakes := State.allocatorTakes_second hlink he
  rw [hlimit, if_neg Bool.false_ne_true, State.pauseBy_capStep_setAlloc] at htakes
  have hsettledt : ∀ q, ((s.sessionFirst p r e).allocOf q).Settled := State.settled_padTaken hsettled p e _
  have hrecord : (s.recordSecond p r e).Settled := ((hsettled p).moved ..).take ..
  have hevent := State.event_of_settled (s := s.sessionFirst p r e) (after := (s.sessionFirst p r e).allocatorTakes) hpowered
    (by rw [htakes]; exact State.settled_capStepped hsettledt hrecord _ _ _)
  refine ⟨_, hevent, ?_⟩
  rw [htakes]
  refine ⟨(s.sessionFirst_view p r e).trans (.of_rest (Store.beginWrite_frame _).1), rfl, rfl, fun q hq => ?_, rfl⟩
  exact (Table.get_set_ne _ _ hq).trans (Table.get_set_ne _ _ hq)

/-- The event of that taking, with the latch in it. -/
theorem State.exec_allocatorReport_second_latch (hpowered : s.powered = true) (hlaw : s.MembershipLaw)
    (hsettled : ∀ q, (s.allocOf q).Settled) (hlink : (s.linkOf p).state = .up) (he : s.SessionTaking (.fresh p r) e)
    (hlimit : s.freshLimit p r = true) :
    ∃ t, exec .allocatorReport (s.sessionFirst p r e) = .next t ∧
      s.EndsAs ((s.padTaken p e 0).padTaken p (s.latchTaking p e) 0) t p
        (((s.sessionFirst p r e).roundRequest || (s.padTaken p e 0).takingAsks p (s.latchTaking p e).record) ||
          (s.currentAt (.fresh p r) && decide ((s.sessionFirst p r e).capOf p <
            ((s.sessionFirst p r e).setAlloc p (s.recordSecond p r e)).capOf p)))
        ((s.recordSecond p r e).moved true (s.noncompliantValue p r (s.recordSecond p r e)) e.record.body.isEligible) := by
  have htakes := State.allocatorTakes_second hlink he
  have hview := s.sessionFirst_noted p r e (s.recordSecond p r e)
  have hlawt := hview.membershipLaw (he.membershipLaw hlaw)
  obtain ⟨hself, hround⟩ := State.padTaken_latchTaking hview (s.noncompliantValue p r (s.recordSecond p r e))
  rw [State.allocOf_setAlloc_self] at hself
  have hoff : p ∉ (((s.sessionFirst p r e).setAlloc p (s.recordSecond p r e)).padTaken p (s.latchTaking p e)
      (s.noncompliantValue p r (s.recordSecond p r e))).active := by
    obtain ⟨-, hactive⟩ := State.queueTaken_of_not_eligible (p := p) (r := (s.latchTaking p e).record) hlawt
      (PadBody.isEligible_latched _)
    rw [State.padTaken, hactive]
    exact (hlawt.not_mem_erase p).2
  rw [hlimit, if_pos rfl, State.pauseBy_capStep_of_off hoff, hround] at htakes
  have hsettledt : ∀ q, ((s.sessionFirst p r e).allocOf q).Settled := State.settled_padTaken hsettled p e _
  have hrecord : (s.recordSecond p r e).Settled := ((hsettled p).moved ..).take ..
  have hevent := State.event_of_settled (s := s.sessionFirst p r e) (after := (s.sessionFirst p r e).allocatorTakes) hpowered
    (by rw [htakes]; exact State.settled_padTaken (State.settled_setAlloc hsettledt hrecord) _ _ _)
  refine ⟨_, hevent, ?_⟩
  rw [htakes]
  refine ⟨(hview.padTaken p (s.latchTaking p e) 0 (s.noncompliantValue p r (s.recordSecond p r e))).trans
    (.of_rest (Store.beginWrite_frame _).1), ?_, hself, fun q hq => ?_, rfl⟩
  · have hcap : (((s.sessionFirst p r e).setAlloc p (s.recordSecond p r e)).padTaken p (s.latchTaking p e)
        (s.noncompliantValue p r (s.recordSecond p r e))).capOf p =
          ((s.sessionFirst p r e).setAlloc p (s.recordSecond p r e)).capOf p := by
      refine State.capOf_eq_of (State.rating_padTaken ..) ?_ rfl
      rw [hself, State.allocOf_setAlloc_self, AllocRec.moved_accept]
    dsimp only
    rw [hcap]
    rfl
  · exact (Table.get_set_ne _ _ hq).trans ((Table.get_set_ne _ _ hq).trans (Table.get_set_ne _ _ hq))

/-- The hold value of the session controller's latch when the allocator was first (R73). -/
def State.secondHoldValue (s : State) (p : Pad) (r : Report) : Nat :=
  (s.allocatorFirst p r).latchHoldValue (.takenOnce s p r false false (s.freshLimit p r)) (s.beforeOf (.fresh p r))

/-- The session controller's taking after the allocator's, with the latch that waits. -/
theorem State.sessionTakes_second (he : s.SessionTaking (.fresh p r) e) :
    (s.allocatorFirst p r).sessionTakes =
      { (if s.freshLimit p r then ((s.allocatorFirst p r).padTaken p e (s.secondHoldValue p r)).padTaken p
          (s.latchTaking p e) (s.noncompliantValue p r
            (((s.allocatorFirst p r).padTaken p e (s.secondHoldValue p r)).allocOf p))
        else (s.allocatorFirst p r).padTaken p e (s.secondHoldValue p r)) with handed := [] } := by
  generalize hg : Handed.takenOnce s p r false false (s.freshLimit p r) = g
  have hpad : g.pad = p := by rw [← hg]; rfl
  have hreport : g.report = r := by rw [← hg]; rfl
  have hbyAllocator : g.byAllocator = true := by rw [← hg]; rfl
  have hnon : g.noncompliant = s.freshLimit p r := by rw [← hg]; rfl
  have hhanded : (s.allocatorFirst p r).handed = [g] := by rw [← hg]; rfl
  have hbefore : (s.allocatorFirst p r).beforeOf g = s.beforeOf (.fresh p r) := by rw [← hg]; rfl
  have hview := s.allocatorFirst_view p r
  have hvalue : (s.allocatorFirst p r).latchHoldValue g (s.beforeOf (.fresh p r)) = s.secondHoldValue p r := by
    rw [← hg]; rfl
  have hstep : (s.allocatorFirst p r).takeAtSession g (s.beforeOf (.fresh p r)) =
      ⟨(s.allocatorFirst p r).padTaken p e (s.secondHoldValue p r), e.fault.isSome⟩ := by
    rw [← hvalue]
    exact he.taken (s.allocatorFirst p r) g (s.beforeOf (.fresh p r)) (hview.samePad p)
      ⟨by rw [hpad]; rfl, by rw [hreport]; rfl, by rw [← hg]; rfl⟩
  have hlatch := State.latchNoncompliant_after (hview.padTaken p e 0 (s.secondHoldValue p r)) hpad hreport
  rw [State.sessionTakes_single hhanded (by rw [← hg]; rfl), hbefore, hstep]
  dsimp only
  rw [hlatch, hbyAllocator, hnon, Bool.true_and]
  simp only [keepUntaken, Bool.and_true, if_true]

/-- The pad's record once the allocator has taken the report first. -/
theorem State.allocOf_allocatorFirst (hlink : (s.linkOf p).state = .up) :
    ∃ pauses unpauses limit, (s.allocatorFirst p r).allocOf p = (s.allocOf p).reported r (s.currentAt (.fresh p r))
      (s.freshOverdraws p r) (!s.freshLimit p r) pauses unpauses limit := by
  obtain ⟨pauses, unpauses, limit, hrecord⟩ := s.allocOf_capStepped p (s.reportRecord (.fresh p r) (s.beforeOf (.fresh p r)))
    (s.currentAt (.fresh p r)) r.state (s.capOf p)
  refine ⟨pauses, unpauses, limit, hrecord.trans ?_⟩
  rw [State.reportRecord_fresh hlink]
  rfl

theorem State.settled_allocatorFirst (hsettled : ∀ q, (s.allocOf q).Settled) (q : Pad) :
    ((s.allocatorFirst p r).allocOf q).Settled :=
  State.settled_capStepped hsettled ((hsettled p).take ..) (s.currentAt (.fresh p r)) r.state (s.capOf p) q

/-- The event of that taking, short of the limit. -/
theorem State.exec_sessionReport_second (hpowered : s.powered = true) (hsettled : ∀ q, (s.allocOf q).Settled)
    (he : s.SessionTaking (.fresh p r) e) (hlimit : s.freshLimit p r = false) :
    ∃ t, exec .sessionReport (s.allocatorFirst p r) = .next t ∧ s.EndsAs (s.padTaken p e 0) t p
      ((s.allocatorFirst p r).roundRequest || s.takingAsks p e.record)
      (((s.allocatorFirst p r).allocOf p).moved e.fault.isSome (s.secondHoldValue p r) ((s.session p).leaves e.record)) := by
  have htakes := State.sessionTakes_second he
  rw [hlimit, if_neg Bool.false_ne_true] at htakes
  have hview := s.allocatorFirst_view p r
  have hevent := State.event_of_settled (s := s.allocatorFirst p r) (after := (s.allocatorFirst p r).sessionTakes) hpowered
    (by rw [htakes]; exact State.settled_padTaken (State.settled_allocatorFirst hsettled) p e _)
  refine ⟨_, hevent, ?_⟩
  rw [htakes]
  refine ⟨(hview.padTaken p e 0 (s.secondHoldValue p r)).trans (.of_rest (Store.beginWrite_frame _).1), ?_, ?_,
    fun q hq => ?_, rfl⟩
  · rw [← hview.takingAsks]; rfl
  · exact (State.allocOf_padTaken ..).trans (by rw [hview.session])
  · exact (Table.get_set_ne _ _ hq).trans (Table.get_set_ne _ _ hq)

/-- The event of that taking, with the latch that waited. -/
theorem State.exec_sessionReport_second_latch (hpowered : s.powered = true) (hsettled : ∀ q, (s.allocOf q).Settled)
    (he : s.SessionTaking (.fresh p r) e) (hlimit : s.freshLimit p r = true) :
    ∃ t, exec .sessionReport (s.allocatorFirst p r) = .next t ∧
      s.EndsAs ((s.padTaken p e 0).padTaken p (s.latchTaking p e) 0) t p
        (((s.allocatorFirst p r).roundRequest || s.takingAsks p e.record) ||
          (s.padTaken p e 0).takingAsks p (s.latchTaking p e).record)
        ((((s.allocatorFirst p r).allocOf p).moved e.fault.isSome (s.secondHoldValue p r)
          ((s.session p).leaves e.record)).moved true (s.noncompliantValue p r (((s.allocatorFirst p r).allocOf p).moved
            e.fault.isSome (s.secondHoldValue p r) ((s.session p).leaves e.record))) e.record.body.isEligible) := by
  have htakes := State.sessionTakes_second he
  have hview := s.allocatorFirst_view p r
  have hviewTaken := hview.padTaken p e 0 (s.secondHoldValue p r)
  have hrecord := (s.allocatorFirst p r).allocOf_padTaken p e (s.secondHoldValue p r)
  have hround : ((s.allocatorFirst p r).padTaken p e (s.secondHoldValue p r)).roundRequest =
      ((s.allocatorFirst p r).roundRequest || s.takingAsks p e.record) := by rw [← hview.takingAsks]; rfl
  rw [hlimit, if_pos rfl] at htakes
  rw [hview.session] at hrecord
  have hevent := State.event_of_settled (s := s.allocatorFirst p r) (after := (s.allocatorFirst p r).sessionTakes) hpowered
    (by rw [htakes]
        exact State.settled_padTaken (State.settled_padTaken (State.settled_allocatorFirst hsettled) p e _) p _ _)
  refine ⟨_, hevent, ?_⟩
  rw [htakes]
  rw [hrecord]
  generalize s.noncompliantValue p r (((s.allocatorFirst p r).allocOf p).moved e.fault.isSome (s.secondHoldValue p r)
    ((s.session p).leaves e.record)) = v
  obtain ⟨hself, hasks⟩ := State.padTaken_latchTaking hviewTaken v
  rw [hrecord] at hself
  rw [hround] at hasks
  refine ⟨(hviewTaken.padTaken p (s.latchTaking p e) 0 v).trans (.of_rest (Store.beginWrite_frame _).1), hasks, hself,
    fun q hq => ?_, rfl⟩
  exact (Table.get_set_ne _ _ hq).trans ((Table.get_set_ne _ _ hq).trans (Table.get_set_ne _ _ hq))

end Seconds

end Sys2Proof.Machine
end

section
/-! PROOFS. ReportOrderAgrees: the two orders end alike (R75, R77, R147, R148). -/

namespace Sys2Proof.Machine

section Agreement

variable {s : State} {p : Pad} {r : Report} {e : PadTaking}

/-! ### The hold values -/

/-- The session controller's latch holds the pad as high in the two orders, above the report's power (R73). -/
theorem State.holdValues_agree (hlink : (s.linkOf p).state = .up) :
    max (s.latchHoldValue (.fresh p r) (s.beforeOf (.fresh p r))) r.measured =
      max (s.secondHoldValue p r) r.measured := by
  obtain ⟨pauses, unpauses, limit, hrecord⟩ := State.allocOf_allocatorFirst (r := r) hlink
  have hrating := (s.allocatorFirst_view p r).rating p
  have hexposure : (s.allocatorFirst p r).exposure p = ((s.allocOf p).reported r (s.currentAt (.fresh p r))
      (s.freshOverdraws p r) (!s.freshLimit p r) pauses unpauses limit).exposure (s.rating p) := by
    rw [State.exposure, hrecord, hrating]
  have hagrees := AllocRec.latchHoldValue_agrees (a := s.allocOf p) (r := r) (current := s.currentAt (.fresh p r))
    (overdraw := s.freshOverdraws p r) (rating := s.rating p) pauses unpauses limit (!s.freshLimit p r)
  rw [← hexposure] at hagrees
  rw [State.secondHoldValue, State.latchHoldValue, State.latchHoldValue]
  dsimp only [Handed.takenOnce, Handed.fresh] at hrating ⊢
  rw [hrating]
  exact hagrees

/-! ### Off the list -/

theorem State.MembershipLaw.eligible_of_mem_active (hlaw : s.MembershipLaw) (h : p ∈ s.active) :
    (s.session p).body.isEligible = true := by
  by_contra hnot
  exact (hlaw.not_mem (Bool.eq_false_iff.mpr hnot)).2 h

/-- A pad that is not ELIGIBLE has setpoint and target 0. -/
theorem State.IdleOffList.atZero (hidle : s.IdleOffList) (hlaw : s.MembershipLaw)
    (h : (s.session p).body.isEligible = false) : (s.allocOf p).AtZero := by
  obtain ⟨hset, htarget, -⟩ := hidle p (hlaw.not_mem h).2
  exact ⟨hset, htarget⟩

/-- A pad that a report takes off the active list, at once or by the latch that follows, asks for a round (R33). -/
theorem State.asks_of_mem_active (hlaw : s.MembershipLaw) (h : p ∈ s.active) :
    (s.takingAsks p e.record || (s.padTaken p e 0).takingAsks p (s.latchTaking p e).record) = true := by
  have helig := hlaw.eligible_of_mem_active h
  cases hr : e.record.body.isEligible with
  | false => simp [State.takingAsks, SessionRec.leaves, helig, hr, h]
  | true =>
    have hactive : (s.padTaken p e 0).active = s.active := by
      rw [State.padTaken, SessionRec.leaves, hr, Bool.not_true, Bool.and_false]
      rfl
    have hlatched : (s.latchTaking p e).record.body.isEligible = false := PadBody.isEligible_latched _
    simp [State.takingAsks, State.session_padTaken, SessionRec.leaves, hr, hactive, hlatched, h]

/-- A sixth overdraw is above the setpoint (R77). -/
theorem State.setpoint_le_of_freshLimit (h : s.freshLimit p r = true) : (s.allocOf p).setpoint ≤ r.measured := by
  have hover : s.freshOverdraws p r = true := (Bool.and_eq_true_iff.mp h).1
  have habove : (s.allocOf p).setpoint + 3 < r.measured := of_decide_eq_true (Bool.and_eq_true_iff.mp hover).2
  omega

/-! ### The cap -/

theorem State.capOf_sessionFirst (s : State) (p : Pad) (r : Report) (e : PadTaking) :
    (s.sessionFirst p r e).capOf p = s.capOf p := by
  have hview : (s.padTaken p e 0).SameView (s.sessionFirst p r e) := s.sessionFirst_view p r e
  refine State.capOf_eq_of ((hview.rating p).trans (s.rating_padTaken p e 0 p)) ?_ rfl
  rw [State.allocOf_sessionFirst, State.recordFirst, AllocRec.moved_accept]

/-- The report sets the cap in force the same in the two orders (R52). -/
theorem State.capOf_second (s : State) (p : Pad) (r : Report) (e : PadTaking) :
    ((s.sessionFirst p r e).setAlloc p (s.recordSecond p r e)).capOf p =
      (s.setAlloc p (s.reportRecord (.fresh p r) (s.beforeOf (.fresh p r)))).capOf p := by
  have hview := s.sessionFirst_noted p r e (s.recordSecond p r e)
  refine State.capOf_eq_of ((hview.rating p).trans (s.rating_padTaken p e 0 p)) ?_ rfl
  rw [State.allocOf_setAlloc_self, State.allocOf_setAlloc_self, State.recordSecond, AllocRec.take_frame, State.reportRecord,
    AllocRec.take_frame, State.recordFirst]
  dsimp only
  rw [AllocRec.moved_accept]
  rfl

/-- What the allocator alone asks for off the active list: a round when the cap rose (R86). -/
theorem State.roundRequest_allocatorFirst (s : State) (p : Pad) (r : Report) :
    (s.allocatorFirst p r).roundRequest =
      (s.roundRequest || (s.setAlloc p (s.reportRecord (.fresh p r) (s.beforeOf (.fresh p r)))).capStepAsks p
        (s.currentAt (.fresh p r)) r.state (s.capOf p)) := rfl

theorem State.roundRequest_sessionFirst (s : State) (p : Pad) (r : Report) (e : PadTaking) :
    (s.sessionFirst p r e).roundRequest = (s.roundRequest || s.takingAsks p e.record) := rfl

/-! ### The two orders -/

/-- Two ends of the event pair agree in what ReportOrderAgrees compares. -/
theorem State.EndsAs.agree {u a b : State} {request request' : Bool} {x y : AllocRec} (ha : s.EndsAs u a p request x)
    (hb : s.EndsAs u b p request' y) (hrequest : request = request') (hrecord : x.Agrees (u.rating p) y) :
    a.sessions = b.sessions ∧ a.store.image = b.store.image ∧ a.queue = b.queue ∧ a.active = b.active ∧
      a.roundRequest = b.roundRequest ∧ a.handed = [] ∧ b.handed = [] ∧
      (∀ q, a.exposure q = b.exposure q ∧ (a.allocOf q).setpoint = (b.allocOf q).setpoint ∧
        (a.allocOf q).target = (b.allocOf q).target ∧ (a.allocOf q).measured = (b.allocOf q).measured ∧
        (a.allocOf q).compliance = (b.allocOf q).compliance) := by
  have hview := ha.view.symm.trans hb.view
  refine ⟨hview.sessions.symm, hview.image.symm, hview.queue.symm, hview.active.symm, ?_, ha.handed, hb.handed, fun q => ?_⟩
  · rw [ha.request, hb.request, hrequest]
  · have hagrees : (a.allocOf q).Agrees (u.rating q) (b.allocOf q) := by
      by_cases hq : q = p
      · subst hq
        rw [ha.self, hb.self]
        exact hrecord
      · rw [ha.others q hq, hb.others q hq]
        exact .refl _ _
    refine ⟨?_, hagrees.setpoint, hagrees.target, hagrees.measured, hagrees.compliance⟩
    rw [State.exposure, State.exposure, ha.view.rating, hb.view.rating]
    exact hagrees.exposure

/-- A report that leaves its pad where it is: the allocator finds the same. -/
theorem State.orders_agree_of_stays (hlink : (s.linkOf p).state = .up)
    (hfault : e.fault = none) (hleaves : (s.session p).leaves e.record = false) :
    ((s.sessionFirst p r e).capStepped p (s.recordSecond p r e) (s.currentAt (.fresh p r)) r.state
        ((s.sessionFirst p r e).capOf p)).allocOf p = (s.allocatorFirst p r).allocOf p ∧
      ((s.sessionFirst p r e).setAlloc p (s.recordSecond p r e)).capStepAsks p (s.currentAt (.fresh p r)) r.state
        ((s.sessionFirst p r e).capOf p) = (s.setAlloc p (s.reportRecord (.fresh p r) (s.beforeOf (.fresh p r)))).capStepAsks
          p (s.currentAt (.fresh p r)) r.state (s.capOf p) := by
  have hfirst : s.recordFirst p r e = s.allocOf p := by
    rw [State.recordFirst, hfault, hleaves]
    rfl
  have hrecord : s.recordSecond p r e = s.reportRecord (.fresh p r) (s.beforeOf (.fresh p r)) := by
    rw [State.recordSecond, hfirst, hfault, State.reportRecord_fresh hlink]
    rfl
  have hactive : (s.sessionFirst p r e).active = s.active := by
    change (if (s.session p).leaves e.record then s.active.erase p else s.active) = _
    rw [hleaves]
    rfl
  have himage : (s.sessionFirst p r e).store.image = s.store.image := by
    refine (Store.beginWrite_frame _).1.trans ?_
    change (s.storeTaken p e.fault).image = _
    rw [hfault]
    rfl
  rw [s.capOf_sessionFirst, hrecord]
  exact State.capStepped_congr hactive himage rfl rfl rfl p _ _ _ _

/-- Short of the limit: a report that takes its pad off the active list, or finds it off the list. -/
theorem State.orders_agree_of_moves (hlaw : s.MembershipLaw) (hidle : s.IdleOffList) (hlink : (s.linkOf p).state = .up)
    (he : s.SessionTaking (.fresh p r) e) (hlimit : s.freshLimit p r = false)
    (hmoves : e.fault ≠ none ∨ (s.session p).leaves e.record = true) :
    (((s.sessionFirst p r e).capStepped p (s.recordSecond p r e) (s.currentAt (.fresh p r)) r.state
        ((s.sessionFirst p r e).capOf p)).allocOf p).Agrees (s.rating p)
      (((s.allocatorFirst p r).allocOf p).moved e.fault.isSome (s.secondHoldValue p r) ((s.session p).leaves e.record)) ∧
    ((s.sessionFirst p r e).roundRequest || ((s.sessionFirst p r e).setAlloc p (s.recordSecond p r e)).capStepAsks p
        (s.currentAt (.fresh p r)) r.state ((s.sessionFirst p r e).capOf p)) =
      ((s.allocatorFirst p r).roundRequest || s.takingAsks p e.record) := by
  have hended : e.record.body.isEligible = false := by
    obtain hfault | hleaves := hmoves
    · obtain ⟨record, hrecord⟩ := Option.ne_none_iff_exists'.mp hfault
      exact (he.latched record hrecord).1
    · rw [SessionRec.leaves, Bool.and_eq_true, Bool.not_eq_true'] at hleaves
      exact hleaves.2
  have hoff : p ∉ (s.sessionFirst p r e).active := by
    obtain ⟨-, hactive⟩ := s.queueTaken_of_not_eligible (p := p) hlaw hended
    change p ∉ if (s.session p).leaves e.record then s.active.erase p else s.active
    rw [hactive]
    exact (hlaw.not_mem_erase p).2
  constructor
  · obtain ⟨pauses, unpauses, limit, hrecord⟩ := State.allocOf_allocatorFirst (r := r) hlink
    rw [State.allocOf_capStepped_of_off hoff, hrecord, State.recordSecond, State.recordFirst, hlimit, Bool.not_false,
      Bool.and_true]
    refine AllocRec.agrees_of_moved pauses unpauses limit (fun hstays => ?_) (State.holdValues_agree hlink)
    refine hidle.atZero hlaw ?_
    rwa [SessionRec.leaves, hended, Bool.not_false, Bool.and_true] at hstays
  · rw [State.roundRequest_sessionFirst, State.roundRequest_allocatorFirst, Bool.or_assoc, Bool.or_assoc]
    congr 1
    by_cases hin : p ∈ s.active
    · have hasks : s.takingAsks p e.record = true := by
        simp [State.takingAsks, SessionRec.leaves, hlaw.eligible_of_mem_active hin, hended, hin]
      rw [hasks, Bool.true_or, Bool.or_true]
    · rw [State.capStepAsks_of_off (u := (s.sessionFirst p r e).setAlloc p _) hoff,
        State.capStepAsks_of_off (u := s.setAlloc p _) hin, s.capOf_second, s.capOf_sessionFirst, Bool.or_comm]

/-- Short of the limit, the two orders leave the same record and ask for a round alike. -/
theorem State.orders_agree (hlaw : s.MembershipLaw) (hidle : s.IdleOffList) (hlink : (s.linkOf p).state = .up)
    (he : s.SessionTaking (.fresh p r) e) (hlimit : s.freshLimit p r = false) :
    (((s.sessionFirst p r e).capStepped p (s.recordSecond p r e) (s.currentAt (.fresh p r)) r.state
        ((s.sessionFirst p r e).capOf p)).allocOf p).Agrees (s.rating p)
      (((s.allocatorFirst p r).allocOf p).moved e.fault.isSome (s.secondHoldValue p r) ((s.session p).leaves e.record)) ∧
    ((s.sessionFirst p r e).roundRequest || ((s.sessionFirst p r e).setAlloc p (s.recordSecond p r e)).capStepAsks p
        (s.currentAt (.fresh p r)) r.state ((s.sessionFirst p r e).capOf p)) =
      ((s.allocatorFirst p r).roundRequest || s.takingAsks p e.record) := by
  by_cases hmoves : e.fault ≠ none ∨ (s.session p).leaves e.record = true
  · exact State.orders_agree_of_moves hlaw hidle hlink he hlimit hmoves
  · obtain ⟨hfault, hleaves⟩ := not_or.mp hmoves
    rw [not_not] at hfault
    rw [Bool.not_eq_true] at hleaves
    obtain ⟨hrecord, hasks⟩ := State.orders_agree_of_stays (r := r) hlink hfault hleaves
    rw [hrecord, hasks, hfault, hleaves, State.roundRequest_sessionFirst, State.roundRequest_allocatorFirst]
    exact ⟨.refl _ _, Bool.or_right_comm ..⟩

/-- At the limit: the latch in either event. -/
theorem State.orders_agree_of_latch (hlaw : s.MembershipLaw) (hidle : s.IdleOffList) (hlink : (s.linkOf p).state = .up)
    (hlimit : s.freshLimit p r = true) :
    ((s.recordSecond p r e).moved true (s.noncompliantValue p r (s.recordSecond p r e)) e.record.body.isEligible).Agrees
        (s.rating p)
      ((((s.allocatorFirst p r).allocOf p).moved e.fault.isSome (s.secondHoldValue p r)
        ((s.session p).leaves e.record)).moved true (s.noncompliantValue p r (((s.allocatorFirst p r).allocOf p).moved
          e.fault.isSome (s.secondHoldValue p r) ((s.session p).leaves e.record))) e.record.body.isEligible) ∧
    (((s.sessionFirst p r e).roundRequest || (s.padTaken p e 0).takingAsks p (s.latchTaking p e).record) ||
        (s.currentAt (.fresh p r) && decide ((s.sessionFirst p r e).capOf p <
          ((s.sessionFirst p r e).setAlloc p (s.recordSecond p r e)).capOf p))) =
      (((s.allocatorFirst p r).roundRequest || s.takingAsks p e.record) ||
        (s.padTaken p e 0).takingAsks p (s.latchTaking p e).record) := by
  constructor
  · obtain ⟨pauses, unpauses, limit, hrecord⟩ := State.allocOf_allocatorFirst (r := r) hlink
    have hover := State.setpoint_le_of_freshLimit hlimit
    rw [hrecord, State.recordSecond, State.recordFirst, hlimit, Bool.not_true, Bool.and_false]
    refine AllocRec.agrees_of_latched pauses unpauses limit (fun hended => ?_) ?_
    · cases helig : (s.session p).body.isEligible with
      | true => exact .inl (by rw [SessionRec.leaves, helig, hended]; rfl)
      | false => exact .inr (hidle.atZero hlaw helig)
    · have hexposure := AllocRec.exposure_max_of_overdraw (current := s.currentAt (.fresh p r))
        (overdraw := s.freshOverdraws p r) (rating := s.rating p) (latched := e.fault.isSome)
        (leaves := (s.session p).leaves e.record) pauses unpauses limit hover
        fun _ => State.holdValues_agree (s := s) (p := p) hlink
      rw [State.noncompliantValue, State.noncompliantValue]
      split
      · rfl
      · rw [max_assoc, max_self, max_assoc, max_self]
        exact hexposure
  · rw [State.roundRequest_sessionFirst, State.roundRequest_allocatorFirst]
    by_cases hin : p ∈ s.active
    · have hasks := State.asks_of_mem_active (e := e) hlaw hin
      rw [Bool.or_assoc s.roundRequest, hasks, Bool.or_true, Bool.true_or, Bool.or_assoc, hasks, Bool.or_true]
    · rw [State.capStepAsks_of_off (u := s.setAlloc p _) hin, s.capOf_second, s.capOf_sessionFirst]
      ac_rfl

end Agreement

/-- Settles O41: the two orders end alike, whether the report leaves its pad in place, takes it off the list, or is the sixth
overdraw. -/
theorem reportOrderAgrees : Obligations.ReportOrderAgrees := by
  unfold Obligations.ReportOrderAgrees
  intro p r s hs hlaw hidle _ hraise hlink hhanded
  obtain ⟨hpowered, -⟩ := hs
  obtain ⟨e, he⟩ := s.sessionTaking (.fresh p r)
  have hsettled : ∀ q, (s.allocOf q).Settled := fun q => Nat.not_lt.mp (of_decide_eq_false (hraise q))
  have hsession := State.exec_sessionReport_first hpowered hsettled hhanded he
  have hallocator := State.exec_allocatorReport_first hpowered hsettled hhanded
  cases hlimit : s.freshLimit p r with
  | false =>
    obtain ⟨a, hevent, ha⟩ := State.exec_allocatorReport_second hpowered hsettled hlink he hlimit
    obtain ⟨b, hevent', hb⟩ := State.exec_sessionReport_second hpowered hsettled he hlimit
    obtain ⟨hrecord, hrequest⟩ := State.orders_agree hlaw hidle hlink he hlimit
    refine ⟨_, a, _, b, hsession, hevent, hallocator, hevent', ha.agree hb hrequest ?_⟩
    rw [State.rating_padTaken]
    exact hrecord
  | true =>
    obtain ⟨a, hevent, ha⟩ := State.exec_allocatorReport_second_latch hpowered hlaw hsettled hlink he hlimit
    obtain ⟨b, hevent', hb⟩ := State.exec_sessionReport_second_latch hpowered hsettled he hlimit
    obtain ⟨hrecord, hrequest⟩ := State.orders_agree_of_latch (e := e) hlaw hidle hlink hlimit
    refine ⟨_, a, _, b, hsession, hevent, hallocator, hevent', ha.agree hb hrequest ?_⟩
    rw [State.rating_padTaken, State.rating_padTaken]
    exact hrecord

end Sys2Proof.Machine
end
